-- ==== Sys2Proof/Word.lean ====
section
/-! DEFINITION. The words of the VC3208 model: bytes, and the four bytes of a word named by lane
(R57, R137: lane k of word w is byte 4w + k). Naming a word's bytes by lane keeps the model free of any
choice about which lines of HD or MD carry a lane (the spec gives none). -/

namespace Sys2Proof

/-- One byte of memory or of a frame. -/
abbrev Byte := BitVec 8

/-- A set of lanes: bit k stands for lane k, as line k of HLE and MLE does. -/
abbrev Lanes := BitVec 4

/-- Four things, one for each lane of a word; `b k` is lane k's. -/
structure Quad (α : Type) where
  b0 : α
  b1 : α
  b2 : α
  b3 : α
  deriving DecidableEq, Repr

/-- The four bytes of one word, by lane. -/
abbrev MWord := Quad Byte

/-- Some of the four bytes of one word: a lane that is `none` is not in the lane set and has no value (R57). -/
abbrev LaneData := Quad (Option Byte)

/-- The word of four zero bytes. -/
def MWord.zero : MWord := ⟨0, 0, 0, 0⟩

/-- No lane at all. -/
def LaneData.empty : LaneData := ⟨none, none, none, none⟩

/-- All four lanes, with a word's bytes. -/
def LaneData.full (w : MWord) : LaneData := ⟨some w.b0, some w.b1, some w.b2, some w.b3⟩

/-- The bytes of a word in ascending address order. -/
def MWord.bytes (w : MWord) : List Byte := [w.b0, w.b1, w.b2, w.b3]

end Sys2Proof
end

