-- ==== Sys2Proof/Config.lean ====
section
/-! DEFINITION. The fixed numbers of the part (00_scope, "Fixed numbers") and what the model fixes where the
spec gives nothing (each such constant names its log entry). No result of a command is left undefined by the
spec, so this file holds no opaque free value: what the outside decides (MERR words, torn lanes) is an operand. -/

namespace Sys2Proof.Config

/-- What a byte of persistent memory reads as before anything has written it. DESIGN CHOICE (log 2), unsafe:
the spec gives a new memory no contents. -/
def freshByte : Byte := 0

/-- The default of a pin level before the outside has moved the pin. DESIGN CHOICE (log 3), unsafe. -/
def idlePin : Bool := false

/-- Posting queue: 8 entries (R58). -/
def queueDepth : Nat := 8

/-- Granule table: 256 entries (R39). -/
def tableDepth : Nat := 256

/-- Granule table: at most 8 entries CAPTURING (R39). -/
def capturingLimit : Nat := 8

/-- Event queue: 16 records (R172). -/
def eventDepth : Nat := 16

/-- Drain aging limit: 4 host reads granted while a drain waits (R160). -/
def agingLimit : Nat := 4

/-- A drain burst holds at most 16 entries (R66). -/
def burstLimit : Nat := 16

/-- The largest epoch number, 281,474,976,710,655 (R85). -/
def epochLimit : BitVec 48 := 281474976710655#48

/-- The check-code generator (R23). -/
def generator : BitVec 32 := 0x1EDC6F41#32

/-- The format mark of every header (R109). -/
def formatMark : Nat := 0x56434631

/-- The kind byte of a pre-image record (R21). -/
def preImageKind : Byte := 0xA7#8

end Sys2Proof.Config
end

