-- ==== Sys2Proof/Syntax.lean ====
section
/-! DEFINITION. The commands of the block: one constructor per row of spec/opcode_table.json. The table gives
the rows no fields; a command's operands are what the spec says reaches the device from outside on that event. -/

namespace Sys2Proof

/-- One beat of a memory read that returned MERR, with the word the memory drove on it. The spec says nothing
of that word (R153), so the model takes any. -/
structure BadBeat where
  beat : Nat
  word : MWord
  deriving DecidableEq, Repr

/-- The order of the two things that happen where PFW stands asserted as STARTING is entered, which R127 leaves
open: the strap sample with the request for the read of slot A, and the sample that takes PFW. -/
inductive StartOrder where
  | strapFirst | pfwFirst
  deriving DecidableEq, Repr

/-- What reaches the device as RESETN is released: the level of MSZ[2:0], and, where PFW stands asserted then, which of the
strap sample and PFW comes first. -/
structure ReleaseSample where
  msz : BitVec 3
  order : StartOrder
  deriving DecidableEq, Repr

/-- What reaches it with a sample that shows PFW deasserted: the level of MSZ[2:0]; `again` is given where the first sample in
STARTING shows PFW asserted again, with the order of R127. -/
structure RestartSample where
  msz : BitVec 3
  again : Option StartOrder
  deriving DecidableEq, Repr

/-- A command: one of the device's steps (95_what_each_step_holds). -/
inductive Instr where
  /-- RESETN_ASSERT (R134). `tear` gives, beat by beat from beat 0, the lanes of a write in progress that took
  the new data (R136); beats beyond the list took none. -/
  | resetnAssert (tear : List Lanes)
  /-- RESETN_RELEASE (R134, R1, R127). -/
  | resetnRelease (sample : ReleaseSample)
  /-- SUPPLY_COLLAPSE (R136): `tear` as for RESETN_ASSERT. -/
  | supplyCollapse (tear : List Lanes)
  /-- PFW_TAKEN (R127, R128): a sample that shows PFW asserted. -/
  | pfwTaken
  /-- RESTART (R133, R127). -/
  | restart (sample : RestartSample)
  /-- HOST_WRITE_FIRST_BEAT (R144): HA, HLEN, HLE and the bytes on HD by lane. -/
  | hostWriteFirstBeat (word : BitVec 24) (hlen : BitVec 3) (lanes : Lanes) (data : MWord)
  /-- HOST_WRITE_LATER_BEAT (R145): HLE and the bytes on HD by lane. -/
  | hostWriteLaterBeat (lanes : Lanes) (data : MWord)
  /-- HOST_READ_FIRST_BEAT (R147): HA, HLEN and HLE. -/
  | hostReadFirstBeat (word : BitVec 24) (hlen : BitVec 3) (lanes : Lanes)
  /-- HOST_READ_LATER_BEAT (R147): HLE. -/
  | hostReadLaterBeat (lanes : Lanes)
  /-- HOST_READ_WORD_ARRIVAL (R148): `merr` is none for a clean beat, or the word driven with MERR. -/
  | hostReadWordArrival (merr : Option MWord)
  /-- HOST_READ_COMPLETE (R150). -/
  | hostReadComplete
  /-- COMMIT (R86): a rising edge of EREQ with EOP 01. -/
  | commit
  /-- ROLLBACK (R94): a rising edge of EREQ with EOP 10. -/
  | rollback
  /-- FLUSH (R92): a rising edge of EREQ with EOP 11. -/
  | flush
  /-- ILLEGAL_OPERATION (R83): a rising edge of EREQ with EOP 00. -/
  | illegalOperation
  /-- ANSWER_ACK (R79): the edge after ERES is driven; `ereq` is the level of EREQ sampled on it. -/
  | answerAck (ereq : Bool)
  /-- EREQ_FALL (R80): a sample of EREQ low. -/
  | ereqFall
  /-- DRAIN_WRITE_COMPLETE (R67). -/
  | drainWriteComplete
  /-- PRE_IMAGE_READ_COMPLETE (R27): `merr` lists the beats that returned MERR. -/
  | preImageReadComplete (merr : List BadBeat)
  /-- RECORD_WRITE_COMPLETE (R29). -/
  | recordWriteComplete
  /-- MARK_WRITE_COMPLETE (R53). -/
  | markWriteComplete
  /-- SEAL_COMPLETE (R89). -/
  | sealComplete
  /-- RECORD_READ_COMPLETE (R100): `merr` lists the beats that returned MERR. -/
  | recordReadComplete (merr : List BadBeat)
  /-- RESTORE_WRITE_COMPLETE (R101). -/
  | restoreWriteComplete
  /-- HEADER_READ_COMPLETE (R116): `merr` lists the beats that returned MERR. -/
  | headerReadComplete (merr : List BadBeat)
  /-- RECOVERY_SEAL_COMPLETE (R124). -/
  | recoverySealComplete
  /-- GET_STATUS (R171). -/
  | getStatus
  /-- POP_EVENT (R173). -/
  | popEvent
  /-- POP_EVENT_REMOVAL (R173): the twelfth data byte of a POP_EVENT response is sent. -/
  | popEventRemoval
  /-- GET_ACTIVE (R168). -/
  | getActive
  /-- GET_STAGED (R168). -/
  | getStaged
  /-- STAGE_REGION (R166): the argument bytes. -/
  | stageRegion (index present cls : Byte) (base length : BitVec 16)
  /-- STAGE_LOG (R166): the argument bytes. -/
  | stageLog (capacity : BitVec 16) (policy watermark : Byte)
  /-- APPLY (R167). -/
  | apply
  /-- UNSTAGE (R168). -/
  | unstage
  /-- FORMAT (R169): the format number. -/
  | format (number : BitVec 32)
  /-- UNKNOWN_COMMAND (R165): a command byte that names no command. -/
  | unknownCommand (code : Byte)
  /-- FRAME_END (R164): the rise of SSN. -/
  | frameEnd
  /-- CLEARING_WRITE_COMPLETE (R170). -/
  | clearingWriteComplete
  /-- FORMAT_WRITE_COMPLETE (R170). -/
  | formatWriteComplete
  /-- FRAME_START (R164): the fall of SSN. -/
  | frameStart
  deriving DecidableEq, Repr

end Sys2Proof
end

