-- ==== Sys2Proof/WellFormed.lean ====
section
/-! DEFINITION. Which commands are well formed: operands the event named can really carry. The meanings are
total and do not lean on this; statements may. -/

namespace Sys2Proof

/-- The beats are named in rising order, each below the operation's length (R153: beats are handed over in
beat order, and MERR concerns one beat). -/
def badBeatsWf (length : Nat) : Nat → List BadBeat → Bool
  | _, [] => true
  | least, b :: rest => decide (least ≤ b.beat) && decide (b.beat < length) && badBeatsWf length (b.beat + 1) rest

/-- The command bytes that name a command (R165). -/
def namedCommandBytes : List Byte :=
  [0x01#8, 0x02#8, 0x03#8, 0x04#8, 0x10#8, 0x11#8, 0x20#8, 0x21#8, 0x30#8]

/-- Whether a command is well formed: a tear of at most 64 beats (R152), bad beats that the read has (16, 20
or 64 words, "Operations by requester" of 10), an unknown command byte that names no command (R165). -/
def Instr.wf : Instr → Bool
  | .resetnAssert tear => decide (tear.length ≤ 64)
  | .supplyCollapse tear => decide (tear.length ≤ 64)
  | .preImageReadComplete merr => badBeatsWf 16 0 merr
  | .recordReadComplete merr => badBeatsWf 20 0 merr
  | .headerReadComplete merr => badBeatsWf 64 0 merr
  | .unknownCommand code => !(namedCommandBytes.contains code)
  | .resetnRelease _ => true
  | .pfwTaken => true
  | .restart _ => true
  | .hostWriteFirstBeat _ _ _ _ => true
  | .hostWriteLaterBeat _ _ => true
  | .hostReadFirstBeat _ _ _ => true
  | .hostReadLaterBeat _ => true
  | .hostReadWordArrival _ => true
  | .hostReadComplete => true
  | .commit => true
  | .rollback => true
  | .flush => true
  | .illegalOperation => true
  | .answerAck _ => true
  | .ereqFall => true
  | .drainWriteComplete => true
  | .recordWriteComplete => true
  | .markWriteComplete => true
  | .sealComplete => true
  | .restoreWriteComplete => true
  | .recoverySealComplete => true
  | .getStatus => true
  | .popEvent => true
  | .popEventRemoval => true
  | .getActive => true
  | .getStaged => true
  | .stageRegion _ _ _ _ _ => true
  | .stageLog _ _ _ => true
  | .apply => true
  | .unstage => true
  | .format _ => true
  | .frameEnd => true
  | .clearingWriteComplete => true
  | .formatWriteComplete => true
  | .frameStart => true

end Sys2Proof
end

