-- ==== Sys2Proof/Decode.lean ====
section
/-! DEFINITION. Reading commands from words. spec/opcode_table.json gives its rows no bits; the encoding the spec gives is the
management link's (R163, R165, R176): `linkBytes` is the bytes a link command travels as, `linkCommand` reads them back,
`sdiCommand` reads the samples of SDI, and `decodeTableWord` reads a word as the bytes of a frame. -/

namespace Sys2Proof

/-- The two bytes of a 16-bit field, most significant first (Conventions, "Stored fields"). -/
def bytes16 (v : BitVec 16) : List Byte := [v.extractLsb' 8 8, v.extractLsb' 0 8]

/-- The four bytes of a 32-bit field, most significant first. -/
def bytes32 (v : BitVec 32) : List Byte :=
  [v.extractLsb' 24 8, v.extractLsb' 16 8, v.extractLsb' 8 8, v.extractLsb' 0 8]

/-- The command and argument bytes of a link command, in the order they are sent (R165, R176); none for a
command that does not travel on the link. -/
def linkBytes : Instr → Option (List Byte)
  | .getStatus => some [0x01#8]
  | .popEvent => some [0x02#8]
  | .getActive => some [0x03#8]
  | .getStaged => some [0x04#8]
  | .stageRegion index present cls base length => some ([0x10#8, index, present, cls] ++ bytes16 base ++ bytes16 length)
  | .stageLog capacity policy watermark => some ([0x11#8] ++ bytes16 capacity ++ [policy, watermark])
  | .apply => some [0x20#8]
  | .unstage => some [0x21#8]
  | .format number => some (0x30#8 :: bytes32 number)
  | .unknownCommand code => some [code]
  | _ => none

/-- How many argument bytes a command byte takes (R165). A byte that names no command takes none. -/
def argumentCount (code : Byte) : Nat :=
  if code = 0x10#8 then 7 else if code = 0x11#8 then 4 else if code = 0x30#8 then 4 else 0

/-- The command that a frame's command and argument bytes spell (R165, R176); none while argument bytes are
still missing, or where there are more bytes than the command takes. -/
def linkCommand : List Byte → Option Instr
  | [] => none
  | code :: args =>
    if args.length ≠ argumentCount code then none
    else if code = 0x01#8 then some .getStatus
    else if code = 0x02#8 then some .popEvent
    else if code = 0x03#8 then some .getActive
    else if code = 0x04#8 then some .getStaged
    else if code = 0x20#8 then some .apply
    else if code = 0x21#8 then some .unstage
    else if code = 0x10#8 then
      match args with
      | [i, p, c, b1, b0, l1, l0] => some (.stageRegion i p c (b1 ++ b0) (l1 ++ l0))
      | _ => none
    else if code = 0x11#8 then
      match args with
      | [n1, n0, p, w] => some (.stageLog (n1 ++ n0) p w)
      | _ => none
    else if code = 0x30#8 then
      match args with
      | [f3, f2, f1, f0] => some (.format (f3 ++ f2 ++ f1 ++ f0))
      | _ => none
    else some (.unknownCommand code)

/-! ### SDI -/

/-- The byte that eight samples make, the first sample its most significant bit (R163). -/
def byteOfBits (b7 b6 b5 b4 b3 b2 b1 b0 : Bool) : Byte :=
  BitVec.ofBool b7 ++ BitVec.ofBool b6 ++ BitVec.ofBool b5 ++ BitVec.ofBool b4 ++ BitVec.ofBool b3 ++ BitVec.ofBool b2
    ++ BitVec.ofBool b1 ++ BitVec.ofBool b0

/-- The bytes sampled on SDI since SSN fell; a byte left incomplete is none (R163, R164). -/
def sdiBytes : List Bool → List Byte
  | b7 :: b6 :: b5 :: b4 :: b3 :: b2 :: b1 :: b0 :: rest => byteOfBits b7 b6 b5 b4 b3 b2 b1 b0 :: sdiBytes rest
  | _ => []

/-- The command a frame's samples have spelled, taken with the last bit of its last argument byte; what follows on SDI is
not read (R163). None while a byte of it is missing. -/
def sdiCommand (bits : List Bool) : Option Instr :=
  match sdiBytes bits with
  | [] => none
  | code :: rest => linkCommand (code :: rest.take (argumentCount code))

/-! ### Words -/

/-- The samples of SDI as the host sends a byte (R163). -/
def byteSamples (b : Byte) : List Bool :=
  [b.getLsbD 7, b.getLsbD 6, b.getLsbD 5, b.getLsbD 4, b.getLsbD 3, b.getLsbD 2, b.getLsbD 1, b.getLsbD 0]

/-- The bytes of a word, the first in bits 7..0. -/
def wordBytes (w : Nat) : Nat → List Byte
  | 0 => []
  | n + 1 => BitVec.ofNat 8 w :: wordBytes (w / 256) n

/-- The word whose bytes are these. -/
def bytesWord : List Byte → Nat
  | [] => 0
  | b :: rest => b.toNat + 256 * bytesWord rest

/-- The command a word spells. The opcode table gives its rows no bits; the one encoding the spec gives is the link's, whose
command byte selects the command (R165). So a word is the bytes of a frame in the order they are sent, and spells the command
their samples on SDI take (R163; log 1). -/
def decodeTableWord (nbits w : Nat) : Option Instr :=
  sdiCommand ((wordBytes w (nbits / 8)).flatMap byteSamples)

end Sys2Proof
end

