-- ==== Sys2Proof/Machine/State.lean ====
section
/-! DEFINITION. The state of the block: every register, queue, table, mode and line the spec names, as plain
data, grouped by the block that owns it (00_scope, "Block diagram"), and State.reset. -/

namespace Sys2Proof.Machine

/-! ### Pins -/

/-- The levels of the input pins the device samples. RESETN does not change them. -/
structure Pins where
  /-- RESETN is asserted (R134). -/
  resetLow : Bool
  /-- MSZ[2:0], as last given with a release or a restart (R1). -/
  msz : BitVec 3
  /-- The synchronised PFW level (R127). -/
  pfw : Bool
  /-- EREQ as last sampled (R76). -/
  ereq : Bool
  /-- EOP[1:0] (R76). -/
  eop : BitVec 2
  /-- SSN is low, a frame standing on the link (R164). -/
  ssnLow : Bool
  deriving DecidableEq, Repr

/-! ### Persistent memory -/

/-- The persistent memory: (byte address, byte) pairs in rising address order, none equal to what an unlisted
address reads as (`Config.freshByte`). -/
abbrev Memory := List Host.Cell

/-! ### Configuration and region decoder -/

/-- Decode classes (R12). -/
inductive DecodeClass where
  | guarded | plain | fixed | reserved | outside
  deriving DecidableEq, Repr

/-- One region entry, its bytes as received (R8, R166, R175). -/
structure RegionEntry where
  present : Byte
  cls : Byte
  base : BitVec 16
  length : BitVec 16
  deriving DecidableEq, Repr

/-- The region table: eight entries (R8). -/
structure RegionTable where
  e0 : RegionEntry
  e1 : RegionEntry
  e2 : RegionEntry
  e3 : RegionEntry
  e4 : RegionEntry
  e5 : RegionEntry
  e6 : RegionEntry
  e7 : RegionEntry
  deriving DecidableEq, Repr

/-- A configuration (R109): overflow policy and watermark bytes, log capacity N, region table. -/
structure Configuration where
  policy : Byte
  watermark : Byte
  capacity : BitVec 16
  regions : RegionTable
  deriving DecidableEq, Repr

/-- The derived values of R7. -/
structure Geometry where
  memorySize : Nat
  capacity : Nat
  logStart : Nat
  usableLimit : Nat
  granuleFloor : Nat
  regionCeiling : Nat
  deriving DecidableEq, Repr

/-- The region decoder. -/
structure RegionDecoder where
  /-- The memory size sampled from the strap, in bytes (R1). -/
  memorySize : Option Nat
  /-- The geometry (R7). -/
  geometry : Option Geometry
  /-- The copy of the active region table (R8). -/
  table : Option RegionTable
  deriving DecidableEq, Repr

/-! ### Capture unit -/

/-- Phases of the capture unit (R25). -/
inductive CapturePhase where
  | idle | reading | writing
  deriving DecidableEq, Repr

/-- The capture unit (R25) and the tail it keeps (R20). -/
structure CaptureUnit where
  tail : Nat
  phase : CapturePhase
  /-- The CAPTURING entry being served, named by its granule: the table never holds two entries of one
  granule (R39). -/
  granule : Option Nat
  granted : Bool
  stop : Bool
  /-- The capture buffer; empty when its contents are discarded. -/
  buffer : List MWord
  slot : Option Nat
  /-- The 20 words of the record built on entering WRITING (R28); empty otherwise. -/
  record : List MWord
  deriving DecidableEq, Repr

/-! ### Granule table -/

/-- States of a granule-table entry (R38). -/
inductive EntryState where
  | capturing | logged
  deriving DecidableEq, Repr

/-- A granule-table entry (R38). -/
structure TableEntry where
  granule : Nat
  state : EntryState
  deriving DecidableEq, Repr

/-- Epoch status (R50). -/
inductive EpochStatus where
  | intact | breaking | broken
  deriving DecidableEq, Repr

/-- The granule table, oldest entry first, with the reservation count (R42), the epoch status (R50) and the
exhaustion noted flag (R46). -/
structure GranuleTable where
  entries : List TableEntry
  reservations : Nat
  status : Option EpochStatus
  exhaustionNoted : Bool
  deriving DecidableEq, Repr

/-! ### Posting queue -/

/-- Gates (R57, R63): OPEN, TIED to the table entry of a granule, WAIT_MARK. -/
inductive Gate where
  | opened
  | tied (granule : Nat)
  | waitMark
  deriving DecidableEq, Repr

/-- A posting-queue entry (R57). -/
structure QueueEntry where
  word : Nat
  lanes : LaneData
  cls : DecodeClass
  gate : Gate
  age : BitVec 16
  draining : Bool
  deriving DecidableEq, Repr

/-- The posting queue, head first, with the append counter (R61) and the flush mark (R72). -/
structure PostingQueue where
  entries : List QueueEntry
  counter : BitVec 16
  mark : Option (BitVec 16)
  deriving DecidableEq, Repr

/-! ### Epoch controller -/

/-- Device states (R82). -/
inductive DeviceState where
  | starting | recovering | unformatted | fault | formatting | opened | draining | rollingBack | sealing
  | parking | parked
  deriving DecidableEq, Repr

/-- Fault reasons (R82). -/
inductive FaultReason where
  | strap | header | config | epochLimit
  deriving DecidableEq, Repr

/-- Epoch operations on EOP (R76). -/
inductive Operation where
  | commit | rollback | flush | illegal
  deriving DecidableEq, Repr

/-- Results on ERES (R76). -/
inductive EpochResult where
  | ok | partly | refused | interrupted
  deriving DecidableEq, Repr

/-- Handshake phases (R77). -/
inductive Handshake where
  | idle | working | answered
  deriving DecidableEq, Repr

/-- A request taken and not yet finished (R77). -/
structure Request where
  op : Operation
  abandoned : Bool
  deriving DecidableEq, Repr

/-- An operation with its result, as the last result holds it (R77). -/
structure Answer where
  op : Operation
  result : EpochResult
  deriving DecidableEq, Repr

/-- The epoch controller: device state (R82), epoch number and port state (R77), port lines (R76). -/
structure EpochController where
  state : DeviceState
  faultReason : Option FaultReason
  epoch : Option (BitVec 48)
  phase : Handshake
  pendingRequest : Option Request
  remembered : Option Operation
  lowSeen : Bool
  lastResult : Option Answer
  parkedFrom : Option DeviceState
  eack : Bool
  eres : EpochResult
  /-- The model's own: an answer driven on ERES whose EACK edge has not come (R79; log 17). -/
  answer : Option Answer
  /-- The model's own: PFW has been released in PARKING, and the restart that follows finds it asserted again on its first
  sample, in this order (R127; log 14, 17). -/
  again : Option StartOrder
  deriving DecidableEq, Repr

/-! ### Rollback engine -/

/-- Phases of the rollback engine (R98). -/
inductive EnginePhase where
  | idle | reading | restoring
  deriving DecidableEq, Repr

/-- What a walk serves (R98). -/
inductive Purpose where
  | rollback | recovery
  deriving DecidableEq, Repr

/-- The passes of a recovery (R120). -/
inductive RecoveryPass where
  | scan | walk
  deriving DecidableEq, Repr

/-- The rollback engine (R98, R120). -/
structure RollbackEngine where
  phase : EnginePhase
  purpose : Option Purpose
  cursor : Option Nat
  granted : Bool
  /-- The record buffer; empty when its contents are discarded. -/
  buffer : List MWord
  restored : Nat
  damaged : Nat
  pass : RecoveryPass
  scanEnd : Option Nat
  /-- The model's own: the scan is reading slot cursor + 1 (R121 step 3; log 17). -/
  probing : Bool
  /-- The model's own: the walk of the rollback in hand is done (R103, R104; log 17). -/
  walkDone : Bool
  deriving DecidableEq, Repr

/-! ### Header unit -/

/-- The two header slots (R4). -/
inductive Slot where
  | a | b
  deriving DecidableEq, Repr

/-- Kinds of header write (R112); the two writes of FORMAT carry the number given with it. -/
inductive WriteKind where
  | commitSeal
  | recoverySeal
  | mark
  | clearing (number : BitVec 32)
  | formatWrite (number : BitVec 32)
  deriving DecidableEq, Repr

/-- What a header says (R109): the status of its epoch (BROKEN or INTACT), generation, epoch number, format
number and configuration. -/
structure HeaderRecord where
  broken : Bool
  generation : BitVec 64
  epoch : BitVec 48
  formatNumber : BitVec 32
  config : Configuration
  deriving DecidableEq, Repr

/-- A header write requested and not yet completed (R111). -/
structure WriteRequest where
  kind : WriteKind
  target : Slot
  granted : Bool
  /-- The content, fixed at the grant (R112); none before the grant, and for the clearing write. -/
  content : Option HeaderRecord
  /-- The content took the pending configuration (R87). -/
  wrotePending : Bool
  /-- An APPLY was accepted after the grant (R114). -/
  newer : Bool
  deriving DecidableEq, Repr

/-- A start-up read of a header slot requested and not yet completed (R115). -/
structure ReadRequest where
  slot : Slot
  granted : Bool
  deriving DecidableEq, Repr

/-- Judgements of a slot (R116). -/
inductive Judgement where
  | absent | damaged | unfit | valid
  deriving DecidableEq, Repr

/-- The slot survey of one slot: its judgement and, when it bears the mark, its format number field (R116). -/
structure SlotSurvey where
  judgement : Judgement
  number : Option (BitVec 32)
  deriving DecidableEq, Repr

/-- The header unit (R111). -/
structure HeaderUnit where
  selected : Option Slot
  generation : Option (BitVec 64)
  formatNumber : Option (BitVec 32)
  active : Option Configuration
  pendingConfig : Option Configuration
  writeRequest : Option WriteRequest
  readRequest : Option ReadRequest
  surveyA : Option SlotSurvey
  surveyB : Option SlotSurvey
  /-- The model's own: slot A's header as its start-up read returned it, kept for the selection made on the
  read of slot B (R115, R117; log 17). -/
  readA : Option HeaderRecord
  deriving DecidableEq, Repr

/-! ### Memory port and arbiter -/

/-- Kinds of memory operation ("Operations by requester", 10); a kind fixes its owner and direction. -/
inductive OpKind where
  | headerRead | headerWrite | recordRead | restoreWrite | preImageRead | recordWrite | hostRead | drainWrite
  deriving DecidableEq, Repr

/-- A memory operation (R152): kind, start word address, length in words, for a write the lanes and bytes of
each beat, and the beat in hand. -/
structure MemOp where
  kind : OpKind
  start : Nat
  length : Nat
  data : List LaneData
  beat : Nat
  deriving DecidableEq, Repr

/-- The memory port (R152) and the arbiter's stored state (R157): `op` is none while the port is IDLE. -/
structure MemoryPort where
  op : Option MemOp
  /-- MA[23:0] as last driven. -/
  address : BitVec 24
  /-- The drain aging count (R160). -/
  aging : Nat
  deriving DecidableEq, Repr

/-! ### Host port -/

/-- Responses on HRSP (R137); `none` is code 000. -/
inductive HostResponse where
  | none | ready | wait | split | busy | error
  deriving DecidableEq, Repr

/-- A cycle in progress (R139): direction, the word address of the beat presented or next, beats remaining
with that beat. -/
structure Cycle where
  write : Bool
  word : Nat
  remaining : Nat
  /-- The model's own: the device left OPEN since this write cycle's last answered beat, so its next beat
  ends it (R143; log 11). -/
  overtaken : Bool
  deriving DecidableEq, Repr

/-- A portion in progress (R139). -/
structure Portion where
  cls : DecodeClass
  region : Option Nat
  granule : Nat
  deriving DecidableEq, Repr

/-- Why a presented beat is answered WAIT: the queue cannot take it (R62), a ninth CAPTURING entry (R39),
matching entries that do not cover it (R69), its word is REQUESTED (R148), it needs a host read while one is
GRANTED (R148). -/
inductive WaitReason where
  | queueFull | ninthCapture | partlyCovered | wordPending | readPending
  deriving DecidableEq, Repr

/-- The presented beat awaiting its final response (R139). -/
structure Beat where
  lanes : Lanes
  data : LaneData
  first : Bool
  reason : WaitReason
  deriving DecidableEq, Repr

/-- A read-buffer place that is not EMPTY (R139). -/
inductive Place where
  | requested
  | arrived (word : MWord) (merr : Bool)
  deriving DecidableEq, Repr

/-- The host read requested and not yet completed (R139). -/
structure HostRead where
  start : Nat
  length : Nat
  granted : Bool
  /-- Its cycle has ended: its words are discarded as they arrive (R150). -/
  stale : Bool
  deriving DecidableEq, Repr

/-- The host port (R139), with its response and data lines. -/
structure HostPort where
  cycle : Option Cycle
  portion : Option Portion
  /-- The portion gate (R49). -/
  gate : Option Gate
  beat : Option Beat
  /-- The read buffer by word address; a word not listed is EMPTY. -/
  buffer : List (Nat × Place)
  read : Option HostRead
  /-- The response last given to a beat (log 10). -/
  response : HostResponse
  /-- HD[31:0] of the last final response by lane; none where it carries no defined value (R138). -/
  data : LaneData
  deriving DecidableEq, Repr

/-! ### Management link, events, alarms -/

/-- Frame phases (R164). -/
inductive FramePhase where
  | idle | receiving | responding | spent
  deriving DecidableEq, Repr

/-- The management link (R164) with the staged configuration (R166). -/
structure ManagementLink where
  staged : Configuration
  phase : FramePhase
  bitCount : Nat
  byteCount : Nat
  command : List Byte
  response : List Byte
  pendingRemoval : Bool
  deriving DecidableEq, Repr

/-- Event kinds (R172). -/
inductive EventKind where
  | configApplied | logExhausted | epochBroken | captureFailed | recordDamaged | headerDamaged | recoveryDone
  | epochLost | readFailed | writeRefused | requestAbandoned | requestInterrupted | epochLimit | powerParked
  deriving DecidableEq, Repr

/-- An event record (R172). -/
structure EventRecord where
  kind : EventKind
  epoch : BitVec 48
  detail : BitVec 32
  deriving DecidableEq, Repr

/-- The event queue, head first, with the lost flag (R172). -/
structure EventQueue where
  records : List EventRecord
  lost : Bool
  deriving DecidableEq, Repr

/-- The alarm conditions that are stored (R174); the others follow the device state and the lost flag. -/
structure Alarms where
  watermark : Bool
  exhausted : Bool
  broken : Bool
  deriving DecidableEq, Repr

/-! ### The state -/

/-- The whole block. -/
structure State where
  /-- The input pins. -/
  pins : Pins
  /-- The persistent memory. -/
  mem : Memory
  /-- The region decoder (R1, R7, R8). -/
  dec : RegionDecoder
  /-- The capture unit with the tail (R20, R25). -/
  capture : CaptureUnit
  /-- The granule table (R38). -/
  table : GranuleTable
  /-- The posting queue (R57). -/
  queue : PostingQueue
  /-- The epoch controller (R77, R82). -/
  ctl : EpochController
  /-- The rollback engine (R98). -/
  engine : RollbackEngine
  /-- The header unit (R111). -/
  header : HeaderUnit
  /-- The memory port and the arbiter (R152, R157). -/
  port : MemoryPort
  /-- The host port (R139). -/
  host : HostPort
  /-- The management link (R164). -/
  link : ManagementLink
  /-- The event queue (R172). -/
  events : EventQueue
  /-- The stored alarm conditions (R174). -/
  alarms : Alarms
  /-- The commands waiting, first in first out (the model's own). -/
  pending : List Instr
  deriving DecidableEq, Repr

/-- Why the model stops. -/
inductive Fault where
  /-- Raised where a memory operation completes, hands over a word or is torn at a word at or above the memory
  size, which R2 says does not exist and the device never addresses. Safe: no run reaches it. -/
  | beyondMemory
  deriving DecidableEq, Repr

/-- Why the model answers with no meaning. -/
inductive Refusal where
  /-- Raised by a dispatch arm of a command without a meaning; no arm uses it. Safe. -/
  | notModelled (mnemonic : String)
  deriving DecidableEq, Repr

/-! ### Setters: one per block, so that one lemma per block and setter says what an update leaves alone -/

/-- `s` with its `pins` replaced. -/
def State.setPins (s : State) (x : Pins) : State := { s with pins := x }

/-- `s` with its `mem` replaced. -/
def State.setMem (s : State) (x : Memory) : State := { s with mem := x }

/-- `s` with its `dec` replaced. -/
def State.setDec (s : State) (x : RegionDecoder) : State := { s with dec := x }

/-- `s` with its `capture` replaced. -/
def State.setCapture (s : State) (x : CaptureUnit) : State := { s with capture := x }

/-- `s` with its `table` replaced. -/
def State.setTable (s : State) (x : GranuleTable) : State := { s with table := x }

/-- `s` with its `queue` replaced. -/
def State.setQueue (s : State) (x : PostingQueue) : State := { s with queue := x }

/-- `s` with its `ctl` replaced. -/
def State.setCtl (s : State) (x : EpochController) : State := { s with ctl := x }

/-- `s` with its `engine` replaced. -/
def State.setEngine (s : State) (x : RollbackEngine) : State := { s with engine := x }

/-- `s` with its `header` replaced. -/
def State.setHeader (s : State) (x : HeaderUnit) : State := { s with header := x }

/-- `s` with its `port` replaced. -/
def State.setPort (s : State) (x : MemoryPort) : State := { s with port := x }

/-- `s` with its `host` replaced. -/
def State.setHost (s : State) (x : HostPort) : State := { s with host := x }

/-- `s` with its `link` replaced. -/
def State.setLink (s : State) (x : ManagementLink) : State := { s with link := x }

/-- `s` with its `events` replaced. -/
def State.setEvents (s : State) (x : EventQueue) : State := { s with events := x }

/-- `s` with its `alarms` replaced. -/
def State.setAlarms (s : State) (x : Alarms) : State := { s with alarms := x }

/-- `s` with its `pending` replaced. -/
def State.setPending (s : State) (x : List Instr) : State := { s with pending := x }

/-! ### Reset values (table of section 8.5) -/

/-- The region entry of the default configuration (R135). R135 gives "present no" and no byte, and any byte but 0x01 is no
(R175); the byte 0x00 is the model's choice (DESIGN CHOICE, log 32). -/
def RegionEntry.absent : RegionEntry := ⟨0x00#8, 0x01#8, 0#16, 1#16⟩

/-- The default configuration (R135): N 1024, HOLD, watermark 8, no region. -/
def Configuration.default : Configuration :=
  ⟨0x01#8, 8#8, 1024#16, ⟨.absent, .absent, .absent, .absent, .absent, .absent, .absent, .absent⟩⟩

def RegionDecoder.reset : RegionDecoder := ⟨none, none, none⟩
def CaptureUnit.reset : CaptureUnit := ⟨0, .idle, none, false, false, [], none, []⟩
def GranuleTable.reset : GranuleTable := ⟨[], 0, none, false⟩
def PostingQueue.reset : PostingQueue := ⟨[], 0#16, none⟩
def EpochController.reset : EpochController :=
  ⟨.starting, none, none, .idle, none, none, false, none, none, false, .ok, none, none⟩
def RollbackEngine.reset : RollbackEngine := ⟨.idle, none, none, false, [], 0, 0, .scan, none, false, false⟩
def HeaderUnit.reset : HeaderUnit := ⟨none, none, none, none, none, none, none, none, none, none⟩
def HostPort.reset : HostPort := ⟨none, none, none, none, [], none, .none, LaneData.empty⟩
def ManagementLink.reset : ManagementLink := ⟨Configuration.default, .idle, 0, 0, [], [], false⟩
def EventQueue.reset : EventQueue := ⟨[], false⟩
def Alarms.reset : Alarms := ⟨false, false, false⟩

/-- Every volatile item at its reset value, as at RESETN and at a restart alike (table of section 8.5); the
items the two treat differently (event queue, MA) are left to the two rules (R133, R134). -/
def State.volatileReset (s : State) : State :=
  { s with
    dec := .reset, capture := .reset, table := .reset, queue := .reset, ctl := .reset, engine := .reset
    header := .reset, port := ⟨none, s.port.address, 0⟩, host := .reset, link := .reset, alarms := .reset }

/-- The machine right after reset (R134): RESETN still asserted, every volatile item at its reset value, memory
with nothing listed, pins at their idle levels (log 1, 2, 3), no command waiting. -/
def State.reset : State :=
  { pins := ⟨true, 0#3, Config.idlePin, Config.idlePin, 0#2, Config.idlePin⟩
    mem := []
    dec := .reset, capture := .reset, table := .reset, queue := .reset, ctl := .reset, engine := .reset
    header := .reset, port := ⟨none, 0#24, 0⟩, host := .reset, link := .reset, events := .reset
    alarms := .reset, pending := [] }

end Sys2Proof.Machine
end

