-- ==== Sys2Proof/Machine/Layout.lean ====
section
/-! DEFINITION. Stored layouts (R175, R176), check codes (R23, R110) and the judgement of what is read back
(R24, R100, R116). Every field of more than one byte is most significant byte first (Conventions). -/

namespace Sys2Proof.Machine

/-! ### Bytes and words -/

/-- The low `n` bytes of `v`, most significant first. -/
def be : Nat → Nat → List Byte
  | 0, _ => []
  | n + 1, v => BitVec.ofNat 8 (v >>> (8 * n)) :: be n v

/-- The number that bytes spell, most significant first. -/
def ofBe (bs : List Byte) : Nat := bs.foldl (fun a b => a * 256 + b.toNat) 0

/-- The field of `length` bytes at byte `first`. -/
def field (bs : List Byte) (first length : Nat) : Nat := ofBe ((bs.drop first).take length)

/-- Bytes in ascending address order grouped into words. -/
def wordsOf : List Byte → List MWord
  | a :: b :: c :: d :: rest => ⟨a, b, c, d⟩ :: wordsOf rest
  | _ => []

/-- The bytes of words in ascending address order. -/
def bytesOf (ws : List MWord) : List Byte := ws.flatMap MWord.bytes

/-! ### Check codes -/

/-- One bit of R23 step 2. -/
def crcBit (r : BitVec 32) (bit : Bool) : BitVec 32 :=
  if bit ^^ r.msb then (r <<< 1) ^^^ Config.generator else r <<< 1

/-- One byte, from its most significant bit to its least. -/
def crcByte (r : BitVec 32) (b : Byte) : BitVec 32 :=
  crcBit (crcBit (crcBit (crcBit (crcBit (crcBit (crcBit (crcBit r
    (b.getLsbD 7)) (b.getLsbD 6)) (b.getLsbD 5)) (b.getLsbD 4)) (b.getLsbD 3)) (b.getLsbD 2)) (b.getLsbD 1)) (b.getLsbD 0)

/-- The code of `bs` with the register loaded with `load`: clocked and complemented (R23). -/
def checkCode (load : BitVec 32) (bs : List Byte) : BitVec 32 := ~~~ (bs.foldl crcByte load)

/-- The record check code under a format number (R23): the register is loaded with the number exclusive-ORed
with 0xFFFFFFFF. -/
def recordCode (number : BitVec 32) (covered : List Byte) : BitVec 32 :=
  checkCode (number ^^^ 0xFFFFFFFF#32) covered

/-- The header check code (R110). -/
def headerCode (covered : List Byte) : BitVec 32 := checkCode 0xFFFFFFFF#32 covered

/-! ### Records -/

/-- The 12 head bytes before the check code (R21, R175). -/
def recordHead (slot granule : Nat) (epoch : BitVec 48) : List Byte :=
  Config.preImageKind :: (be 2 slot ++ be 3 granule ++ be 6 epoch.toNat)

/-- The 20 words of a record (R21, R22, R175). -/
def recordWords (number : BitVec 32) (slot granule : Nat) (epoch : BitVec 48) (image : List MWord) : List MWord :=
  let head := recordHead slot granule epoch
  let code := recordCode number (head ++ bytesOf image)
  wordsOf (head ++ be 4 code.toNat) ++ image

/-- The granule index field of a record (R175). -/
def recordGranule (ws : List MWord) : Nat := field (bytesOf ws) 3 3

/-- The image words of a record. -/
def recordImage (ws : List MWord) : List MWord := ws.drop 4

/-- A record passes its check under a format number (R24). -/
def recordPasses (number : BitVec 32) (ws : List MWord) : Bool :=
  let bs := bytesOf ws
  (recordCode number (bs.take 12 ++ (bs.drop 16).take 64)).toNat == field bs 12 4

/-- Tests 2 to 6 of R100 and R120 on the words of a record read: kind, check, slot number, epoch, granule below
the granule floor divided by 64. -/
def recordGood (number : BitVec 32) (epoch : BitVec 48) (floor slot : Nat) (ws : List MWord) : Bool :=
  let bs := bytesOf ws
  field bs 0 1 == Config.preImageKind.toNat && recordPasses number ws && field bs 1 2 == slot
    && field bs 6 6 == epoch.toNat && decide (recordGranule ws < floor / 64)

/-! ### Configurations -/

/-- The eight entries in order. -/
def RegionTable.toList (t : RegionTable) : List RegionEntry := [t.e0, t.e1, t.e2, t.e3, t.e4, t.e5, t.e6, t.e7]

/-- The table with entry `index` replaced (R166); no entry has an index above 7. -/
def RegionTable.setEntry (t : RegionTable) (index : Nat) (e : RegionEntry) : RegionTable :=
  match index with
  | 0 => { t with e0 := e }
  | 1 => { t with e1 := e }
  | 2 => { t with e2 := e }
  | 3 => { t with e3 := e }
  | 4 => { t with e4 := e }
  | 5 => { t with e5 := e }
  | 6 => { t with e6 := e }
  | 7 => { t with e7 := e }
  | _ => t

/-- The 8 bytes of a region entry (R175). -/
def RegionEntry.bytes (e : RegionEntry) : List Byte :=
  [e.present, e.cls] ++ be 2 e.base.toNat ++ be 2 e.length.toNat ++ [0x00#8, 0x00#8]

/-- The region entry in 8 bytes (R175). -/
def RegionEntry.ofBytes (bs : List Byte) : RegionEntry :=
  ⟨BitVec.ofNat 8 (field bs 0 1), BitVec.ofNat 8 (field bs 1 1), BitVec.ofNat 16 (field bs 2 2),
    BitVec.ofNat 16 (field bs 4 2)⟩

/-- The 64 bytes of a region table. -/
def RegionTable.bytes (t : RegionTable) : List Byte := t.toList.flatMap RegionEntry.bytes

/-- The region table in 64 bytes. -/
def RegionTable.ofBytes (bs : List Byte) : RegionTable :=
  ⟨.ofBytes bs, .ofBytes (bs.drop 8), .ofBytes (bs.drop 16), .ofBytes (bs.drop 24), .ofBytes (bs.drop 32),
    .ofBytes (bs.drop 40), .ofBytes (bs.drop 48), .ofBytes (bs.drop 56)⟩

/-- The 68 bytes of a configuration on the link (R176). -/
def Configuration.bytes (c : Configuration) : List Byte :=
  [c.policy, c.watermark] ++ be 2 c.capacity.toNat ++ c.regions.bytes

/-! ### Headers -/

/-- The epoch status byte of a header (R175). -/
def statusByte (broken : Bool) : Byte := if broken then 0x02#8 else 0x01#8

/-- Bytes 0 to 251 of a header slot (R109, R175). -/
def HeaderRecord.covered (h : HeaderRecord) : List Byte :=
  be 4 Config.formatMark ++ [0x01#8, statusByte h.broken, h.config.policy, h.config.watermark]
    ++ be 8 h.generation.toNat ++ be 6 h.epoch.toNat ++ be 2 h.config.capacity.toNat ++ be 4 h.formatNumber.toNat
    ++ List.replicate 4 0x00#8 ++ h.config.regions.bytes ++ List.replicate 156 0x00#8

/-- The 64 words of a header slot, check code included (R109, R110). -/
def HeaderRecord.words (h : HeaderRecord) : List MWord :=
  wordsOf (h.covered ++ be 4 (headerCode h.covered).toNat)

/-- The fields of a header slot as read (R175), whether or not it passes its check. -/
def HeaderRecord.ofBytes (bs : List Byte) : HeaderRecord :=
  { broken := field bs 5 1 == 2
    generation := BitVec.ofNat 64 (field bs 8 8)
    epoch := BitVec.ofNat 48 (field bs 16 6)
    formatNumber := BitVec.ofNat 32 (field bs 24 4)
    config := ⟨BitVec.ofNat 8 (field bs 6 1), BitVec.ofNat 8 (field bs 7 1), BitVec.ofNat 16 (field bs 22 2),
      .ofBytes (bs.drop 32)⟩ }

end Sys2Proof.Machine
end

