-- ==== Sys2Proof/Machine/Decoder.lean ====
section
/-! DEFINITION. The region decoder's arithmetic: strap (R1), slots and log (R4, R5), geometry (R6, R7), validity
(R9, R10), decode (R12), and the judgement of a header slot (R116). -/

namespace Sys2Proof.Machine

/-- The memory size a strap code gives (R1); code 7 is illegal. -/
def memorySizeOf (msz : BitVec 3) : Option Nat := if msz = 7#3 then none else some (1048576 <<< msz.toNat)

/-- The granule index of a word address (R3). -/
def granuleOf (word : Nat) : Nat := word / 16

/-- The host-usable limit L, which is the log start (R6). -/
def usableLimit (size capacity : Nat) : Nat := size - 512 - 80 * capacity

/-- The derived values of R7 (R5, R6). -/
def geometryOf (size capacity : Nat) : Geometry :=
  let limit := usableLimit size capacity
  ⟨size, capacity, limit, limit, 64 * (limit / 64), limit / 65536⟩

/-- The first word of a header slot (R4). -/
def slotWord (size : Nat) : Slot → Nat
  | .a => (size - 512) / 4
  | .b => (size - 256) / 4

/-- The first word of a log slot (R5). -/
def Geometry.logWord (g : Geometry) (i : Nat) : Nat := (g.logStart + 80 * i) / 4

/-- The entry describes a region (R8, R166). -/
def RegionEntry.isPresent (e : RegionEntry) : Bool := e.present == 0x01#8

/-- The class an entry's class byte names (R175); none for an illegal class. -/
def RegionEntry.decodeClass (e : RegionEntry) : Option DecodeClass :=
  if e.cls = 0x01#8 then some .guarded
  else if e.cls = 0x02#8 then some .plain
  else if e.cls = 0x03#8 then some .fixed
  else none

/-- One entry passes the first four tests of R9 under a region ceiling. -/
def RegionEntry.fits (ceiling : Nat) (e : RegionEntry) : Bool :=
  !e.isPresent || (e.decodeClass.isSome && decide (1 ≤ e.length.toNat) && decide (e.length.toNat ≤ 1024)
    && decide (e.base.toNat ≤ 1023) && decide (e.base.toNat + e.length.toNat ≤ ceiling))

/-- Two entries do not overlap (R9): not both present, or one ends at or before the other begins. -/
def RegionEntry.apart (e f : RegionEntry) : Bool :=
  !(e.isPresent && f.isPresent) || decide (e.base.toNat + e.length.toNat ≤ f.base.toNat)
    || decide (f.base.toNat + f.length.toNat ≤ e.base.toNat)

/-- No two entries of a list overlap. -/
def allApart : List RegionEntry → Bool
  | [] => true
  | e :: rest => rest.all (RegionEntry.apart e) && allApart rest

/-- A region table is valid under a region ceiling (R9). -/
def RegionTable.valid (ceiling : Nat) (t : RegionTable) : Bool :=
  t.toList.all (RegionEntry.fits ceiling) && allApart t.toList

/-- A configuration is valid against a memory size (R10). -/
def Configuration.valid (size : Nat) (c : Configuration) : Bool :=
  decide (16 ≤ c.capacity.toNat) && decide (512 + 80 * c.capacity.toNat + 65536 ≤ size)
    && (c.policy == 0x01#8 || c.policy == 0x02#8)
    && decide (1 ≤ c.watermark.toNat) && decide (c.watermark.toNat ≤ 15)
    && c.regions.valid (geometryOf size c.capacity.toNat).regionCeiling

/-- The entry contains the byte address (R12 test 3). -/
def RegionEntry.contains (e : RegionEntry) (a : Nat) : Bool :=
  e.isPresent && decide (65536 * e.base.toNat ≤ a) && decide (a < 65536 * (e.base.toNat + e.length.toNat))

/-- The class and number of the first entry that contains the address, counting from `i`. -/
def findRegion (a : Nat) : Nat → List RegionEntry → Option (DecodeClass × Nat)
  | _, [] => none
  | i, e :: rest =>
    if e.contains a then
      match e.decodeClass with
      | some c => some (c, i)
      | none => findRegion a (i + 1) rest
    else findRegion a (i + 1) rest

/-- Decode of a byte address (R12): class, and the region number where test 3 decided. With no geometry no
address exists, and the class is OUTSIDE; no rule consults the decoder then (R14; log 20). -/
def RegionDecoder.decode (d : RegionDecoder) (a : Nat) : DecodeClass × Option Nat :=
  match d.geometry, d.table with
  | some g, some t =>
    if g.memorySize ≤ a then (.outside, none)
    else if g.granuleFloor ≤ a then (.reserved, none)
    else match findRegion a 0 t.toList with
      | some (c, i) => (c, some i)
      | none => (.plain, none)
  | _, _ => (.outside, none)

/-- The decoder with geometry and table taken from a configuration (R7, R8). -/
def RegionDecoder.load (d : RegionDecoder) (c : Configuration) : RegionDecoder :=
  { d with geometry := some (geometryOf (d.memorySize.getD 0) c.capacity.toNat), table := some c.regions }

/-- The judgement of a header slot from its 256 bytes, the memory size and whether a beat returned MERR (R116,
tests in order). -/
def judgeSlot (size : Nat) (merr : Bool) (bs : List Byte) : Judgement :=
  let h := HeaderRecord.ofBytes bs
  if merr then .damaged
  else if field bs 0 4 ≠ Config.formatMark then .absent
  else if field bs 4 1 ≠ 1 then .damaged
  else if (headerCode (bs.take 252)).toNat ≠ field bs 252 4 then .damaged
  else if (field bs 5 1 ≠ 1 ∧ field bs 5 1 ≠ 2) ∨ h.epoch = 0 ∨ h.generation = 0 then .damaged
  else if !h.config.valid size then .unfit
  else .valid

end Sys2Proof.Machine
end

