-- ==== Sys2Proof/Machine/Operands.lean ====
section
/-! DEFINITION. The operand forms of the commands: length codes (R137), lane sets with their bytes (R57, R60,
R68), words read back with their MERR beats (R153), operation and result codes (R76, R176). -/

namespace Sys2Proof.Machine

/-- The cycle length an HLEN code gives (R137); codes 101 to 111 are illegal. -/
def lengthOf (hlen : BitVec 3) : Option Nat := if 5 ≤ hlen.toNat then none else some (1 <<< hlen.toNat)

/-- The bytes of a word on the lanes enabled. -/
def LaneData.select (lanes : Lanes) (w : MWord) : LaneData :=
  ⟨if lanes.getLsbD 0 then some w.b0 else none, if lanes.getLsbD 1 then some w.b1 else none,
    if lanes.getLsbD 2 then some w.b2 else none, if lanes.getLsbD 3 then some w.b3 else none⟩

/-- Lane by lane the newer byte where it has one, else the older: the merge of R60 and the newest matching
byte of R68. -/
def LaneData.over (newer older : LaneData) : LaneData :=
  ⟨newer.b0 <|> older.b0, newer.b1 <|> older.b1, newer.b2 <|> older.b2, newer.b3 <|> older.b3⟩

/-- Only the lanes enabled. -/
def LaneData.restrict (lanes : Lanes) (d : LaneData) : LaneData :=
  ⟨if lanes.getLsbD 0 then d.b0 else none, if lanes.getLsbD 1 then d.b1 else none,
    if lanes.getLsbD 2 then d.b2 else none, if lanes.getLsbD 3 then d.b3 else none⟩

/-- Every lane enabled has a byte. -/
def LaneData.covers (lanes : Lanes) (d : LaneData) : Bool :=
  (!lanes.getLsbD 0 || d.b0.isSome) && (!lanes.getLsbD 1 || d.b1.isSome) && (!lanes.getLsbD 2 || d.b2.isSome)
    && (!lanes.getLsbD 3 || d.b3.isSome)

/-- The lanes that have a byte. -/
def LaneData.lanes (d : LaneData) : Lanes :=
  BitVec.ofBool d.b3.isSome ++ BitVec.ofBool d.b2.isSome ++ BitVec.ofBool d.b1.isSome ++ BitVec.ofBool d.b0.isSome

/-- The words of a read, each bad beat giving the word the memory drove on it (R153). -/
def withBadBeats (merr : List BadBeat) (ws : List MWord) : List MWord :=
  merr.foldl (fun acc b => acc.set b.beat b.word) ws

/-- The operation of EOP (R76). -/
def Operation.ofEop (eop : BitVec 2) : Operation :=
  if eop = 1#2 then .commit else if eop = 2#2 then .rollback else if eop = 3#2 then .flush else .illegal

/-- The EOP code of an operation (R76). -/
def Operation.eop : Operation → BitVec 2
  | .commit => 1#2
  | .rollback => 2#2
  | .flush => 3#2
  | .illegal => 0#2

/-- An operation as status byte 20 codes it (R176). -/
def Operation.code : Operation → BitVec 8
  | .commit => 1#8
  | .rollback => 2#8
  | .flush => 3#8
  | .illegal => 4#8

/-- A result as ERES and status byte 21 code it (R76, R176). -/
def EpochResult.code : EpochResult → BitVec 8
  | .ok => 0#8
  | .partly => 1#8
  | .refused => 2#8
  | .interrupted => 3#8

/-- A device state as status byte 0 codes it (R176). -/
def DeviceState.code : DeviceState → BitVec 8
  | .starting => 1#8
  | .recovering => 2#8
  | .unformatted => 3#8
  | .fault => 4#8
  | .formatting => 5#8
  | .opened => 6#8
  | .draining => 7#8
  | .rollingBack => 8#8
  | .sealing => 9#8
  | .parking => 10#8
  | .parked => 11#8

/-- A fault reason as status byte 1 codes it (R176). -/
def faultCode : Option FaultReason → BitVec 8
  | none => 0#8
  | some .strap => 1#8
  | some .header => 2#8
  | some .config => 3#8
  | some .epochLimit => 4#8

/-- An epoch status as status byte 2 codes it (R176). -/
def statusCode : Option EpochStatus → BitVec 8
  | none => 0#8
  | some .intact => 1#8
  | some .broken => 2#8
  | some .breaking => 3#8

/-- An event kind as byte 0 of the event record codes it (R176). -/
def EventKind.code : EventKind → BitVec 8
  | .configApplied => 1#8
  | .logExhausted => 2#8
  | .epochBroken => 3#8
  | .captureFailed => 4#8
  | .recordDamaged => 5#8
  | .headerDamaged => 6#8
  | .recoveryDone => 7#8
  | .epochLost => 8#8
  | .readFailed => 9#8
  | .writeRefused => 10#8
  | .requestAbandoned => 11#8
  | .requestInterrupted => 12#8
  | .epochLimit => 13#8
  | .powerParked => 14#8

/-- An event detail from its four bytes, byte 8 of the event record first (R176). -/
def detail4 (b8 b9 b10 b11 : BitVec 8) : BitVec 32 := b8 ++ b9 ++ b10 ++ b11

/-- The detail of WRITE_REFUSED (R144, R176): the cause in byte 8, the granule index in bytes 9 to 11. -/
def refusedDetail (cls : DecodeClass) (region : Option Nat) (granule : Nat) : BitVec 32 :=
  let cause : BitVec 8 := match cls with
    | .fixed => BitVec.ofNat 8 (0x10 + region.getD 0)
    | .reserved => 0x20#8
    | _ => 0x30#8
  cause ++ BitVec.ofNat 24 granule

/-- An event record as POP_EVENT sends it (R176). -/
def EventRecord.bytes (r : EventRecord) : List Byte :=
  [r.kind.code, 0x00#8] ++ be 6 r.epoch.toNat ++ be 4 r.detail.toNat

end Sys2Proof.Machine
end

