-- ==== Sys2Proof/Machine/Flags.lean ====
section
/-! DEFINITION. Events, alarm conditions and the status record: raising an event (R172), the watermark test
(R35), the alarm conditions (R174), GET_STATUS's 24 bytes (R171, R176). -/

namespace Sys2Proof.Machine

/-- An event raised (R172): it joins at the newest end, or, where 16 records stand, is discarded and sets the
lost flag. -/
def State.raise (s : State) (kind : EventKind) (epoch : BitVec 48) (detail : BitVec 32) : State :=
  if s.events.records.length < Config.eventDepth then
    s.setEvents { s.events with records := s.events.records ++ [⟨kind, epoch, detail⟩] }
  else s.setEvents { s.events with lost := true }

/-- The epoch an event of the open epoch carries: the open epoch number, 0 where none has a value (R132, R172). -/
def State.epochNumber (s : State) : BitVec 48 := s.ctl.epoch.getD 0#48

/-- The watermark threshold of a configuration (R35). -/
def Configuration.threshold (c : Configuration) : Nat := c.watermark.toNat * c.capacity.toNat / 16

/-- The log capacity of the active configuration; 0 where none exists (R42, R171). -/
def State.capacity (s : State) : Nat :=
  match s.header.active with
  | some c => c.capacity.toNat
  | none => 0

/-- The free slot count (R42). -/
def State.freeSlots (s : State) : Nat := s.capacity - s.capture.tail - s.table.reservations

/-- The watermark test (R35), applied after every change of the tail or the reservation count (R42). -/
def State.watermarkTest (s : State) : State :=
  match s.header.active with
  | some c =>
    if c.threshold ≤ s.capture.tail + s.table.reservations then s.setAlarms { s.alarms with watermark := true } else s
  | none => s

/-- The device state the conditions UNFORMATTED and FAULT follow: in PARKING and PARKED the one left, for entry to
PARKING changes no alarm condition (R132, R174; log 31). -/
def State.alarmState (s : State) : DeviceState :=
  if s.ctl.state = .parking ∨ s.ctl.state = .parked then s.ctl.parkedFrom.getD s.ctl.state else s.ctl.state

/-- The alarm conditions as status byte 5 codes them, least significant bit first: WATERMARK, EXHAUSTED,
BROKEN, UNFORMATTED, FAULT, EVENTS_LOST (R174, R176). While RESETN is asserted none holds. -/
def State.alarmBits (s : State) : BitVec 8 :=
  if s.pins.resetLow then 0#8
  else 0#2 ++ BitVec.ofBool s.events.lost ++ BitVec.ofBool (s.alarmState == .fault)
    ++ BitVec.ofBool (s.alarmState == .unformatted) ++ BitVec.ofBool s.alarms.broken
    ++ BitVec.ofBool s.alarms.exhausted ++ BitVec.ofBool s.alarms.watermark

/-- The ALARM output (R174). -/
def State.alarm (s : State) : Bool := s.alarmBits != 0#8

/-- The device state the status record shows (R171): from the taking of a ROLLBACK until its seal completes it reads
ROLLING_BACK (R94), also where R104 has entered SEALING (log 34). -/
def State.shownState (s : State) : DeviceState :=
  if s.ctl.state = .sealing ∧ s.ctl.pendingRequest.map Request.op = some .rollback then .rollingBack else s.ctl.state

/-- The status record (R171), laid out as R176 gives it. -/
def State.statusRecord (s : State) : List Byte :=
  [s.shownState.code, faultCode s.ctl.faultReason, statusCode s.table.status,
    if s.header.pendingConfig.isSome then 0x01#8 else 0x00#8, if s.events.lost then 0x01#8 else 0x00#8, s.alarmBits]
  ++ be 6 s.epochNumber.toNat ++ be 2 s.capture.tail ++ be 2 s.capacity
  ++ be 1 s.table.reservations ++ be 1 s.queue.entries.length ++ be 2 s.table.entries.length
  ++ (match s.ctl.lastResult with
      | some a => [a.op.code, a.result.code]
      | none => [0x00#8, 0x00#8])
  ++ be 1 s.events.records.length ++ [0x00#8]

end Sys2Proof.Machine
end

