-- ==== Sys2Proof/Machine/Ops.lean ====
section
/-! DEFINITION. The persistent memory and the memory port: reading and writing bytes and words in canonical form,
torn writes (R136), completions (R152, R156), standing requests, rank, aging and grants (R157 to R160), the
drain burst (R66). -/

namespace Sys2Proof.Machine

/-! ### Persistent memory -/

/-- One byte; an address with no entry reads as `Config.freshByte` (log 2). Every address below the strapped size has a
byte of its own; what a fitted memory smaller than that returns is left to that memory by R2, and the model's choice
(DESIGN CHOICE, log 33) is that no memory is smaller. -/
def Memory.read : Memory → Nat → Byte
  | [], _ => Config.freshByte
  | (k, v) :: rest, a => if k = a then v else Memory.read rest a

/-- Store one byte, keeping the canonical form: writing what an unlisted address reads as removes the entry. -/
def Memory.write : Memory → Nat → Byte → Memory
  | [], a, b => if b = Config.freshByte then [] else [(a, b)]
  | (k, v) :: rest, a, b =>
    if a < k then (if b = Config.freshByte then (k, v) :: rest else (a, b) :: (k, v) :: rest)
    else if a = k then (if b = Config.freshByte then rest else (a, b) :: rest)
    else (k, v) :: Memory.write rest a b

/-- The canonical form: addresses strictly rising, no entry equal to what an unlisted address reads as. -/
def Memory.wf : Memory → Bool
  | [] => true
  | (k, v) :: rest => v != Config.freshByte && rest.all (fun c => decide (k < c.1)) && Memory.wf rest

/-- One word: lane k is byte 4w + k (R57, R137). -/
def Memory.readWord (m : Memory) (w : Nat) : MWord :=
  ⟨m.read (4 * w), m.read (4 * w + 1), m.read (4 * w + 2), m.read (4 * w + 3)⟩

/-- `n` consecutive words. -/
def Memory.readWords (m : Memory) (w : Nat) : Nat → List MWord
  | 0 => []
  | n + 1 => m.readWord w :: m.readWords (w + 1) n

/-- Store a lane's byte, where the lane is written. -/
def Memory.writeLane (m : Memory) (a : Nat) : Option Byte → Memory
  | none => m
  | some b => m.write a b

/-- One beat of a write: a lane whose strobe is deasserted is left as it was (R154). -/
def Memory.writeWord (m : Memory) (w : Nat) (d : LaneData) : Memory :=
  (((m.writeLane (4 * w) d.b0).writeLane (4 * w + 1) d.b1).writeLane (4 * w + 2) d.b2).writeLane (4 * w + 3) d.b3

/-- The beats of a write at consecutive words (R152). -/
def Memory.writeBeats (m : Memory) (w : Nat) : List LaneData → Memory
  | [] => m
  | d :: rest => (m.writeWord w d).writeBeats (w + 1) rest

/-- Words as full beats. -/
def fullBeats (ws : List MWord) : List LaneData := ws.map LaneData.full

/-- What a torn write leaves written: of each beat reached, the strobed lanes the tear lets through (R136, R156;
log 7). -/
def tornBeats : List Lanes → List LaneData → List LaneData
  | [], _ => []
  | _, [] => []
  | l :: ls, d :: ds => LaneData.restrict l d :: tornBeats ls ds

/-! ### The operation in progress -/

/-- A kind's direction (R152, "Operations by requester" of 10). -/
def OpKind.isWrite : OpKind → Bool
  | .headerWrite => true
  | .restoreWrite => true
  | .recordWrite => true
  | .drainWrite => true
  | .headerRead => false
  | .recordRead => false
  | .preImageRead => false
  | .hostRead => false

/-- The beats an operation stores: a write's, one for each of its words; a read stores nothing (R153, R154). -/
def MemOp.stores (o : MemOp) : List LaneData := if o.kind.isWrite then o.data.take o.length else []

/-- The operation lies below the memory size (R2). -/
def MemOp.inside (o : MemOp) (size : Nat) : Bool := decide (o.start + o.length ≤ size / 4)

/-- The owner of an operation of a kind is waiting for its completion. -/
def State.ownerWaits (s : State) : OpKind → Bool
  | .headerRead => match s.header.readRequest with
    | some r => r.granted
    | none => false
  | .headerWrite => match s.header.writeRequest with
    | some r => r.granted
    | none => false
  | .recordRead => s.engine.phase == .reading && s.engine.granted
  | .restoreWrite => s.engine.phase == .restoring && s.engine.granted
  | .preImageRead => s.capture.phase == .reading && s.capture.granted
  | .recordWrite => s.capture.phase == .writing && s.capture.granted
  | .hostRead => match s.host.read with
    | some r => r.granted
    | none => false
  | .drainWrite => true

/-- What a command that names an operation of some kind finds at the port. -/
inductive Completion where
  /-- No such operation is in progress: the event cannot arise (log 5). -/
  | absent
  /-- It reaches past the memory size (R2). -/
  | beyond
  | underway (o : MemOp)
  deriving DecidableEq, Repr

/-- The operation of a kind in progress. -/
def State.completing (s : State) (k : OpKind) : Completion :=
  match s.port.op with
  | none => .absent
  | some o =>
    if o.kind = k ∧ s.ownerWaits k = true then
      if o.inside (s.dec.memorySize.getD 0) then .underway o else .beyond
    else .absent

/-- A command that names an event of an operation: nothing where no such operation is in progress (log 5), the
fault where it reaches past the memory size, else the event's effect. -/
def State.onOperation (s : State) (k : OpKind) (effect : MemOp → State) : Host.Outcome State Fault Refusal :=
  match s.completing k with
  | .absent => .next s
  | .beyond => .fault .beyondMemory
  | .underway o => .next (effect o)

/-- The port's own part of a completion (R152, R156): the bytes of a write are durable, the port is IDLE and MA
holds the last beat's address. -/
def State.finishOp (s : State) (o : MemOp) : State :=
  (s.setMem (s.mem.writeBeats o.start o.stores)).setPort
    { s.port with op := none, address := BitVec.ofNat 24 (o.start + o.length - 1) }

/-- The words a read operation returns (R153). -/
def State.wordsRead (s : State) (o : MemOp) (merr : List BadBeat) : List MWord :=
  withBadBeats merr (s.mem.readWords o.start o.length)

/-- The memory that a cut-off leaves (R134, R136): a write in progress is torn, a read changes nothing; none
where the write reaches past the memory size. -/
def State.tornMemory (s : State) (tear : List Lanes) : Option Memory :=
  match s.port.op with
  | none => some s.mem
  | some o =>
    if o.stores = [] then some s.mem
    else if o.inside (s.dec.memorySize.getD 0) then some (s.mem.writeBeats o.start (tornBeats tear o.stores))
    else none

/-! ### Standing requests -/

/-- PARKING and PARKED, in which nothing is granted and no request that was not granted stands (R128). -/
def DeviceState.stopped : DeviceState → Bool
  | .parking => true
  | .parked => true
  | .starting => false
  | .unformatted => false
  | .fault => false
  | .formatting => false
  | .recovering => false
  | .opened => false
  | .draining => false
  | .rollingBack => false
  | .sealing => false

/-- The five requesters (R158). -/
inductive Requester where
  | header | engine | capture | hostRead | drain
  deriving DecidableEq, Repr

/-- The slot that is not selected (R112). -/
def Slot.other : Slot → Slot
  | .a => .b
  | .b => .a

/-- The target of a mark or a seal (R112): the unselected slot. -/
def HeaderUnit.unselected (h : HeaderUnit) : Slot :=
  match h.selected with
  | some x => x.other
  | none => .a

/-- The content of a header write as its grant fixes it (R52, R87, R112); the clearing write holds no header. -/
def State.headerContent (s : State) : WriteKind → Option HeaderRecord
  | .commitSeal => some ⟨false, s.header.generation.getD 0 + 1, s.epochNumber + 1, s.header.formatNumber.getD 0,
      s.header.pendingConfig.getD (s.header.active.getD .default)⟩
  | .recoverySeal => some ⟨false, s.header.generation.getD 0 + 1, s.epochNumber + 1, s.header.formatNumber.getD 0,
      s.header.active.getD .default⟩
  | .mark => some ⟨true, s.header.generation.getD 0 + 1, s.epochNumber, s.header.formatNumber.getD 0,
      s.header.active.getD .default⟩
  | .clearing _ => none
  | .formatWrite number => some ⟨false, 1, 1, number, s.link.staged⟩

/-- The 64 words of a header write: the header, or the zeros of the clearing write (R112). -/
def headerWords : Option HeaderRecord → List MWord
  | some h => h.words
  | none => List.replicate 64 MWord.zero

/-- The memory size in bytes, 0 where it has no value. -/
def State.size (s : State) : Nat := s.dec.memorySize.getD 0

/-- The first word of a log slot under the active geometry (R5). -/
def State.logWord (s : State) (i : Nat) : Nat :=
  match s.dec.geometry with
  | some g => g.logWord i
  | none => 0

/-- The slot the engine reads: the cursor, or the one above it while the scan probes (R121). -/
def RollbackEngine.slotRead (e : RollbackEngine) : Nat := e.cursor.getD 0 + if e.probing then 1 else 0

/-- The burst beyond the head (R66): `last` is the last word taken, `room` how many more entries may be. -/
def burstTail (head : QueueEntry) : Nat → Nat → List QueueEntry → List QueueEntry
  | _, 0, _ => []
  | _, _, [] => []
  | last, room + 1, e :: rest =>
    if e.word = last + 1 ∧ e.gate = .opened ∧ e.cls = head.cls ∧ granuleOf e.word = granuleOf head.word then
      e :: burstTail head e.word room rest
    else []

/-- The entries a drain write takes when it is granted (R66). -/
def drainBurst : List QueueEntry → List QueueEntry
  | [] => []
  | h :: rest => h :: burstTail h h.word (Config.burstLimit - 1) rest

/-- The drain request stands (R65). -/
def State.drainStands (s : State) : Bool :=
  (match s.queue.entries with
    | [] => false
    | h :: _ => h.gate == .opened)
  && s.queue.entries.all (fun e => !e.draining)
  && (s.ctl.state == .opened || s.ctl.state == .draining || s.ctl.state == .rollingBack)

/-- The operation each requester has standing, granted to none yet (R157, "Operations by requester" of 10). The capture
unit keeps its phase and its entry in PARKING and PARKED, where its request is withdrawn (R33, R128; log 18). -/
def State.standing (s : State) : Requester → Option MemOp
  | .header =>
    match s.header.writeRequest with
    | some w =>
      if w.granted then none
      else some ⟨.headerWrite, slotWord s.size w.target, 64, fullBeats (headerWords (s.headerContent w.kind)), 0⟩
    | none =>
      match s.header.readRequest with
      | some r => if r.granted then none else some ⟨.headerRead, slotWord s.size r.slot, 64, [], 0⟩
      | none => none
  | .engine =>
    if s.engine.granted then none
    else match s.engine.phase with
      | .idle => none
      | .reading => some ⟨.recordRead, s.logWord s.engine.slotRead, 20, [], 0⟩
      | .restoring =>
        some ⟨.restoreWrite, 16 * recordGranule s.engine.buffer, 16, fullBeats (recordImage s.engine.buffer), 0⟩
  | .capture =>
    if s.capture.granted ∨ s.ctl.state.stopped = true then none
    else match s.capture.phase with
      | .idle => none
      | .reading => some ⟨.preImageRead, 16 * s.capture.granule.getD 0, 16, [], 0⟩
      | .writing => some ⟨.recordWrite, s.logWord (s.capture.slot.getD 0), 20, fullBeats s.capture.record, 0⟩
  | .hostRead =>
    match s.host.read with
    | some r => if r.granted then none else some ⟨.hostRead, r.start, r.length, [], 0⟩
    | none => none
  | .drain =>
    if s.drainStands then
      let burst := drainBurst s.queue.entries
      some ⟨.drainWrite, (s.queue.entries.head?.map QueueEntry.word).getD 0, burst.length, burst.map QueueEntry.lanes, 0⟩
    else none

/-! ### The arbiter -/

/-- The requester a grant goes to (R158, R159): by rank, but the drain before the host read at an aging count
of 4. -/
def State.choice (s : State) : Option Requester :=
  if (s.standing .header).isSome then some .header
  else if (s.standing .engine).isSome then some .engine
  else if (s.standing .capture).isSome then some .capture
  else if (s.standing .hostRead).isSome then
    if Config.agingLimit ≤ s.port.aging ∧ (s.standing .drain).isSome then some .drain else some .hostRead
  else if (s.standing .drain).isSome then some .drain
  else none

/-- The drain aging count after a grant (R160). -/
def State.agingAfter (s : State) : Requester → Nat
  | .hostRead => if (s.standing .drain).isSome then s.port.aging + 1 else s.port.aging
  | .drain => 0
  | _ => s.port.aging

/-- The first `n` entries taken into a drain write (R66). -/
def markDraining (n : Nat) (es : List QueueEntry) : List QueueEntry :=
  (es.take n).map (fun e => { e with draining := true }) ++ es.drop n

/-- What a grant does to its owner's state (R159). -/
def State.tellGranted (s : State) : Requester → State
  | .header =>
    match s.header.writeRequest with
    | some w =>
      s.setHeader { s.header with writeRequest := some { w with
        granted := true
        content := s.headerContent w.kind
        wrotePending := w.kind == .commitSeal && s.header.pendingConfig.isSome
        newer := false } }
    | none =>
      match s.header.readRequest with
      | some r => s.setHeader { s.header with readRequest := some { r with granted := true } }
      | none => s
  | .engine => s.setEngine { s.engine with granted := true }
  | .capture => s.setCapture { s.capture with granted := true }
  | .hostRead =>
    match s.host.read with
    | some r => s.setHost { s.host with read := some { r with granted := true } }
    | none => s
  | .drain => s.setQueue { s.queue with entries := markDraining (drainBurst s.queue.entries).length s.queue.entries }

/-- A grant (R159): the operation becomes the one in progress, its address period drives MA. -/
def State.grant (s : State) (r : Requester) (o : MemOp) : State :=
  (s.tellGranted r).setPort ⟨some o, BitVec.ofNat 24 o.start, s.agingAfter r⟩

/-- The arbiter on an event (R159): a grant where the port is IDLE and a request stands; none in PARKING or
PARKED (R128). -/
def State.arbitrate (s : State) : State :=
  if s.port.op.isSome ∨ s.ctl.state = .parking ∨ s.ctl.state = .parked then s
  else match s.choice with
    | none => s
    | some r =>
      match s.standing r with
      | none => s
      | some o => s.grant r o

end Sys2Proof.Machine
end

