-- ==== Sys2Proof/Machine/Queue.lean ====
section
/-! DEFINITION. The posting queue's own operations: merging and appending (R59 to R61), gates (R63), forwarding
(R68), removals (R67, R70, R71), flush marks (R72, R73). -/

namespace Sys2Proof.Machine

/-! ### Taking a beat -/

/-- The newest entry can take a beat by merging (R59). -/
def PostingQueue.merges (q : PostingQueue) (word : Nat) (gate : Gate) : Bool :=
  match q.entries.getLast? with
  | some e => e.word == word && !e.draining && e.gate == gate
  | none => false

/-- The queue can take a beat, by merging or by appending (R59). -/
def PostingQueue.accepts (q : PostingQueue) (word : Nat) (gate : Gate) : Bool :=
  q.merges word gate || decide (q.entries.length < Config.queueDepth)

/-- The newest entry with the beat's bytes over its own (R60). -/
def mergeNewest (data : LaneData) : List QueueEntry → List QueueEntry
  | [] => []
  | [e] => [{ e with lanes := LaneData.over data e.lanes }]
  | e :: rest => e :: mergeNewest data rest

/-- A beat taken (R60, R61): merged into the newest entry, or appended with the counter's age. -/
def PostingQueue.enqueue (q : PostingQueue) (word : Nat) (data : LaneData) (cls : DecodeClass) (gate : Gate) :
    PostingQueue :=
  if q.merges word gate then { q with entries := mergeNewest data q.entries }
  else { q with entries := q.entries ++ [⟨word, data, cls, gate, q.counter, false⟩], counter := q.counter + 1 }

/-! ### Gates -/

/-- A gate after the gates TIED to the named granules' entries have turned (R49, R63). -/
def Gate.retied (granules : List Nat) (turned : Gate) : Gate → Gate
  | .tied g => if granules.contains g then turned else .tied g
  | gate => gate

/-- A gate after the mark write has completed (R49, R63). -/
def Gate.afterMark : Gate → Gate
  | .waitMark => .opened
  | gate => gate

/-- A change of gates, made on every queue entry and on the portion gate (R49, R63). -/
def State.mapGates (s : State) (f : Gate → Gate) : State :=
  (s.setQueue { s.queue with entries := s.queue.entries.map (fun e => { e with gate := f e.gate }) }).setHost
    { s.host with gate := s.host.gate.map f }

/-! ### Forwarding -/

/-- The entries that match a read beat's word (R68), oldest first. -/
def PostingQueue.matching (q : PostingQueue) (word : Nat) : List QueueEntry :=
  q.entries.filter (fun e => e.word == word)

/-- The newest byte each lane has among the matching entries (R68). -/
def PostingQueue.forwarded (q : PostingQueue) (word : Nat) : LaneData :=
  (q.matching word).foldl (fun acc e => LaneData.over e.lanes acc) LaneData.empty

/-! ### Leaving the queue -/

/-- The entries that stay, with the drain aging count reset where the queue becomes empty (R160). -/
def State.keepEntries (s : State) (keep : QueueEntry → Bool) : State :=
  let left := s.queue.entries.filter keep
  (s.setQueue { s.queue with entries := left }).setPort
    { s.port with aging := if left.isEmpty then 0 else s.port.aging }

/-- An age is at or before a flush mark (R72). -/
def atOrBefore (mark age : BitVec 16) : Bool := decide ((mark - age).toNat < 32768)

/-- The standing flush mark is satisfied (R73). -/
def PostingQueue.flushed (q : PostingQueue) : Bool :=
  match q.mark with
  | some m => q.entries.all (fun e => !atOrBefore m e.age)
  | none => false

end Sys2Proof.Machine
end

