-- ==== Sys2Proof/Machine/Captures.lean ====
section
/-! DEFINITION. The granule table (R38 to R42), stopping and cancelling captures (R31, R51, R55), entry to BREAKING
(R51, R52), taking a capture (R26), and the decision of admission (R43 to R48). -/

namespace Sys2Proof.Machine

/-! ### The table -/

/-- The number of entries CAPTURING (R39, R42). -/
def capturingCount (es : List TableEntry) : Nat := es.countP (fun e => e.state == .capturing)

/-- The entry of a granule (R44). -/
def GranuleTable.lookup (t : GranuleTable) (granule : Nat) : Option TableEntry :=
  t.entries.find? (fun e => e.granule == granule)

/-- Entries removed, each CAPTURING one releasing its reservation (R40, R42). -/
def GranuleTable.drop (t : GranuleTable) (gone : TableEntry → Bool) : GranuleTable :=
  { t with
    entries := t.entries.filter (fun e => !gone e)
    reservations := t.reservations - capturingCount (t.entries.filter gone) }

/-- The oldest LOGGED entry removed (R41). -/
def evictOldest : List TableEntry → List TableEntry
  | [] => []
  | e :: rest => if e.state = .logged then rest else e :: evictOldest rest

/-- A new CAPTURING entry, after any eviction, with its reservation (R41, R45). -/
def GranuleTable.enrol (t : GranuleTable) (granule : Nat) : GranuleTable :=
  { t with
    entries := (if Config.tableDepth ≤ t.entries.length then evictOldest t.entries else t.entries)
      ++ [⟨granule, .capturing⟩]
    reservations := t.reservations + 1 }

/-- The CAPTURING entry of a granule made LOGGED, its position kept, its reservation gone (R29, R38, R42). -/
def GranuleTable.logEntry (t : GranuleTable) (granule : Nat) : GranuleTable :=
  { t with
    entries := t.entries.map (fun e => if e.granule = granule then { e with state := .logged } else e)
    reservations := t.reservations
      - capturingCount (t.entries.filter (fun e => e.granule == granule)) }

/-- Table entries removed by a predicate, with the watermark test that follows a change of the count (R42). -/
def State.dropEntries (s : State) (gone : TableEntry → Bool) : State :=
  (s.setTable (s.table.drop gone)).watermarkTest

/-! ### Stopping captures -/

/-- The capture unit IDLE with nothing in hand (R25). -/
def CaptureUnit.toIdle (c : CaptureUnit) : CaptureUnit :=
  { c with phase := .idle, granule := none, granted := false, stop := false, buffer := [], slot := none, record := [] }

/-- The granules an operation on entries names, turned to WAIT_MARK under BREAKING (R31, R51); a rollback turns
no gate (R55). -/
def State.waitForMark (s : State) (granules : List Nat) : State :=
  if s.table.status = some .breaking then s.mapGates (Gate.retied granules .waitMark) else s

/-- The in-flight entry leaves: the unit returns to IDLE and the table removes the entry with its reservation
(R30 steps 3 and 4, R31 step 3). -/
def State.releaseInFlight (s : State) : State :=
  let g := s.capture.granule
  (s.setCapture s.capture.toIdle).dropEntries (fun e => some e.granule == g)

/-- A capture ends stopped (R31). -/
def State.endStopped (s : State) : State :=
  s.releaseInFlight.waitForMark s.capture.granule.toList

/-- A stop request (R31), by the phase it finds. -/
def State.stopCapture (s : State) : State :=
  match s.capture.phase with
  | .reading => if s.capture.granted then s.setCapture { s.capture with stop := true } else s.endStopped
  | .idle => s
  | .writing => s

/-- A CAPTURING entry that is not in flight (R51 step 3, R55 step 2). -/
def State.waitsForCapture (s : State) (e : TableEntry) : Bool :=
  e.state == .capturing && some e.granule != s.capture.granule

/-- Every waiting capture cancelled (R51 step 3, R55 step 2). -/
def State.cancelWaiting (s : State) : State :=
  (s.dropEntries s.waitsForCapture).waitForMark
    ((s.table.entries.filter s.waitsForCapture).map TableEntry.granule)

/-- A header write requested of the header unit (R111, R112). -/
def State.requestWrite (s : State) (kind : WriteKind) (target : Slot) : State :=
  s.setHeader { s.header with writeRequest := some ⟨kind, target, false, none, false, false⟩ }

/-- Entry to BREAKING (R51): from INTACT alone (R50). -/
def State.enterBreaking (s : State) : State :=
  if s.table.status = some .intact then
    let broken := (s.setTable { s.table with status := some .breaking }).stopCapture.cancelWaiting
    broken.requestWrite .mark broken.header.unselected
  else s

/-- The oldest CAPTURING entry (R26). -/
def GranuleTable.oldestCapturing (t : GranuleTable) : Option TableEntry :=
  t.entries.find? (fun e => e.state == .capturing)

/-- The capture unit takes a new capture where R26's four conditions hold. -/
def State.takeCapture (s : State) : State :=
  if s.capture.phase = .idle ∧ (s.ctl.state = .opened ∨ s.ctl.state = .draining) ∧ s.table.status = some .intact then
    match s.table.oldestCapturing with
    | some e =>
      s.setCapture { s.capture with phase := .reading, granule := some e.granule, granted := false, stop := false }
    | none => s
  else s

/-! ### Admission -/

/-- What goes with the gate that admission gives. -/
inductive AdmissionEffect where
  | nothing | newCapture | breakEpoch
  deriving DecidableEq, Repr

/-- The decision of admission (R43): a gate with its effect, BUSY (R46), or the hold of a ninth CAPTURING entry
(R39). -/
inductive Admission where
  | take (gate : Gate) (effect : AdmissionEffect)
  | busy
  | ninth
  deriving DecidableEq, Repr

/-- The overflow policy of the active configuration is BREAK (R175). -/
def State.breakPolicy (s : State) : Bool :=
  match s.header.active with
  | some c => c.policy == 0x02#8
  | none => false

/-- Admission under INTACT (R44 to R47). -/
def State.admissionIntact (s : State) (granule : Nat) : Admission :=
  match s.table.lookup granule with
  | some e => if e.state = .logged then .take .opened .nothing else .take (.tied granule) .nothing
  | none =>
    if 1 ≤ s.freeSlots then
      if Config.capturingLimit ≤ capturingCount s.table.entries then .ninth else .take (.tied granule) .newCapture
    else if s.breakPolicy then .take .waitMark .breakEpoch
    else .busy

/-- Admission (R43 to R48). A status with no value does not arise in OPEN (R50); it is treated as INTACT. -/
def State.admission (s : State) (granule : Nat) : Admission :=
  match s.table.status with
  | some .breaking => .take .waitMark .nothing
  | some .broken => .take .opened .nothing
  | some .intact => s.admissionIntact granule
  | none => s.admissionIntact granule

/-- EXHAUSTED set, and LOG_EXHAUSTED raised once per epoch (R46, R47). -/
def State.noteExhausted (s : State) (granule : Nat) : State :=
  let s := s.setAlarms { s.alarms with exhausted := true }
  if s.table.exhaustionNoted then s
  else (s.raise .logExhausted s.epochNumber (BitVec.ofNat 32 granule)).setTable { s.table with exhaustionNoted := true }

/-- The effect that goes with the gate: nothing (R44, R48), a new capture (R45), or the epoch broken (R47). -/
def State.applyAdmission (s : State) (granule : Nat) : AdmissionEffect → State
  | .nothing => s
  | .newCapture => (s.setTable (s.table.enrol granule)).watermarkTest
  | .breakEpoch => (s.noteExhausted granule).enterBreaking

end Sys2Proof.Machine
end

