-- ==== Sys2Proof/Machine/HostPort.lean ====
section
/-! DEFINITION. The host port's shared operations: ending a cycle (R138, R140, R150), final responses and SPLIT
(R141), offering a write beat (R144, R145), serving a read beat (R147 to R149). -/

namespace Sys2Proof.Machine

/-! ### Responses -/

/-- What becomes of the host read when its cycle ends or PFW is taken (R129, R150): a WAITING one is withdrawn, a
GRANTED one is left to complete with its words discarded. -/
def HostPort.leftRead (h : HostPort) : Option HostRead :=
  match h.read with
  | some r => if r.granted then some { r with stale := true } else none
  | none => none

/-- The end of a cycle (R138, R150): the read buffer is emptied and the host read released. -/
def State.endCycle (s : State) : State :=
  s.setHost { s.host with
    cycle := none
    portion := none
    gate := none
    beat := none
    buffer := []
    read := s.host.leftRead }

/-- A final response that ends the cycle (R138). -/
def State.closeBeat (s : State) (response : HostResponse) (data : LaneData) : State :=
  let s := s.endCycle
  s.setHost { s.host with response := response, data := data }

/-- READY, or SPLIT for a boundary beat, to the presented beat (R138, R141). -/
def State.finishBeat (s : State) (data : LaneData) : State :=
  match s.host.cycle with
  | none => s
  | some c =>
    if c.remaining ≤ 1 then s.closeBeat .ready data
    else if c.word % 16 = 15 then s.closeBeat .split data
    else s.setHost { s.host with
      cycle := some { c with word := c.word + 1, remaining := c.remaining - 1 }
      beat := none
      response := .ready
      data := data }

/-- WAIT: the beat stays presented (R138). -/
def State.holdBeat (s : State) (b : Beat) (reason : WaitReason) : State :=
  s.setHost { s.host with beat := some { b with reason := reason }, response := .wait, data := LaneData.empty }

/-- Truncation (R140): a first beat where the bridge awaits a later beat ends the cycle in progress. -/
def State.truncate (s : State) : State := if s.host.cycle.isSome then s.endCycle else s

/-- A new cycle with its portion (R139, R141). -/
def State.beginCycle (s : State) (c : Cycle) (p : Portion) : State :=
  s.setHost { s.host with cycle := some c, portion := some p, gate := none, beat := none, buffer := [] }

/-- The final response the device state gives a first beat, none where the decoder is consulted (R142). -/
def responseByState (write : Bool) : DeviceState → Option HostResponse
  | .starting => some .busy
  | .recovering => some .busy
  | .unformatted => some .error
  | .fault => some .error
  | .formatting => some .error
  | .opened => none
  | .draining => if write then some .busy else none
  | .sealing => if write then some .busy else none
  | .rollingBack => if write then some .busy else none
  | .parking => some .busy
  | .parked => some .busy

/-! ### Writes -/

/-- The beat's bytes placed in the queue; a beat with no lanes enabled does not enter it (R43, R145). -/
def State.post (s : State) (word : Nat) (b : Beat) (cls : DecodeClass) (gate : Gate) : State :=
  if b.lanes = 0 then s else s.setQueue (s.queue.enqueue word b.data cls gate)

/-- The first beat of a GUARDED write portion presented to admission and the queue (R43): decided as one event. -/
def State.admitBeat (s : State) (c : Cycle) (p : Portion) (b : Beat) : State :=
  match s.admission p.granule with
  | .busy => (s.noteExhausted p.granule).closeBeat .busy LaneData.empty
  | .ninth => s.holdBeat b .ninthCapture
  | .take gate effect =>
    if b.lanes = 0 ∨ s.queue.accepts c.word gate = true then
      let posted := s.post c.word b p.cls gate
      ((posted.setHost { posted.host with gate := some gate }).applyAdmission p.granule effect).finishBeat
        LaneData.empty
    else s.holdBeat b .queueFull

/-- The gate a beat that passes no admission is offered with (R145): OPEN for PLAIN, the portion gate for GUARDED. -/
def State.beatGate (s : State) (p : Portion) : Gate :=
  if p.cls = .guarded then s.host.gate.getD .waitMark else .opened

/-- A write beat offered (R144, R145): through admission for a GUARDED first beat, else to the queue alone. -/
def State.offerWrite (s : State) (c : Cycle) (p : Portion) (b : Beat) : State :=
  if p.cls = .guarded ∧ b.first = true then s.admitBeat c p b
  else if b.lanes = 0 ∨ s.queue.accepts c.word (s.beatGate p) = true then
    (s.post c.word b p.cls (s.beatGate p)).finishBeat LaneData.empty
  else s.holdBeat b .queueFull

/-- The beat as the bus presents it; its reason to wait is set where it waits. -/
def presentedBeat (lanes : Lanes) (data : LaneData) (first : Bool) : Beat := ⟨lanes, data, first, .queueFull⟩

/-- A write beat in hand as the device leaves OPEN (R143): one that is held is answered BUSY, and a write cycle
that awaits its next beat is marked, so that the next beat ends it (log 11). -/
def State.leaveOpen (s : State) : State :=
  match s.host.cycle with
  | some c =>
    if c.write then
      if s.host.beat.isSome then s.closeBeat .busy LaneData.empty
      else s.setHost { s.host with cycle := some { c with overtaken := true } }
    else s
  | none => s

/-! ### Reads -/

/-- The place of a word in the read buffer; none is EMPTY (R139). -/
def HostPort.place (h : HostPort) (word : Nat) : Option Place :=
  (h.buffer.find? (fun p => p.1 == word)).map Prod.snd

/-- A place filled, replacing what it held. -/
def setPlace (buffer : List (Nat × Place)) (word : Nat) (p : Place) : List (Nat × Place) :=
  (word, p) :: buffer.filter (fun q => q.1 != word)

/-- How many of the `room` words from `word` on have no matching queue entry before the first that has (R148). -/
def PostingQueue.freeRun (q : PostingQueue) (word : Nat) : Nat → Nat
  | 0 => 0
  | room + 1 => if (q.matching word).isEmpty then 1 + q.freeRun (word + 1) room else 0

/-- The words of the portion from the presented beat on (R141, R148). -/
def Cycle.wordsLeft (c : Cycle) : Nat := min c.remaining (16 - c.word % 16)

/-- A beat to be served from memory (R148): its host read is requested, or waits while one is outstanding. -/
def State.requestRead (s : State) (c : Cycle) (b : Beat) : State :=
  if s.host.read.isSome then s.holdBeat b .readPending
  else
    let length := 1 + s.queue.freeRun (c.word + 1) (c.wordsLeft - 1)
    let held := s.holdBeat b .wordPending
    held.setHost { held.host with
      read := some ⟨c.word, length, false, false⟩
      buffer := (List.range length).map (fun k => (c.word + k, Place.requested)) ++ held.host.buffer }

/-- A read beat answered ERROR for MERR (R149). -/
def State.failRead (s : State) (word : Nat) : State :=
  (s.raise .readFailed s.epochNumber (BitVec.ofNat 32 (granuleOf word))).closeBeat .error LaneData.empty

/-- A read beat answered from an ARRIVED place (R148, R149). -/
def State.answerWord (s : State) (word : Nat) (lanes : Lanes) (data : MWord) (merr : Bool) : State :=
  if merr then s.failRead word else s.finishBeat (LaneData.select lanes data)

/-- A read beat of an accepted portion served on its presentation (R147). -/
def State.serveRead (s : State) (c : Cycle) (b : Beat) : State :=
  if b.lanes = 0 then s.finishBeat LaneData.empty
  else match s.host.place c.word with
    | some .requested => s.holdBeat b .wordPending
    | some (.arrived data merr) => s.answerWord c.word b.lanes data merr
    | none =>
      if (s.queue.matching c.word).isEmpty then s.requestRead c b
      else if LaneData.covers b.lanes (s.queue.forwarded c.word) then
        s.finishBeat (LaneData.restrict b.lanes (s.queue.forwarded c.word))
      else s.holdBeat b .partlyCovered

/-- A read beat held on matching entries is released when the last of them has left (R69). -/
def State.releaseRead (s : State) : State :=
  match s.host.cycle, s.host.beat with
  | some c, some b =>
    if c.write = false ∧ b.reason = .partlyCovered ∧ (s.queue.matching c.word).isEmpty = true then s.requestRead c b
    else s
  | _, _ => s

/-- A GUARDED read portion is in progress (R96). -/
def State.guardedReadOpen (s : State) : Bool :=
  match s.host.cycle, s.host.portion with
  | some c, some p => !c.write && p.cls == .guarded
  | _, _ => false

/-- A held write beat is due another offer: the queue has lost an entry, turned a gate or started draining one
since `before` (R62), or the CAPTURING entries have fallen below 8 since, for a beat held by R39. -/
def State.offerDue (before s : State) (b : Beat) : Bool :=
  match b.reason with
  | .queueFull => s.queue.entries != before.queue.entries
  | .ninthCapture =>
    decide (Config.capturingLimit ≤ capturingCount before.table.entries)
      && decide (capturingCount s.table.entries < Config.capturingLimit)
  | _ => false

/-- A held write beat offered again where an offer is due (R39, R62); in OPEN alone (R146). -/
def State.reoffer (before s : State) : State :=
  match s.host.cycle, s.host.portion, s.host.beat with
  | some c, some p, some b =>
    if s.ctl.state = .opened ∧ c.write = true ∧ State.offerDue before s b = true then s.offerWrite c p b else s
  | _, _, _ => s

end Sys2Proof.Machine
end

