-- ==== Sys2Proof/Machine/Requests.lean ====
section
/-! DEFINITION. The epoch control port's shared operations: driving and recording answers (R76, R79, R80), taking
a request (R83 to R86, R92, R94), remembered and straddling requests (R78, R81), the commit's wait (R86), the
flush mark's test (R73). -/

namespace Sys2Proof.Machine

/-! ### Answers -/

/-- An answer given (R79): ERES driven on this edge, EACK to rise on the next. -/
def State.driveAnswer (s : State) (op : Operation) (result : EpochResult) : State :=
  s.setCtl { s.ctl with
    phase := .working
    pendingRequest := some ⟨op, false⟩
    answer := some ⟨op, result⟩
    eres := result }

/-- What an abandoned request's result does (R80): the last result, REQUEST_ABANDONED, the request cleared. -/
def State.recordResult (s : State) (a : Answer) : State :=
  let s := s.raise .requestAbandoned s.epochNumber (detail4 0#8 0#8 a.op.code a.result.code)
  s.setCtl { s.ctl with pendingRequest := none, answer := none, lastResult := some a }

/-! ### Taking a request -/

/-- The queue's part of a ROLLBACK (R70): GUARDED entries not draining leave. -/
def staysInRollback (e : QueueEntry) : Bool := e.cls != .guarded || e.draining

/-- A request taken and worked on (R77). -/
def State.workOn (s : State) (op : Operation) : State :=
  s.setCtl { s.ctl with phase := .working, pendingRequest := some ⟨op, false⟩ }

/-- A COMMIT carried out (R86): DRAINING; its wait is tested as the event settles. -/
def State.takeCommit (s : State) : State :=
  let s := s.workOn .commit
  (s.setCtl { s.ctl with state := .draining }).leaveOpen

/-- A ROLLBACK carried out (R94): ROLLING_BACK, the queue's removal (R70), the stop request and the cancelled
captures (R55); the walk is not yet done. -/
def State.takeRollback (s : State) : State :=
  let s := s.workOn .rollback
  let s := s.setCtl { s.ctl with state := .rollingBack }
  let s := ((s.keepEntries staysInRollback).stopCapture.cancelWaiting).leaveOpen
  s.setEngine { s.engine with walkDone := false }

/-- A FLUSH carried out (R92, R72): the mark at the newest entry, or the answer at once on an empty queue. -/
def State.takeFlush (s : State) : State :=
  match s.queue.entries.getLast? with
  | some e => (s.workOn .flush).setQueue { s.queue with mark := some e.age }
  | none => s.driveAnswer .flush .ok

/-- EPOCH_LIMIT from the port, and REFUSED (R85, R176). -/
def State.refuseAtLimit (s : State) (op : Operation) : State :=
  (s.raise .epochLimit s.epochNumber (detail4 1#8 0#8 0#8 op.code)).driveAnswer op .refused

/-- A request taken in OPEN, decided by R83's tests in order. -/
def State.takeRequest (s : State) (op : Operation) : State :=
  match op with
  | .illegal => s.driveAnswer .illegal .refused
  | .commit => if s.epochNumber = Config.epochLimit then s.refuseAtLimit .commit else s.takeCommit
  | .rollback =>
    if s.epochNumber = Config.epochLimit then s.refuseAtLimit .rollback
    else if s.table.status = some .intact then s.takeRollback
    else s.driveAnswer .rollback .refused
  | .flush => s.takeFlush

/-- The remembered request taken where the device is OPEN and no request is pending (R78). -/
def State.takeRemembered (s : State) : State :=
  match s.ctl.remembered with
  | some op =>
    if s.ctl.state = .opened ∧ s.ctl.pendingRequest = none then
      (s.setCtl { s.ctl with remembered := none }).takeRequest op
    else s
  | none => s

/-- The pending request reaches its result: answered (R79) or, if abandoned, recorded, a remembered request then
being taken (R80). -/
def State.reachResult (s : State) (result : EpochResult) : State :=
  match s.ctl.pendingRequest with
  | some r => if r.abandoned then (s.recordResult ⟨r.op, result⟩).takeRemembered else s.driveAnswer r.op result
  | none => s

/-- A rising edge of EREQ by device state (R78, R84). -/
def State.risingEdge (s : State) (op : Operation) : State :=
  match s.ctl.state with
  | .opened => if s.ctl.pendingRequest = none then s.takeRequest op else s.setCtl { s.ctl with remembered := some op }
  | .starting => s.setCtl { s.ctl with remembered := some op }
  | .recovering => s.setCtl { s.ctl with remembered := some op }
  | .formatting => s.setCtl { s.ctl with remembered := some op }
  | .draining => s.setCtl { s.ctl with remembered := some op }
  | .rollingBack => s.setCtl { s.ctl with remembered := some op }
  | .sealing => s.setCtl { s.ctl with remembered := some op }
  | .unformatted => s.driveAnswer op .refused
  | .fault => s.driveAnswer op .refused
  | .parking => s
  | .parked => s

/-- A sample of EREQ low (R79, R80): a remembered request is forgotten; an answer whose EACK has not risen is
recorded as abandoned; a request being worked on is abandoned; an answered handshake ends. -/
def State.ereqLow (s : State) : State :=
  let s := s.setPins { s.pins with ereq := false }
  let s := s.setCtl { s.ctl with lowSeen := true }
  let s := match s.ctl.remembered with
    | some op =>
      (s.raise .requestAbandoned s.epochNumber (detail4 0#8 0#8 op.code 0xFF#8)).setCtl { s.ctl with remembered := none }
    | none => s
  match s.ctl.answer with
  | some a => let s := s.recordResult a; s.setCtl { s.ctl with phase := .idle }
  | none =>
    match s.ctl.phase with
    | .working =>
      s.setCtl { s.ctl with
        phase := .idle
        pendingRequest := s.ctl.pendingRequest.map (fun r => { r with abandoned := true }) }
    | .answered => s.setCtl { s.ctl with phase := .idle, eack := false }
    | .idle => s

/-- The end of a start-up for the port (R78, R81, R117): a straddling level is answered INTERRUPTED in OPEN (with
REQUEST_INTERRUPTED) and REFUSED in UNFORMATTED or FAULT; else a remembered request is taken or REFUSED. -/
def State.endStartUp (s : State) : State :=
  if s.pins.ereq = true ∧ s.ctl.lowSeen = false then
    let op := Operation.ofEop s.pins.eop
    if s.ctl.state = .opened then
      (s.raise .requestInterrupted s.epochNumber (detail4 0#8 0#8 0#8 op.code)).driveAnswer op .interrupted
    else s.driveAnswer op .refused
  else if s.ctl.state = .opened then s.takeRemembered
  else match s.ctl.remembered with
    | some op => (s.setCtl { s.ctl with remembered := none }).driveAnswer op .refused
    | none => s

/-! ### What a request waits for -/

/-- A flush mark satisfied is cleared and the FLUSH reaches OK (R73, R92). -/
def State.flushTest (s : State) : State :=
  if s.queue.flushed then (s.setQueue { s.queue with mark := none }).reachResult .ok else s

/-- The commit's wait is satisfied (R86). -/
def State.commitReady (s : State) : Bool :=
  s.ctl.state == .draining && (s.table.status == some .intact || s.table.status == some .broken)
    && s.capture.phase == .idle && decide (capturingCount s.table.entries = 0) && s.queue.entries.isEmpty

/-- SEALING, with the seal requested of the header unit (R87, R104). -/
def State.requestSeal (s : State) : State :=
  (s.setCtl { s.ctl with state := .sealing }).requestWrite .commitSeal s.header.unselected

/-- The commit's wait tested (R86). -/
def State.commitTest (s : State) : State := if s.commitReady then s.requestSeal else s

end Sys2Proof.Machine
end

