-- ==== Sys2Proof/Machine/Headers.lean ====
section
/-! DEFINITION. What completed header writes have in common (R112), the clearing of the epoch's state (R56, R89),
entering FAULT (R111, R117), the end of recovery (R123). -/

namespace Sys2Proof.Machine

/-- The survey with one slot's entry replaced (R111). -/
def HeaderUnit.setSurvey (h : HeaderUnit) (slot : Slot) (v : SlotSurvey) : HeaderUnit :=
  match slot with
  | .a => { h with surveyA := some v }
  | .b => { h with surveyB := some v }

/-- A completed write of a header selects its slot; generation, epoch number and format number take the values
written, and the survey entry becomes VALID (R112). -/
def State.selectWritten (s : State) (target : Slot) (h : HeaderRecord) : State :=
  (s.setHeader { (s.header.setSurvey target ⟨.valid, some h.formatNumber⟩) with
    selected := some target
    generation := some h.generation
    formatNumber := some h.formatNumber
    writeRequest := none }).setCtl { s.ctl with epoch := some h.epoch }

/-- The effects of a seal or a format write on the epoch's state (R20, R36, R56). -/
def State.clearEpoch (s : State) : State :=
  ((s.setCapture { s.capture with tail := 0 }).setTable ⟨[], 0, some .intact, false⟩).setAlarms ⟨false, false, false⟩

/-- Entry to FAULT (R7, R50, R111, R132): the selection and its values are gone with the geometry; the survey is kept. Only
on EPOCH_LIMIT do they stand before, and there that the decoder's copy of the region table goes with the geometry is the
model's choice (DESIGN CHOICE, log 29). -/
def State.enterFault (s : State) (reason : FaultReason) : State :=
  (((s.setCtl { s.ctl with state := .fault, faultReason := some reason, epoch := none }).setTable
      { s.table with status := none }).setDec { s.dec with geometry := none, table := none }).setHeader
    { s.header with selected := none, generation := none, formatNumber := none, active := none, pendingConfig := none }

/-- The rollback engine IDLE with purpose and cursor none, its counts kept (R98, R103, R123). -/
def RollbackEngine.toIdle (e : RollbackEngine) : RollbackEngine :=
  { e with phase := .idle, purpose := none, cursor := none, granted := false, buffer := [], probing := false }

/-- The end of recovery (R123): the recovery seal requested, or FAULT at the epoch limit. -/
def State.endRecovery (s : State) : State :=
  let s := s.setEngine s.engine.toIdle
  if s.epochNumber = Config.epochLimit then
    ((s.raise .epochLimit s.epochNumber (0x02#8 ++ 0#8 ++ BitVec.ofNat 16 s.engine.restored)).enterFault
      .epochLimit).endStartUp
  else s.requestWrite .recoverySeal s.header.unselected

/-- Effects 1 to 3 of R89 of a seal's completion, with CONFIG_APPLIED where it wrote the pending configuration:
the header selected, the configuration applied, the epoch's state cleared. -/
def State.applySeal (s : State) (w : WriteRequest) (h : HeaderRecord) : State :=
  let s := s.selectWritten w.target h
  let s :=
    if w.wrotePending then
      ((s.setHeader { s.header with
          active := some h.config
          pendingConfig := if w.newer then s.header.pendingConfig else none }).setDec (s.dec.load h.config)).raise
        .configApplied h.epoch (BitVec.ofNat 32 h.config.capacity.toNat)
    else s
  s.clearEpoch

/-- The result of the operation whose seal has completed (R90, R105): OK for a commit; for a rollback OK, or
PARTIAL where a record was skipped. -/
def State.sealResult (s : State) : EpochResult :=
  match s.ctl.pendingRequest with
  | some ⟨.rollback, _⟩ => if s.engine.damaged = 0 then .ok else .partly
  | _ => .ok

end Sys2Proof.Machine
end

