-- ==== Sys2Proof/Machine/Walk.lean ====
section
/-! DEFINITION. The rollback engine's walk and scan: settling (R97, R99), judging records (R100, R120), restoring
and skipping (R101, R102), the recovery scan (R121), the rollback's seal (R104). -/

namespace Sys2Proof.Machine

/-- The engine's next read requested, at a cursor (R101, R102, R121). -/
def State.readSlot (s : State) (cursor : Nat) (probing : Bool) : State :=
  s.setEngine { s.engine with
    phase := .reading, granted := false, cursor := some cursor, probing := probing, buffer := [] }

/-- The walk is done (R103, R122): a rollback's seal then waits for the queue; a recovery ends. -/
def State.finishWalk (s : State) : State :=
  if s.engine.purpose = some .recovery then s.endRecovery
  else s.setEngine { s.engine.toIdle with walkDone := true }

/-- The walk goes to the next lower slot, or is done at slot 0 (R101, R102). -/
def State.stepWalk (s : State) : State :=
  match s.engine.cursor.getD 0 with
  | 0 => s.finishWalk
  | n + 1 => s.readSlot n false

/-- A host rollback is settled and its walk not begun (R97). -/
def State.settled (s : State) : Bool :=
  s.ctl.state == .rollingBack && s.engine.phase == .idle && !s.engine.walkDone && s.capture.phase == .idle
    && decide (capturingCount s.table.entries = 0) && !s.guardedReadOpen

/-- The walk begins (R99): at slot tail - 1, or it is done at once on an empty log. -/
def State.beginWalk (s : State) : State :=
  let s := s.setEngine { s.engine with purpose := some .rollback, restored := 0, damaged := 0 }
  match s.capture.tail with
  | 0 => s.finishWalk
  | n + 1 => s.readSlot n false

/-- The rollback's tests on an event: its walk begins when settled (R97), its seal is requested when the walk is
done and the queue empty (R104). -/
def State.rollbackTest (s : State) : State :=
  let s := if s.settled then s.beginWalk else s
  if s.ctl.state = .rollingBack ∧ s.engine.walkDone = true ∧ s.queue.entries.isEmpty = true then s.requestSeal else s

/-- The granule floor of the active geometry (R7). -/
def State.granuleFloor (s : State) : Nat :=
  match s.dec.geometry with
  | some g => g.granuleFloor
  | none => 0

/-- The record read from the slot the engine reads is good (R100), or valid (R120): no beat returned MERR, and
tests 2 to 6. -/
def State.judgeRecord (s : State) (merr : List BadBeat) (ws : List MWord) : Bool :=
  merr.isEmpty && recordGood (s.header.formatNumber.getD 0) s.epochNumber s.granuleFloor s.engine.slotRead ws

/-- A good record restored (R101): its restore write is requested. -/
def State.restoreRecord (s : State) (ws : List MWord) : State :=
  s.setEngine { s.engine with phase := .restoring, granted := false, buffer := ws }

/-- A record skipped (R102): RECORD_DAMAGED with the slot number, the damaged count, the next slot. -/
def State.skipRecord (s : State) : State :=
  let s := s.raise .recordDamaged s.epochNumber (BitVec.ofNat 32 (s.engine.cursor.getD 0))
  (s.setEngine { s.engine with damaged := s.engine.damaged + 1 }).stepWalk

/-- The scan has ended (R121, R122): the walk starts at the slot below the scan end, or is done at once. -/
def State.endScan (s : State) (scanEnd : Nat) : State :=
  let s := s.setEngine { s.engine with pass := .walk, scanEnd := some scanEnd }
  match scanEnd with
  | 0 => s.finishWalk
  | n + 1 => s.readSlot n false

/-- The log capacity of the active geometry (R7). -/
def State.logCapacity (s : State) : Nat :=
  match s.dec.geometry with
  | some g => g.capacity
  | none => 0

/-- The scan goes on at a slot, or ends with scan end N there (R121 steps 2 and 3). -/
def State.scanFrom (s : State) (slot : Nat) : State :=
  if s.logCapacity ≤ slot then s.endScan s.logCapacity else s.readSlot slot false

/-- The scan takes a judgement (R121): of the slot at the cursor, or of the one above an invalid one. -/
def State.stepScan (s : State) (valid : Bool) : State :=
  let i := s.engine.cursor.getD 0
  if s.engine.probing then (if valid then s.scanFrom (i + 2) else s.endScan i)
  else if valid then s.scanFrom (i + 1)
  else if i + 1 < s.logCapacity then s.readSlot i true
  else s.endScan i

/-- A record read judged for the walk or the scan it serves (R100, R121, R122). -/
def State.takeRecord (s : State) (merr : List BadBeat) (ws : List MWord) : State :=
  let valid := s.judgeRecord merr ws
  if s.engine.purpose = some .recovery ∧ s.engine.pass = .scan then s.stepScan valid
  else if valid then s.restoreRecord ws
  else s.skipRecord

end Sys2Proof.Machine
end

