-- ==== Sys2Proof/Machine/Parking.lean ====
section
/-! DEFINITION. Parking and starting up: what PFW leaves of each block (R128, R129), entering PARKED (R132), the start of a
start-up (R1, R115), PFW on its first sample (R127), the restart (R133), the reset of RESETN (R134). -/

namespace Sys2Proof.Machine

/-! ### Parking -/

/-- The header unit as PFW leaves it (R128): a request not granted is abandoned or withdrawn. -/
def HeaderUnit.park (h : HeaderUnit) : HeaderUnit :=
  { h with
    writeRequest := h.writeRequest.filter WriteRequest.granted
    readRequest := h.readRequest.filter ReadRequest.granted }

/-- The rollback engine as PFW leaves it (R98, R128): with no operation granted it is IDLE. -/
def RollbackEngine.park (e : RollbackEngine) : RollbackEngine := if e.granted then e else e.toIdle

/-- The host port as PFW leaves it (R129): a presented beat that waits is answered BUSY and ends its cycle; else the
host read is withdrawn, or completes with its words discarded. -/
def State.parkHost (s : State) : State :=
  if s.host.beat.isSome then s.closeBeat .busy LaneData.empty
  else s.setHost { s.host with read := s.host.leftRead }

/-- The epoch control port as PFW leaves it (R91, R128): requests are discarded without answer, event or change to the
last result; an EACK standing high stays until EREQ falls (R79). -/
def EpochController.park (c : EpochController) : EpochController :=
  { c with
    state := .parking
    faultReason := none
    parkedFrom := some c.state
    phase := if c.phase = .answered then .answered else .idle
    pendingRequest := none
    remembered := none
    answer := none }

/-- PFW taken (R128): PARKING, with every request not granted withdrawn, the queue left with its draining entries
(R71) and no flush mark. -/
def State.enterParking (s : State) : State :=
  let s := (s.setCtl s.ctl.park).setHeader s.header.park
  let s := (s.setEngine s.engine.park).parkHost
  let s := s.keepEntries QueueEntry.draining
  s.setQueue { s.queue with mark := none }

/-- PARKED entered (R132): POWER_PARKED is raised with the state left and the open epoch. -/
def State.noteParked (s : State) : State :=
  (s.setCtl { s.ctl with state := .parked }).raise .powerParked s.epochNumber
    (detail4 0#8 0#8 0#8 ((s.ctl.parkedFrom.map DeviceState.code).getD 0#8))

/-! ### Starting up -/

/-- The strap sampled (R1, R115): with a legal code the read of slot A is requested, with code 7 FAULT is entered. -/
def State.sampleStrap (s : State) : State :=
  match memorySizeOf s.pins.msz with
  | none => (s.enterFault .strap).endStartUp
  | some size =>
    (s.setDec { s.dec with memorySize := some size }).setHeader { s.header with readRequest := some ⟨.a, false⟩ }

/-- The start of a start-up (R1, R115): the strap sampled, and the read of slot A granted on the IDLE port (R158). -/
def State.startUp (s : State) : State := s.sampleStrap.arbitrate

/-- PFW taken on the first sample in STARTING (R127): with the strap sample first, the request it made is withdrawn, or
FAULT passed through; with PFW first neither is made. The port is IDLE, so the device is PARKED at once (R132). -/
def State.parkAtStart (s : State) (order : StartOrder) : State :=
  (match order with
    | .strapFirst => s.sampleStrap
    | .pfwFirst => s).enterParking.noteParked

/-- A restart (R133): every volatile item but the event queue and its lost flag at its reset value, MA kept, and a
start-up begun; where `again` says so, PFW is asserted again on its first sample and taken there (R127; log 14). -/
def State.beginRestart (s : State) (again : Option StartOrder) : State :=
  match again with
  | none => s.volatileReset.startUp
  | some order => (s.volatileReset.setPins { s.pins with pfw := true }).parkAtStart order

/-- Entry to PARKED (R132); where PFW has been seen deasserted meanwhile, the restart begins on the same event (R133), with
the first sample that the release gave (R127). -/
def State.enterParked (s : State) : State :=
  if s.pins.pfw then s.noteParked else s.noteParked.beginRestart s.ctl.again

/-! ### RESETN -/

/-- RESETN asserted (R134): the memory as the cut-off leaves it, every volatile item at its reset value with the
event queue and the lost flag among them, MA at 0, RESETN standing asserted. -/
def State.resetBy (s : State) (m : Memory) : State :=
  let s := ((s.volatileReset.setMem m).setEvents .reset).setPins { s.pins with resetLow := true }
  s.setPort ⟨none, 0#24, 0⟩

/-- A cut-off by RESETN or by the supply's collapse (R134, R136). -/
def State.cutOff (s : State) (tear : List Lanes) : Host.Outcome State Fault Refusal :=
  match s.tornMemory tear with
  | some m => .next (s.resetBy m)
  | none => .fault .beyondMemory

end Sys2Proof.Machine
end

