-- ==== Sys2Proof/Machine/Settle.lean ====
section
/-! DEFINITION. What follows the effect of every event inside the same step: the tests other blocks make on it
(R26, R39, R62, R69, R86, R97, R104) and the arbiter's grant (R159), or the entry to PARKED (R130, R132). -/

namespace Sys2Proof.Machine

/-- Where a drain write is granted, its entries start draining and a held write beat is offered again (R62), which
may let the capture unit take a capture (R45). -/
def State.grantAndOffer (s : State) : State := (State.reoffer s s.arbitrate).takeCapture

/-- The tests of one event, `before` being the state it found, in the order of log 6: the held write beat, the
held read beat, the next capture, the commit's wait, the rollback's tests, and then the grant among all requests
presented on the event (R159). -/
def State.settle (before s : State) : State :=
  (((((State.reoffer before s).releaseRead).takeCapture).commitTest).rollbackTest).grantAndOffer

/-- What follows a completion: in PARKING the device enters PARKED (R130, R132), else the event's tests. -/
def State.afterCompletion (before s : State) : State :=
  if s.ctl.state = .parking then s.enterParked else State.settle before s

end Sys2Proof.Machine
end

