-- ==== Sys2Proof/Machine/Completions.lean ====
section
/-! DEFINITION. The completions of the drain's, the capture unit's and the rollback engine's operations, and of the
start-up reads (chapters 2, 4, 6, 7). -/

namespace Sys2Proof.Machine

/-- DRAIN_WRITE_COMPLETE (R67): the draining entries leave, the held write beat is offered again (R62), the flush mark is
tested (R73), and the event's other tests follow. The offer comes first: LOG_EXHAUSTED, which admission may raise (R46,
R47), joins before REQUEST_ABANDONED (R80) and EPOCH_LIMIT (R85), which a FLUSH's result may (R172; log 6). -/
def execDrainWriteComplete (s : State) : Host.Outcome State Fault Refusal :=
  s.onOperation .drainWrite fun o =>
    State.afterCompletion s
      ((State.reoffer s ((s.finishOp o).keepEntries (fun e => !e.draining))).flushTest)

/-! ### Captures -/

/-- CAPTURE_FAILED raised where a beat of the pre-image read returned MERR (R30, R31, R33). -/
def State.noteFailure (s : State) (merr : List BadBeat) : State :=
  if merr.isEmpty then s
  else s.raise .captureFailed s.epochNumber (BitVec.ofNat 32 (s.capture.granule.getD 0))

/-- WRITING entered (R28): slot, record and check code fixed, the record write requested. -/
def State.enterWriting (s : State) (image : List MWord) : State :=
  s.setCapture { s.capture with
    phase := .writing
    granted := false
    buffer := image
    slot := some s.capture.tail
    record := recordWords (s.header.formatNumber.getD 0) s.capture.tail (s.capture.granule.getD 0) s.epochNumber image }

/-- A capture failed (R30, R51): its entry leaves, BREAKING is entered, the gates TIED to it wait for the mark. -/
def State.failCapture (s : State) : State :=
  (s.releaseInFlight.enterBreaking).waitForMark s.capture.granule.toList

/-- The pre-image read's completion, by the first row of R27 that holds. -/
def State.takePreImage (s : State) (merr : List BadBeat) (image : List MWord) : State :=
  if s.ctl.state = .parking then (s.noteFailure merr).setCapture { s.capture with buffer := [] }
  else if s.capture.stop then (s.noteFailure merr).endStopped
  else if merr.isEmpty then s.enterWriting image
  else (s.noteFailure merr).failCapture

/-- PRE_IMAGE_READ_COMPLETE (R27, R28, R30, R31, R33). -/
def execPreImageReadComplete (merr : List BadBeat) (s : State) : Host.Outcome State Fault Refusal :=
  s.onOperation .preImageRead fun o =>
    State.afterCompletion s ((s.finishOp o).takePreImage merr (s.wordsRead o merr))

/-- The table's part of a completed record write (R29): the in-flight entry becomes LOGGED, and under BROKEN leaves on
the same completion (R53). -/
def GranuleTable.complete (t : GranuleTable) (granule : Nat) : GranuleTable :=
  if t.status = some .broken then t.drop (fun e => e.granule == granule) else t.logEntry granule

/-- A completed record write (R29): the tail rises, the entry becomes LOGGED, the unit returns to IDLE with the
watermark test (R42), and, outside PARKING, the gates TIED to the entry open. -/
def State.completeCapture (s : State) : State :=
  let g := s.capture.granule.getD 0
  let t := s.setCapture { s.capture.toIdle with tail := s.capture.tail + 1 }
  let t := (t.setTable (t.table.complete g)).watermarkTest
  if s.ctl.state = .parking then t else t.mapGates (Gate.retied [g] .opened)

/-- RECORD_WRITE_COMPLETE (R29, R33). -/
def execRecordWriteComplete (s : State) : Host.Outcome State Fault Refusal :=
  s.onOperation .recordWrite fun o => State.afterCompletion s (s.finishOp o).completeCapture

/-! ### The rollback engine -/

/-- RECORD_READ_COMPLETE (R100, R102, R121, R122): the record is judged; in PARKING it is discarded (R130). -/
def execRecordReadComplete (merr : List BadBeat) (s : State) : Host.Outcome State Fault Refusal :=
  s.onOperation .recordRead fun o =>
    let t := s.finishOp o
    State.afterCompletion s (if t.ctl.state = .parking then t.setEngine t.engine.toIdle
      else t.takeRecord merr (s.wordsRead o merr))

/-- RESTORE_WRITE_COMPLETE (R101, R122): the restored count rises, the walk goes on; in PARKING the engine stops
(R130). -/
def execRestoreWriteComplete (s : State) : Host.Outcome State Fault Refusal :=
  s.onOperation .restoreWrite fun o =>
    let t := s.finishOp o
    let t := t.setEngine { t.engine with restored := t.engine.restored + 1 }
    State.afterCompletion s (if t.ctl.state = .parking then t.setEngine t.engine.toIdle else t.stepWalk)

/-! ### Start-up reads -/

/-- The survey entry of a slot judged (R116): the number field as read where the slot bears the mark. -/
def surveyOf (j : Judgement) (h : HeaderRecord) : SlotSurvey :=
  ⟨j, if j = .absent then none else some h.formatNumber⟩

/-- A slot's judgement in the survey; ABSENT where none stands. -/
def judgementOf (v : Option SlotSurvey) : Judgement := (v.map SlotSurvey.judgement).getD .absent

/-- The slot selected (R117): a VALID one, of two the one with the greater generation, slot A on equal generations. -/
def selection (ja jb : Judgement) (a b : HeaderRecord) : Option Slot :=
  if ja = .valid ∧ jb = .valid then (if a.generation.toNat < b.generation.toNat then some .b else some .a)
  else if ja = .valid then some .a
  else if jb = .valid then some .b
  else none

/-- The values taken on a selection (R118). -/
def State.selectHeader (s : State) (slot : Slot) (h : HeaderRecord) : State :=
  let s := s.setHeader { s.header with
    selected := some slot
    generation := some h.generation
    formatNumber := some h.formatNumber
    active := some h.config
    pendingConfig := none }
  let s := s.setCtl { s.ctl with state := .recovering, epoch := some h.epoch }
  let s := s.setTable { s.table with status := some (if h.broken then .broken else .intact) }
  (s.setDec (s.dec.load h.config)).setLink { s.link with staged := h.config }

/-- HEADER_DAMAGED where the unselected slot is DAMAGED or UNFIT (R117). -/
def State.noteDamagedSlot (s : State) (other : Slot) (j : Judgement) (epoch : BitVec 48) : State :=
  if j = .damaged ∨ j = .unfit then s.raise .headerDamaged epoch (if other = .a then 0#32 else 1#32) else s

/-- The entry to RECOVERING (R119, R120, R121): the end of recovery at once for a BROKEN epoch, with EPOCH_LOST; else
the scan from slot 0. -/
def State.beginRecovery (s : State) (broken : Bool) : State :=
  let s := s.setEngine { s.engine with restored := 0, damaged := 0 }
  if broken then (s.raise .epochLost s.epochNumber 0#32).endRecovery
  else (s.setEngine { s.engine with purpose := some .recovery, pass := .scan, scanEnd := none }).scanFrom 0

/-- A header selected at start-up: HEADER_DAMAGED, the values of R118, and recovery begun. -/
def State.select (s : State) (slot : Slot) (h : HeaderRecord) (other : Judgement) : State :=
  ((s.noteDamagedSlot slot.other other h.epoch).selectHeader slot h).beginRecovery h.broken

/-- No header selected (R117): UNFORMATTED, or FAULT with reason CONFIG or HEADER. -/
def State.selectNone (s : State) (ja jb : Judgement) : State :=
  if ja = .absent ∧ jb = .absent then (s.setCtl { s.ctl with state := .unformatted }).endStartUp
  else if ja = .unfit ∨ jb = .unfit then (s.enterFault .config).endStartUp
  else (s.enterFault .header).endStartUp

/-- The selection (R117) made on the completion of the read of slot B, `b` being its header. -/
def State.selectSlot (s : State) (b : HeaderRecord) : State :=
  let ja := judgementOf s.header.surveyA
  let jb := judgementOf s.header.surveyB
  let a := s.header.readA.getD b
  match selection ja jb a b with
  | some .a => s.select .a a jb
  | some .b => s.select .b b ja
  | none => s.selectNone ja jb

/-- A start-up read completed (R115, R116): its slot judged, the survey updated, then the read of slot B requested or
the selection made; neither in PARKING (R125, R130). -/
def State.takeHeader (s : State) (slot : Slot) (merr : List BadBeat) (ws : List MWord) : State :=
  let bs := bytesOf ws
  let h := HeaderRecord.ofBytes bs
  let t := s.setHeader { (s.header.setSurvey slot (surveyOf (judgeSlot s.size (!merr.isEmpty) bs) h)) with
    readRequest := none }
  if t.ctl.state = .parking then t
  else match slot with
    | .a => t.setHeader { t.header with readA := some h, readRequest := some ⟨.b, false⟩ }
    | .b => t.selectSlot h

/-- HEADER_READ_COMPLETE (R115 to R119). -/
def execHeaderReadComplete (merr : List BadBeat) (s : State) : Host.Outcome State Fault Refusal :=
  s.onOperation .headerRead fun o =>
    State.afterCompletion s ((s.finishOp o).takeHeader ((s.header.readRequest.map ReadRequest.slot).getD .a) merr
      (s.wordsRead o merr))

end Sys2Proof.Machine
end

