-- ==== Sys2Proof/Machine/EpochPort.lean ====
section
/-! DEFINITION. The commands of the epoch control port: the rising edges of EREQ with each operation code, the edge on
which EACK rises, a sample of EREQ low (chapter 5). -/

namespace Sys2Proof.Machine

/-- A rising edge of EREQ with EOP latched (R76, R78, R84). While RESETN is asserted the port takes nothing and only the
levels stand (R134); with EREQ already high there is no edge and only EOP moves (R76). -/
def State.requestEdge (s : State) (op : Operation) : State :=
  let t := s.setPins { s.pins with ereq := true, eop := op.eop }
  if s.pins.resetLow ∨ s.pins.ereq then t
  else State.settle s ((t.setCtl { t.ctl with lowSeen := true }).risingEdge op)

/-- COMMIT (R78, R83, R86). -/
def execCommit (s : State) : Host.Outcome State Fault Refusal := .next (s.requestEdge .commit)

/-- ROLLBACK (R78, R83, R94). -/
def execRollback (s : State) : Host.Outcome State Fault Refusal := .next (s.requestEdge .rollback)

/-- FLUSH (R78, R83, R92). -/
def execFlush (s : State) : Host.Outcome State Fault Refusal := .next (s.requestEdge .flush)

/-- ILLEGAL_OPERATION (R78, R83). -/
def execIllegalOperation (s : State) : Host.Outcome State Fault Refusal := .next (s.requestEdge .illegal)

/-- EACK rises (R79): ANSWERED, the pending request cleared, the last result taken. -/
def EpochController.acknowledge (c : EpochController) (a : Answer) : EpochController :=
  { c with phase := .answered, pendingRequest := none, lastResult := some a, answer := none, eack := true }

/-- ANSWER_ACK (R79): the edge after an answer; with EREQ high EACK rises, with EREQ low the request is abandoned.
With no answer driven there is no such edge (log 5). -/
def execAnswerAck (ereq : Bool) (s : State) : Host.Outcome State Fault Refusal :=
  .next (match s.ctl.answer with
    | some a => if ereq then s.setCtl (s.ctl.acknowledge a) else s.ereqLow
    | none => s)

/-- EREQ_FALL (R79, R80, R77): a sample of EREQ low; while RESETN is asserted only the level stands. -/
def execEreqFall (s : State) : Host.Outcome State Fault Refusal :=
  .next (if s.pins.resetLow then s.setPins { s.pins with ereq := false } else s.ereqLow)

end Sys2Proof.Machine
end

