-- ==== Sys2Proof/Machine/HeaderWrites.lean ====
section
/-! DEFINITION. The completions of the header unit's writes: mark, seal, recovery seal, clearing write, format write
(R53, R89, R112, R124, R170). -/

namespace Sys2Proof.Machine

/-- What a completed header write of some kind does: nothing where the write in progress is of another kind, for the
event named cannot arise then (log 5). -/
def State.onHeaderWrite (s : State) (mine : WriteKind → Bool) (effect : State → WriteRequest → State) :
    Host.Outcome State Fault Refusal :=
  s.onOperation .headerWrite fun o =>
    match s.header.writeRequest with
    | some w => if mine w.kind then State.afterCompletion s (effect (s.finishOp o) w) else s
    | none => s

/-- The content of a write whose grant fixed it; the zeros of a clearing write have none (R112). -/
def WriteRequest.header (w : WriteRequest) : HeaderRecord := w.content.getD ⟨false, 0, 0, 0, .default⟩

/-- The state OPEN entered by a completion, but not from PARKING (R130, R131). -/
def State.openUnlessParking (s : State) : State :=
  if s.ctl.state = .parking then s else s.setCtl { s.ctl with state := .opened }

/-- Effects of a completed mark write (R53): the header selected, BROKEN, the WAIT_MARK gates opened, every entry not
in flight removed, EPOCH_BROKEN with the tail, the alarm. -/
def State.takeMark (s : State) (w : WriteRequest) : State :=
  let s := s.selectWritten w.target w.header
  let s := (s.setTable { s.table with status := some .broken }).mapGates Gate.afterMark
  let s := s.dropEntries (fun e => some e.granule != s.capture.granule)
  let s := s.raise .epochBroken s.epochNumber (BitVec.ofNat 32 s.capture.tail)
  s.setAlarms { s.alarms with broken := true }

/-- MARK_WRITE_COMPLETE (R53). -/
def execMarkWriteComplete (s : State) : Host.Outcome State Fault Refusal :=
  s.onHeaderWrite (fun k => k == .mark) State.takeMark

/-- Effects of a completed seal of a commit or a rollback (R89): effects 1 to 3, then OPEN, the result and a remembered
request; in PARKING effects 1 to 3 alone (R91, R130). That its events join in the order of R89's items is the model's
choice: CONFIG_APPLIED, REQUEST_ABANDONED (R80), a remembered request's EPOCH_LIMIT (R85; log 35). -/
def State.takeSeal (s : State) (w : WriteRequest) : State :=
  let result := s.sealResult
  let s := s.applySeal w w.header
  if s.ctl.state = .parking then s
  else ((s.setCtl { s.ctl with state := .opened }).reachResult result).takeRemembered

/-- SEAL_COMPLETE (R89, R105). -/
def execSealComplete (s : State) : Host.Outcome State Fault Refusal :=
  s.onHeaderWrite (fun k => k == .commitSeal) State.takeSeal

/-- Effects of a completed recovery seal (R124): effects 1 and 3 of R89, RECOVERY_DONE, OPEN, and the port's end of a
start-up (R81); in PARKING neither OPEN nor an answer. That a remembered request's EPOCH_LIMIT (R85) joins behind RECOVERY_DONE is
the model's choice (log 35). -/
def State.takeRecoverySeal (s : State) (w : WriteRequest) : State :=
  let s := (s.selectWritten w.target w.header).clearEpoch
  let s := s.raise .recoveryDone s.epochNumber (BitVec.ofNat 32 s.engine.restored)
  if s.ctl.state = .parking then s else (s.setCtl { s.ctl with state := .opened }).endStartUp

/-- RECOVERY_SEAL_COMPLETE (R124). -/
def execRecoverySealComplete (s : State) : Host.Outcome State Fault Refusal :=
  s.onHeaderWrite (fun k => k == .recoverySeal) State.takeRecoverySeal

/-- The format number a write of FORMAT carries. -/
def WriteKind.number : WriteKind → BitVec 32
  | .clearing n => n
  | .formatWrite n => n
  | .commitSeal => 0
  | .recoverySeal => 0
  | .mark => 0

/-- A clearing write. -/
def WriteKind.isClearing : WriteKind → Bool
  | .clearing _ => true
  | .formatWrite _ => false
  | .commitSeal => false
  | .recoverySeal => false
  | .mark => false

/-- A format write. -/
def WriteKind.isFormatWrite : WriteKind → Bool
  | .clearing _ => false
  | .formatWrite _ => true
  | .commitSeal => false
  | .recoverySeal => false
  | .mark => false

/-- Effects of a completed clearing write (R112, R170 step 2): slot B ABSENT, no slot selected, the format write
requested; in PARKING no request (R131). -/
def State.takeClearing (s : State) (w : WriteRequest) : State :=
  let s := s.setHeader { s.header with surveyB := some ⟨.absent, none⟩, selected := none, writeRequest := none }
  if s.ctl.state = .parking then s else s.requestWrite (.formatWrite w.kind.number) .a

/-- CLEARING_WRITE_COMPLETE (R170). -/
def execClearingWriteComplete (s : State) : Host.Outcome State Fault Refusal :=
  s.onHeaderWrite WriteKind.isClearing State.takeClearing

/-- Effects of a completed format write (R170 step 3, R56): slot A selected, epoch 1, the configuration written active,
geometry and table, the epoch's state clear, OPEN and a remembered request; in PARKING the state stays (R131). -/
def State.takeFormat (s : State) (w : WriteRequest) : State :=
  let h := w.header
  let s := s.selectWritten w.target h
  let s := (s.setHeader { s.header with active := some h.config, pendingConfig := none }).setDec (s.dec.load h.config)
  s.clearEpoch.openUnlessParking.takeRemembered

/-- FORMAT_WRITE_COMPLETE (R170). -/
def execFormatWriteComplete (s : State) : Host.Outcome State Fault Refusal :=
  s.onHeaderWrite WriteKind.isFormatWrite State.takeFormat

end Sys2Proof.Machine
end

