-- ==== Sys2Proof/Machine/HostBus.lean ====
section
/-! DEFINITION. The commands of the host bus: first and later beats of write and read cycles, the arrival of a host
read's words and its completion (chapter 9). -/

namespace Sys2Proof.Machine

/-- The bridge takes a first beat (R134, R137): RESETN is not asserted and no beat awaits its final response. -/
def State.takesFirstBeat (s : State) : Bool := !s.pins.resetLow && s.host.beat.isNone

/-- A later beat can be presented (R137): a cycle of its direction is in progress and its last beat is answered. -/
def State.laterBeat (s : State) (write : Bool) : Option (Cycle × Portion) :=
  match s.host.cycle, s.host.portion, s.host.beat with
  | some c, some p, none => if !s.pins.resetLow && c.write == write then some (c, p) else none
  | _, _, _ => none

/-- The final response a first beat gets before any decode (R140, R142): by device state, or ERROR for an illegal
length code. -/
def State.earlyResponse (s : State) (write : Bool) (hlen : BitVec 3) : Option HostResponse :=
  match responseByState write s.ctl.state with
  | some r => some r
  | none => if (lengthOf hlen).isNone then some .error else none

/-- A write refused by class (R144): ERROR and WRITE_REFUSED. -/
def State.refuseWrite (s : State) (cls : DecodeClass) (region : Option Nat) (word : Nat) : State :=
  (s.raise .writeRefused s.epochNumber (refusedDetail cls region (granuleOf word))).closeBeat .error LaneData.empty

/-- A write first beat decoded in OPEN (R144). -/
def State.decodeWrite (s : State) (word length : Nat) (lanes : Lanes) (data : MWord) : State :=
  let (cls, region) := s.dec.decode (4 * word)
  if cls = .guarded ∨ cls = .plain then
    let c : Cycle := ⟨true, word, length, false⟩
    let p : Portion := ⟨cls, region, granuleOf word⟩
    (s.beginCycle c p).offerWrite c p (presentedBeat lanes (LaneData.select lanes data) true)
  else s.refuseWrite cls region word

/-- A read first beat decoded (R147): ERROR outside the host's memory, BUSY for GUARDED in ROLLING_BACK (R95), else
the portion is accepted and the beat served. -/
def State.decodeRead (s : State) (word length : Nat) (lanes : Lanes) : State :=
  let (cls, region) := s.dec.decode (4 * word)
  if cls = .reserved ∨ cls = .outside then s.closeBeat .error LaneData.empty
  else if cls = .guarded ∧ s.ctl.state = .rollingBack then s.closeBeat .busy LaneData.empty
  else
    let c : Cycle := ⟨false, word, length, false⟩
    let p : Portion := ⟨cls, region, granuleOf word⟩
    (s.beginCycle c p).serveRead c (presentedBeat lanes LaneData.empty true)

/-- HOST_WRITE_FIRST_BEAT (R140, R142, R144). HSTART while a beat awaits its response is ignored (R137). -/
def execHostWriteFirstBeat (word : BitVec 24) (hlen : BitVec 3) (lanes : Lanes) (data : MWord) (s : State) :
    Host.Outcome State Fault Refusal :=
  .next (if s.takesFirstBeat then
    State.settle s (match s.truncate.earlyResponse true hlen with
      | some r => s.truncate.closeBeat r LaneData.empty
      | none => s.truncate.decodeWrite word.toNat ((lengthOf hlen).getD 1) lanes data)
  else s)

/-- A later write beat (R143, R145): BUSY outside OPEN, and where the device has left OPEN since the cycle's last
answered beat (log 11); else offered with the portion gate. -/
def State.laterWrite (s : State) (c : Cycle) (p : Portion) (lanes : Lanes) (data : MWord) : State :=
  if s.ctl.state = .opened ∧ c.overtaken = false then
    s.offerWrite c p (presentedBeat lanes (LaneData.select lanes data) false)
  else s.closeBeat .busy LaneData.empty

/-- HOST_WRITE_LATER_BEAT (R143, R145). With no write cycle awaiting a beat there is none to present (log 5). -/
def execHostWriteLaterBeat (lanes : Lanes) (data : MWord) (s : State) : Host.Outcome State Fault Refusal :=
  .next (match s.laterBeat true with
    | some (c, p) => State.settle s (s.laterWrite c p lanes data)
    | none => s)

/-- HOST_READ_FIRST_BEAT (R140, R142, R147). -/
def execHostReadFirstBeat (word : BitVec 24) (hlen : BitVec 3) (lanes : Lanes) (s : State) :
    Host.Outcome State Fault Refusal :=
  .next (if s.takesFirstBeat then
    State.settle s (match s.truncate.earlyResponse false hlen with
      | some r => s.truncate.closeBeat r LaneData.empty
      | none => s.truncate.decodeRead word.toNat ((lengthOf hlen).getD 1) lanes)
  else s)

/-- The device states in which the beats of an accepted read portion are served (R143, R147). -/
def DeviceState.servesReads : DeviceState → Bool
  | .opened => true
  | .draining => true
  | .sealing => true
  | .rollingBack => true
  | .starting => false
  | .recovering => false
  | .unformatted => false
  | .fault => false
  | .formatting => false
  | .parking => false
  | .parked => false

/-- HOST_READ_LATER_BEAT (R143, R147): BUSY in PARKING and PARKED (R129). -/
def execHostReadLaterBeat (lanes : Lanes) (s : State) : Host.Outcome State Fault Refusal :=
  .next (match s.laterBeat false with
    | some (c, _) =>
      State.settle s (if s.ctl.state.servesReads then s.serveRead c (presentedBeat lanes LaneData.empty false)
        else s.closeBeat .busy LaneData.empty)
    | none => s)

/-- A word handed over by the host read in progress (R148, R153), placed in the read buffer unless its cycle has ended
(R150). -/
def State.placeWord (s : State) (word : Nat) (data : MWord) (merr : Bool) : State :=
  match s.host.read with
  | some r =>
    if r.stale then s else s.setHost { s.host with buffer := setPlace s.host.buffer word (.arrived data merr) }
  | none => s

/-- The presented beat answered on the arrival of its word (R148). -/
def State.answerArrived (s : State) (word : Nat) (data : MWord) (merr : Bool) : State :=
  match s.host.cycle, s.host.beat with
  | some c, some b =>
    if c.write = false ∧ b.reason = .wordPending ∧ c.word = word then s.answerWord word b.lanes data merr else s
  | _, _ => s

/-- The arrival of the word of the beat in hand of the host read `o` (R148, R152): the port goes to the next beat. -/
def State.takeWord (s : State) (o : MemOp) (merr : Option MWord) : State :=
  let word := o.start + o.beat
  let data := merr.getD (s.mem.readWord word)
  let s := s.setPort { s.port with op := some { o with beat := o.beat + 1 }, address := BitVec.ofNat 24 word }
  (s.placeWord word data merr.isSome).answerArrived word data merr.isSome

/-- HOST_READ_WORD_ARRIVAL (R148, R149): the next word of the host read in progress is handed over. -/
def execHostReadWordArrival (merr : Option MWord) (s : State) : Host.Outcome State Fault Refusal :=
  s.onOperation .hostRead fun o => if o.beat < o.length then State.settle s (s.takeWord o merr) else s

/-- A read beat that waited for the host read in progress requests its own (R148). -/
def State.requestWaiting (s : State) : State :=
  match s.host.cycle, s.host.beat with
  | some c, some b => if c.write = false ∧ b.reason = .readPending then s.requestRead c b else s
  | _, _ => s

/-- HOST_READ_COMPLETE (R150): all its words being handed over, the read request returns to none. -/
def execHostReadComplete (s : State) : Host.Outcome State Fault Refusal :=
  s.onOperation .hostRead fun o =>
    if o.beat = o.length then
      let t := s.finishOp o
      let t := t.setHost { t.host with read := none }
      State.afterCompletion s (if t.ctl.state = .parking then t else t.requestWaiting)
    else s

end Sys2Proof.Machine
end

