-- ==== Sys2Proof/Machine/Link.lean ====
section
/-! DEFINITION. The commands of the management link: the frame's start and end, the nine commands and the unknown ones
(chapter 11). A command's event is its taking (R163); the response's sending is POP_EVENT_REMOVAL's and FRAME_END's. -/

namespace Sys2Proof.Machine

/-! ### Results -/

/-- Result codes (R165). -/
def resultDone : Byte := 0x01#8
/-- NOT_NOW (R165). -/
def resultNotNow : Byte := 0x02#8
/-- INVALID (R165). -/
def resultInvalid : Byte := 0x03#8
/-- UNKNOWN (R165). -/
def resultUnknown : Byte := 0x04#8

/-- The link can take a command (R164): a frame is being received, RESETN not asserted. -/
def State.linkReceiving (s : State) : Bool := !s.pins.resetLow && s.link.phase == .receiving

/-- A command taken (R163, R164): RESPONDING, with its bytes and the response fixed; a response without data carries
the result alone. The counts are those after the last argument byte (log 12). -/
def State.respond (s : State) (sent : List Byte) (result : Byte) (data : List Byte) : State :=
  s.setLink { s.link with
    phase := .responding
    bitCount := 0
    byteCount := sent.length
    command := sent
    response := result :: data }

/-- A link command's event (R163, R165): its bytes are those received in the frame, and the command byte selects the
command by R165's table. Its effect, given the bytes, where a frame is being received; nothing else (log 5), nor where the
bytes select another command, as an unknown command's byte does that R165 names. -/
def State.onLink (s : State) (i : Instr) (effect : List Byte → State) : Host.Outcome State Fault Refusal :=
  .next (match linkBytes i with
    | some sent => if s.linkReceiving = true ∧ linkCommand sent = some i then effect sent else s
    | none => s)

/-- The bytes POP_EVENT travels as (R165). -/
def popEventBytes : List Byte := (linkBytes .popEvent).getD []

/-! ### Status, events, configurations -/

/-- GET_STATUS (R171). -/
def execGetStatus (s : State) : Host.Outcome State Fault Refusal :=
  s.onLink .getStatus fun sent => s.respond sent resultDone s.statusRecord

/-- POP_EVENT (R173): the head record, to be removed when its last byte is sent; on an empty queue the empty record,
and the lost flag is cleared. -/
def execPopEvent (s : State) : Host.Outcome State Fault Refusal :=
  s.onLink .popEvent fun sent =>
    match s.events.records with
    | r :: _ =>
      let t := s.respond sent resultDone r.bytes
      t.setLink { t.link with pendingRemoval := true }
    | [] => (s.respond sent resultDone (List.replicate 12 0x00#8)).setEvents { s.events with lost := false }

/-- POP_EVENT_REMOVAL (R173, R164): the twelfth data byte is sent; the head record leaves where one was copied, and the
frame is SPENT. Only in the response of a POP_EVENT is there such a byte (log 5). -/
def execPopEventRemoval (s : State) : Host.Outcome State Fault Refusal :=
  .next (if !s.pins.resetLow ∧ s.link.phase = .responding ∧ s.link.command = popEventBytes then
    let t := s.setLink { s.link with phase := .spent, byteCount := 15, pendingRemoval := false }
    if s.link.pendingRemoval then t.setEvents { t.events with records := t.events.records.drop 1 } else t
  else s)

/-- GET_ACTIVE (R168). -/
def execGetActive (s : State) : Host.Outcome State Fault Refusal :=
  s.onLink .getActive fun sent =>
    match s.header.active with
    | some c => s.respond sent resultDone c.bytes
    | none => s.respond sent resultNotNow []

/-- GET_STAGED (R168). -/
def execGetStaged (s : State) : Host.Outcome State Fault Refusal :=
  s.onLink .getStaged fun sent => s.respond sent resultDone s.link.staged.bytes

/-! ### Staging -/

/-- The device states in which staging is carried out (R165). -/
def DeviceState.staging : DeviceState → Bool
  | .unformatted => true
  | .fault => true
  | .opened => true
  | .draining => true
  | .rollingBack => true
  | .sealing => true
  | .starting => false
  | .recovering => false
  | .formatting => false
  | .parking => false
  | .parked => false

/-- The device states in which APPLY and UNSTAGE are carried out (R165). -/
def DeviceState.applying : DeviceState → Bool
  | .opened => true
  | .draining => true
  | .rollingBack => true
  | .sealing => true
  | .starting => false
  | .recovering => false
  | .unformatted => false
  | .fault => false
  | .formatting => false
  | .parking => false
  | .parked => false

/-- The staged configuration replaced. -/
def State.stage (s : State) (c : Configuration) : State := s.setLink { s.link with staged := c }

/-- STAGE_REGION (R166): the bytes as given into entry `index`; INVALID above 7. -/
def execStageRegion (index present cls : Byte) (base length : BitVec 16) (s : State) : Host.Outcome State Fault Refusal :=
  s.onLink (.stageRegion index present cls base length) fun sent =>
    if !s.ctl.state.staging then s.respond sent resultNotNow []
    else if 8 ≤ index.toNat then s.respond sent resultInvalid []
    else (s.respond sent resultDone []).stage { s.link.staged with
      regions := s.link.staged.regions.setEntry index.toNat ⟨present, cls, base, length⟩ }

/-- STAGE_LOG (R166): capacity, policy and watermark as given. -/
def execStageLog (capacity : BitVec 16) (policy watermark : Byte) (s : State) : Host.Outcome State Fault Refusal :=
  s.onLink (.stageLog capacity policy watermark) fun sent =>
    if !s.ctl.state.staging then s.respond sent resultNotNow []
    else (s.respond sent resultDone []).stage { s.link.staged with
      policy := policy, watermark := watermark, capacity := capacity }

/-- An APPLY accepted (R114, R167): the pending configuration becomes a copy of the staged one, newer than what a
seal already granted writes. -/
def HeaderUnit.applyStaged (h : HeaderUnit) (c : Configuration) : HeaderUnit :=
  { h with
    pendingConfig := some c
    writeRequest := h.writeRequest.map fun w => if w.granted then { w with newer := true } else w }

/-- APPLY (R167). -/
def execApply (s : State) : Host.Outcome State Fault Refusal :=
  s.onLink .apply fun sent =>
    if !s.ctl.state.applying then s.respond sent resultNotNow []
    else if !s.link.staged.valid s.size then s.respond sent resultInvalid []
    else (s.respond sent resultDone []).setHeader (s.header.applyStaged s.link.staged)

/-- UNSTAGE (R168): no pending configuration, the staged one a copy of the active one. -/
def execUnstage (s : State) : Host.Outcome State Fault Refusal :=
  s.onLink .unstage fun sent =>
    if !s.ctl.state.applying then s.respond sent resultNotNow []
    else ((s.respond sent resultDone []).stage (s.header.active.getD s.link.staged)).setHeader
      { s.header with pendingConfig := none }

/-! ### FORMAT -/

/-- FORMAT may be carried out (R169 test 1). -/
def State.formatAllowed (s : State) : Bool :=
  s.ctl.state == .unformatted || (s.ctl.state == .fault && s.ctl.faultReason != some .strap)

/-- A slot bearing the mark has the format number (R169 test 3). -/
def bears (number : BitVec 32) (v : Option SlotSurvey) : Bool :=
  match v with
  | some x => x.judgement != .absent && x.number == some number
  | none => false

/-- A format begun (R170): FORMATTING, with the clearing write of slot B requested. -/
def State.beginFormat (s : State) (number : BitVec 32) : State :=
  ((s.setCtl { s.ctl with state := .formatting, faultReason := none }).requestWrite (.clearing number) .b).arbitrate

/-- FORMAT (R169, R170). -/
def execFormat (number : BitVec 32) (s : State) : Host.Outcome State Fault Refusal :=
  s.onLink (.format number) fun sent =>
    if !s.formatAllowed then s.respond sent resultNotNow []
    else if !s.link.staged.valid s.size then s.respond sent resultInvalid []
    else if bears number s.header.surveyA ∨ bears number s.header.surveyB then s.respond sent resultInvalid []
    else (s.respond sent resultDone []).beginFormat number

/-! ### Unknown commands and frames -/

/-- UNKNOWN_COMMAND (R165). -/
def execUnknownCommand (code : Byte) (s : State) : Host.Outcome State Fault Refusal :=
  s.onLink (.unknownCommand code) fun sent => s.respond sent resultUnknown []

/-- FRAME_END (R164): the rise of SSN; IDLE from any phase, pending removal dropped. -/
def execFrameEnd (s : State) : Host.Outcome State Fault Refusal :=
  let t := s.setPins { s.pins with ssnLow := false }
  .next (if s.pins.resetLow then t
    else t.setLink { t.link with phase := .idle, bitCount := 0, byteCount := 0, pendingRemoval := false })

/-- FRAME_START (R164): the fall of SSN; RECEIVING with both counts 0. While RESETN is asserted only the level stands
(R134), and with SSN already low there is no fall. -/
def execFrameStart (s : State) : Host.Outcome State Fault Refusal :=
  .next (if s.pins.ssnLow then s
    else
      let t := s.setPins { s.pins with ssnLow := true }
      if s.pins.resetLow then t
      else t.setLink { t.link with
        phase := .receiving, bitCount := 0, byteCount := 0, command := [], response := [], pendingRemoval := false })

end Sys2Proof.Machine
end

