-- ==== Sys2Proof/Machine/Reset.lean ====
section
/-! DEFINITION. The commands of reset and power: RESETN_ASSERT, RESETN_RELEASE, SUPPLY_COLLAPSE, PFW_TAKEN, RESTART
(chapter 8). -/

namespace Sys2Proof.Machine

/-- RESETN_ASSERT (R134): the device stops on the instant; a write in progress is torn as `tear` says (R136). -/
def execResetnAssert (tear : List Lanes) (s : State) : Host.Outcome State Fault Refusal := s.cutOff tear

/-- SUPPLY_COLLAPSE (R136): as RESETN at the moment of collapse, in PARKED and elsewhere. -/
def execSupplyCollapse (tear : List Lanes) (s : State) : Host.Outcome State Fault Refusal := s.cutOff tear

/-- PFW_TAKEN (R127, R128): a sample of PFW asserted; in PARKING and PARKED, and while RESETN is asserted, it has no
further effect, but that a release not yet followed by PARKED leaves no trace (R133). With the port IDLE the device is PARKED
on the same sample (R132). -/
def execPfwTaken (s : State) : Host.Outcome State Fault Refusal :=
  let s := s.setPins { s.pins with pfw := true }
  .next (if s.pins.resetLow then s
    else if s.ctl.state = .parking ∨ s.ctl.state = .parked then s.setCtl { s.ctl with again := none }
    else if s.port.op.isSome then s.enterParking
    else s.enterParking.noteParked)

/-- RESETN_RELEASE (R134, R1): STARTING is entered and the strap sampled; where PFW stands asserted it is taken on the first
sample (R127). With RESETN not asserted there is no release (log 5). -/
def execResetnRelease (sample : ReleaseSample) (s : State) : Host.Outcome State Fault Refusal :=
  let t := s.setPins { s.pins with resetLow := false, msz := sample.msz }
  .next (if s.pins.resetLow then (if s.pins.pfw then t.parkAtStart sample.order else t.startUp) else s)

/-- RESTART (R133): a sample of PFW deasserted, with the strap's level then; the restart begins in PARKED, and `again`
says that the first sample in STARTING takes PFW once more (R127; log 14). In PARKING the release is kept, with `again`, for
the entry to PARKED. -/
def execRestart (sample : RestartSample) (s : State) : Host.Outcome State Fault Refusal :=
  let t := s.setPins { s.pins with pfw := false, msz := sample.msz }
  .next (if s.pins.resetLow then t
    else if s.ctl.state = .parked then t.beginRestart sample.again
    else if s.ctl.state = .parking then t.setCtl { t.ctl with again := sample.again }
    else t)

end Sys2Proof.Machine
end

