-- ==== Sys2Proof/Machine/Dispatch.lean ====
section
/-! DEFINITION. The dispatch: one arm per command, each a call of that command's meaning. -/

namespace Sys2Proof.Machine

/-- The meaning of a command. -/
def exec (i : Instr) (s : State) : Host.Outcome State Fault Refusal :=
  match i with
  | .resetnAssert tear => Sys2Proof.Machine.execResetnAssert tear s
  | .resetnRelease sample => Sys2Proof.Machine.execResetnRelease sample s
  | .supplyCollapse tear => Sys2Proof.Machine.execSupplyCollapse tear s
  | .pfwTaken => Sys2Proof.Machine.execPfwTaken s
  | .restart sample => Sys2Proof.Machine.execRestart sample s
  | .hostWriteFirstBeat word hlen lanes data => Sys2Proof.Machine.execHostWriteFirstBeat word hlen lanes data s
  | .hostWriteLaterBeat lanes data => Sys2Proof.Machine.execHostWriteLaterBeat lanes data s
  | .hostReadFirstBeat word hlen lanes => Sys2Proof.Machine.execHostReadFirstBeat word hlen lanes s
  | .hostReadLaterBeat lanes => Sys2Proof.Machine.execHostReadLaterBeat lanes s
  | .hostReadWordArrival merr => Sys2Proof.Machine.execHostReadWordArrival merr s
  | .hostReadComplete => Sys2Proof.Machine.execHostReadComplete s
  | .commit => Sys2Proof.Machine.execCommit s
  | .rollback => Sys2Proof.Machine.execRollback s
  | .flush => Sys2Proof.Machine.execFlush s
  | .illegalOperation => Sys2Proof.Machine.execIllegalOperation s
  | .answerAck ereq => Sys2Proof.Machine.execAnswerAck ereq s
  | .ereqFall => Sys2Proof.Machine.execEreqFall s
  | .drainWriteComplete => Sys2Proof.Machine.execDrainWriteComplete s
  | .preImageReadComplete merr => Sys2Proof.Machine.execPreImageReadComplete merr s
  | .recordWriteComplete => Sys2Proof.Machine.execRecordWriteComplete s
  | .markWriteComplete => Sys2Proof.Machine.execMarkWriteComplete s
  | .sealComplete => Sys2Proof.Machine.execSealComplete s
  | .recordReadComplete merr => Sys2Proof.Machine.execRecordReadComplete merr s
  | .restoreWriteComplete => Sys2Proof.Machine.execRestoreWriteComplete s
  | .headerReadComplete merr => Sys2Proof.Machine.execHeaderReadComplete merr s
  | .recoverySealComplete => Sys2Proof.Machine.execRecoverySealComplete s
  | .getStatus => Sys2Proof.Machine.execGetStatus s
  | .popEvent => Sys2Proof.Machine.execPopEvent s
  | .popEventRemoval => Sys2Proof.Machine.execPopEventRemoval s
  | .getActive => Sys2Proof.Machine.execGetActive s
  | .getStaged => Sys2Proof.Machine.execGetStaged s
  | .stageRegion index present cls base length => Sys2Proof.Machine.execStageRegion index present cls base length s
  | .stageLog capacity policy watermark => Sys2Proof.Machine.execStageLog capacity policy watermark s
  | .apply => Sys2Proof.Machine.execApply s
  | .unstage => Sys2Proof.Machine.execUnstage s
  | .format number => Sys2Proof.Machine.execFormat number s
  | .unknownCommand code => Sys2Proof.Machine.execUnknownCommand code s
  | .frameEnd => Sys2Proof.Machine.execFrameEnd s
  | .clearingWriteComplete => Sys2Proof.Machine.execClearingWriteComplete s
  | .formatWriteComplete => Sys2Proof.Machine.execFormatWriteComplete s
  | .frameStart => Sys2Proof.Machine.execFrameStart s

end Sys2Proof.Machine
end

