-- ==== Sys2Proof/Machine/Lines.lean ====
section
/-! DEFINITION. The output lines the state gives, computed and not stored: HRSP and HD (R137, R138, R151), the memory port's
lines in each period of an operation and with the port IDLE (R152 to R154), ERES (R76), SDO and the frame's counts (R163,
R164). ALARM is in Flags, EACK is `ctl.eack`. -/

namespace Sys2Proof.Machine

/-! ### The host bus -/

/-- HRSP codes (R137). -/
def HostResponse.code : HostResponse → BitVec 3
  | .none => 0#3
  | .ready => 1#3
  | .wait => 2#3
  | .split => 3#3
  | .busy => 4#3
  | .error => 5#3

/-- HRSP[2:0] on the `edges`-th rising edge of CLK after the event that gave the last response (R137, R151; log 10): WAIT on
every edge while a beat is held, the final response on the first edge after its event, and 000 from then on, no beat being
presented, and while RESETN is asserted (R139). -/
def State.hrsp (s : State) (edges : Nat) : BitVec 3 :=
  if s.pins.resetLow then 0#3
  else if s.host.beat.isSome then HostResponse.wait.code
  else if edges = 1 then s.host.response.code
  else 0#3

/-- HD[31:0] as the device drives it on such an edge, by lane: with READY or SPLIT to a read beat, its data (R138, R151). -/
def State.hd (s : State) (edges : Nat) : LaneData :=
  if s.pins.resetLow ∨ s.host.beat.isSome = true ∨ edges ≠ 1 then LaneData.empty else s.host.data

/-! ### The memory port -/

/-- The periods of an operation (R152). -/
inductive Period where
  | address
  | beat (k : Nat)
  | turnaround
  deriving DecidableEq, Repr

/-- The memory port's output lines: MA, the levels of MRDN and MWRN (true is high), MLE by lane asserted, whether the device
drives MD, and the bytes it drives by lane. -/
structure MemoryLines where
  ma : BitVec 24
  mrdn : Bool
  mwrn : Bool
  mle : Lanes
  mdDriven : Bool
  md : LaneData
  deriving DecidableEq, Repr

/-- What MD carries in beat `k` of a write, by lane (R154); a read drives nothing of the device's own (R153). -/
def MemOp.beatData (o : MemOp) (k : Nat) : LaneData := (o.stores[k]?).getD LaneData.empty

/-- The lane strobes MLE of beat `k`: all four for a read (R153), the lanes written for a write (R154). -/
def MemOp.beatLanes (o : MemOp) (k : Nat) : Lanes := if o.kind.isWrite then LaneData.lanes (o.beatData k) else 15#4

/-- The word address on MA in the period of beat `k` (R152). -/
def MemOp.beatWord (o : MemOp) (k : Nat) : BitVec 24 := BitVec.ofNat 24 (o.start + k)

/-- The inactive levels, with MA at an address (R132, R152): MRDN and MWRN high, MLE deasserted, MD not driven. -/
def MemoryLines.inactive (ma : BitVec 24) : MemoryLines := ⟨ma, true, true, 0#4, false, LaneData.empty⟩

/-- The lines of an operation in one of its periods (the table of R152). -/
def MemOp.lines (o : MemOp) : Period → MemoryLines
  | .address => .inactive (o.beatWord 0)
  | .beat k => ⟨o.beatWord k, o.kind.isWrite, !o.kind.isWrite, o.beatLanes k, o.kind.isWrite, o.beatData k⟩
  | .turnaround => .inactive (o.beatWord (o.length - 1))

/-- The memory port's lines (R152): those of the operation in progress in the period it is in; with the port IDLE, as in
PARKED (R132), inactive with MA as last driven; under RESETN inactive with MA at 0 (R134). -/
def State.memoryLines (s : State) (p : Period) : MemoryLines :=
  if s.pins.resetLow then .inactive 0#24
  else match s.port.op with
    | some o => o.lines p
    | none => .inactive s.port.address

/-- MRDN is low: in the beat periods of a read (R152). -/
def State.readStrobe (s : State) (p : Period) : Bool := !(s.memoryLines p).mrdn

/-- MWRN is low: in the beat periods of a write (R152). -/
def State.writeStrobe (s : State) (p : Period) : Bool := !(s.memoryLines p).mwrn

/-! ### The epoch control port -/

/-- ERES[1:0] (R76). -/
def State.eresLine (s : State) : BitVec 2 := s.ctl.eres.code.truncate 2

/-! ### The management link -/

/-- How many bits of the frame the counts have passed. -/
def ManagementLink.position (l : ManagementLink) : Nat := 8 * l.byteCount + l.bitCount

/-- The bytes of a frame whose command is taken: command, arguments, gap, result and data (11.1). -/
def ManagementLink.frameLength (l : ManagementLink) : Nat := l.command.length + 1 + l.response.length

/-- The link after some rising edges of SCK that no command's event is (R163, R164): the counts go on, and the last byte of a
response sent makes the frame SPENT; in IDLE and SPENT the link ignores SCK (log 12). -/
def ManagementLink.clocked (l : ManagementLink) (clocks : Nat) : ManagementLink :=
  match l.phase with
  | .idle => l
  | .receiving => { l with bitCount := (l.position + clocks) % 8, byteCount := (l.position + clocks) / 8 }
  | .responding =>
    if 8 * l.frameLength ≤ l.position + clocks then { l with phase := .spent, bitCount := 0, byteCount := l.frameLength }
    else { l with bitCount := (l.position + clocks) % 8, byteCount := (l.position + clocks) / 8 }
  | .spent => l

/-- The byte on SDO at a position of the frame (the table of R163): 0x00 with the command, the arguments and the gap, then the
result and the data, and 0x00 after the last. -/
def ManagementLink.sdoByte (l : ManagementLink) (position : Nat) : Byte :=
  match l.phase with
  | .idle => 0x00#8
  | .receiving => 0x00#8
  | .responding => ((List.replicate (l.command.length + 1) 0x00#8 ++ l.response)[position]?).getD 0x00#8
  | .spent => ((List.replicate (l.command.length + 1) 0x00#8 ++ l.response)[position]?).getD 0x00#8

/-- SDO is driven (R163): while SSN is low, but not while RESETN is asserted (R134). -/
def State.sdoDriven (s : State) : Bool := s.pins.ssnLow && !s.pins.resetLow

/-- SDO as the host samples it on the next rising edge of SCK after `clocks` of them (R163): each byte its most significant
bit first; none at high impedance. -/
def State.sdo (s : State) (clocks : Nat) : Option Bool :=
  if s.sdoDriven then
    some ((s.link.sdoByte ((s.link.position + clocks) / 8)).getMsbD ((s.link.position + clocks) % 8))
  else none

end Sys2Proof.Machine
end

