-- ==== Sys2Proof/Safety.lean ====
section
/-! DEFINITION. What the statements speak of: the laws the spec says always hold, as predicates of one state, and what
the end of an event may still change. -/

namespace Sys2Proof.Machine

/-! ### Bounds -/

/-- The collections stay within the device's sizes: the posting queue (R58), the event queue (R172), the drain aging
count (R160). -/
abbrev State.bounded (s : State) : Prop :=
  s.queue.entries.length ≤ 8 ∧ s.events.records.length ≤ 16 ∧ s.port.aging ≤ 4

/-- The granule table's law (R39) and the second half of R42: at most 256 entries, never two of one granule, at most 8
CAPTURING, and as many reservations as CAPTURING entries. -/
abbrev GranuleTable.lawful (t : GranuleTable) : Prop :=
  t.entries.length ≤ 256 ∧ (t.entries.map TableEntry.granule).Nodup ∧ capturingCount t.entries ≤ 8
    ∧ t.reservations = capturingCount t.entries

/-- The first half of R42, where a configuration is active: the tail plus the reservation count is at most N. -/
abbrev State.logFits (s : State) : Prop :=
  ∀ c ∈ s.header.active, s.capture.tail + s.table.reservations ≤ c.capacity.toNat

/-- The capture unit's entry (R25): none in IDLE; in READING and WRITING a CAPTURING entry of the table. -/
abbrev State.inFlight (s : State) : Prop :=
  (s.capture.phase = .idle → s.capture.granule = none)
    ∧ (s.capture.phase ≠ .idle → ∃ e ∈ s.table.entries, e.state = .capturing ∧ s.capture.granule = some e.granule)

/-! ### RESETN -/

/-- While RESETN is asserted every item but the pins, the memory and the waiting commands holds its reset value
(R134). -/
abbrev State.heldInReset (s : State) : Prop :=
  s.pins.resetLow = true →
    s = { State.reset with pins := s.pins, mem := s.mem, pending := s.pending }

/-! ### The blocks agree with the device state -/

/-- The device states before a header is selected and in which none stands. -/
def DeviceState.headless : DeviceState → Bool
  | .starting => true
  | .unformatted => true
  | .fault => true
  | .formatting => true
  | .recovering => false
  | .opened => false
  | .draining => false
  | .rollingBack => false
  | .sealing => false
  | .parking => false
  | .parked => false

/-- The device states a header write of a kind is requested and completes in (R112). -/
def WriteKind.state : WriteKind → List DeviceState
  | .commitSeal => [.sealing]
  | .recoverySeal => [.recovering]
  | .mark => [.opened, .draining]
  | .clearing _ => [.formatting]
  | .formatWrite _ => [.formatting]

/-- The start-up read stands in STARTING alone (R115). -/
abbrev State.readAgrees (s : State) : Prop :=
  s.header.readRequest.isSome → s.ctl.state = .starting ∨ s.ctl.state.stopped

/-- A header write stands in its own states, the mark under BREAKING, any other with the rollback engine and the capture
unit IDLE and no entry CAPTURING (R52, R86, R97, R98, R112). -/
abbrev State.writeAgrees (s : State) : Prop :=
  ∀ w ∈ s.header.writeRequest,
    (s.ctl.state ∈ w.kind.state ∨ s.ctl.state.stopped) ∧ (w.kind = .mark → s.table.status = some .breaking)
      ∧ (w.kind ≠ .mark → s.engine.phase = .idle ∧ s.capture.phase = .idle ∧ capturingCount s.table.entries = 0)

/-- The rollback engine is IDLE but for a walk in ROLLING_BACK, which is then not done, or in RECOVERING (R98, R103). -/
abbrev State.engineAgrees (s : State) : Prop :=
  s.engine.phase ≠ .idle →
    (s.engine.purpose = some .rollback ∧ s.engine.walkDone = false ∧ (s.ctl.state = .rollingBack ∨ s.ctl.state.stopped))
      ∨ (s.engine.purpose = some .recovery ∧ (s.ctl.state = .recovering ∨ s.ctl.state.stopped))

/-- The epoch status by device state (R50): none without a header, a value with one, INTACT in ROLLING_BACK, never
BREAKING in SEALING and RECOVERING. -/
abbrev State.statusAgrees (s : State) : Prop :=
  (s.ctl.state.headless → s.table.status = none)
    ∧ (!s.ctl.state.headless ∧ !s.ctl.state.stopped → s.table.status ≠ none)
    ∧ (s.ctl.state = .rollingBack → s.table.status = some .intact)
    ∧ (s.ctl.state = .sealing ∨ s.ctl.state = .recovering → s.table.status ≠ some .breaking)

/-- Captures by device state (R26, R31, R51, R53, R55): a capture reads unstopped only in OPEN and DRAINING under INTACT; a
stopped one has its read granted under BREAKING or with a rollback in hand; and captures stand only in OPEN, DRAINING and
ROLLING_BACK. -/
abbrev State.captureAgrees (s : State) : Prop :=
  (s.capture.phase ≠ .idle ∨ 0 < capturingCount s.table.entries →
      s.ctl.state ∈ [DeviceState.opened, .draining, .rollingBack] ∨ s.ctl.state.stopped)
    ∧ (s.capture.phase = .reading → s.capture.stop = true → s.capture.granted = true
        ∧ (s.table.status = some .breaking ∨ s.ctl.state = .rollingBack ∨ s.ctl.state.stopped))
    ∧ (s.capture.phase = .reading → s.capture.stop = false → s.ctl.state.stopped
        ∨ ((s.ctl.state = .opened ∨ s.ctl.state = .draining) ∧ s.table.status = some .intact))

/-- The walk of a rollback runs, and its seal is due, only with the captures settled (R97, R104). -/
abbrev State.walkAgrees (s : State) : Prop :=
  s.ctl.state = .rollingBack → s.engine.phase ≠ .idle ∨ s.engine.walkDone = true →
    s.capture.phase = .idle ∧ capturingCount s.table.entries = 0

/-- Before OPEN nothing of an epoch stands: no table entry, no reservation, tail 0, the capture unit IDLE (R20, R38),
the posting queue empty (R57). -/
abbrev State.quietAgrees (s : State) : Prop :=
  s.ctl.state.headless ∨ s.ctl.state = .recovering →
    s.table.entries = [] ∧ s.table.reservations = 0 ∧ s.capture.tail = 0 ∧ s.capture.phase = .idle
      ∧ s.queue.entries = []

/-- The header unit, the decoder and the epoch number by device state (R7, R111, R114, R118): values exactly where a
header is selected. -/
abbrev State.headerAgrees (s : State) : Prop :=
  (s.ctl.state.headless → s.header.selected = none ∧ s.header.generation = none ∧ s.header.formatNumber = none
      ∧ s.header.active = none ∧ s.header.pendingConfig = none ∧ s.dec.geometry = none ∧ s.dec.table = none
      ∧ s.ctl.epoch = none)
    ∧ (!s.ctl.state.headless ∧ !s.ctl.state.stopped → s.header.selected.isSome ∧ s.header.generation.isSome
      ∧ s.header.formatNumber.isSome ∧ s.header.active.isSome ∧ s.dec.memorySize.isSome ∧ s.dec.geometry.isSome
      ∧ s.dec.table.isSome ∧ s.ctl.epoch.isSome)

/-- PARKING and PARKED (R71, R127 to R130, R132): in PARKING an operation is in progress and in PARKED none, under an
asserted PFW; PFW stands asserted in no other state; a release with PFW back on the restart's first sample waits in PARKING
alone; no request, flush mark or waiting beat is left, and the queue holds draining entries alone. -/
abbrev State.stoppedAgrees (s : State) : Prop :=
  (s.ctl.state = .parking → s.port.op.isSome) ∧ (s.ctl.state = .parked → s.port.op = none ∧ s.pins.pfw = true)
    ∧ (s.pins.pfw = true → s.pins.resetLow = true ∨ s.ctl.state.stopped)
    ∧ (s.ctl.again.isSome → s.ctl.state = .parking ∧ s.pins.pfw = false)
    ∧ (s.ctl.parkedFrom.isSome ↔ s.ctl.state.stopped)
    ∧ (s.ctl.state.stopped → s.ctl.pendingRequest = none ∧ s.ctl.remembered = none ∧ s.ctl.answer = none
        ∧ s.queue.mark = none ∧ (∀ e ∈ s.queue.entries, e.draining = true) ∧ s.host.beat = none)

/-- The memory size has a value from the strap sample on, but in FAULT with reason STRAP and where PFW came before it (R1,
R127); FAULT alone has a reason (R82); and in STARTING the read of a slot is requested (R115). -/
abbrev State.startAgrees (s : State) : Prop :=
  (s.pins.resetLow = false → s.ctl.state ∉ [DeviceState.fault, .parking, .parked] → s.dec.memorySize.isSome)
    ∧ (s.ctl.state = .fault → s.ctl.faultReason ≠ some .strap → s.dec.memorySize.isSome)
    ∧ (s.ctl.faultReason.isSome ↔ s.ctl.state = .fault)
    ∧ (s.pins.resetLow = false → s.ctl.state = .starting → s.header.readRequest.isSome)

/-- The blocks agree with the device state. -/
abbrev State.consistent (s : State) : Prop :=
  s.heldInReset ∧ s.readAgrees ∧ s.writeAgrees ∧ s.engineAgrees ∧ s.statusAgrees ∧ s.captureAgrees ∧ s.walkAgrees ∧ s.quietAgrees
    ∧ s.headerAgrees ∧ s.inFlight ∧ s.stoppedAgrees ∧ s.startAgrees

/-! ### What the units hold -/

/-- What the capture unit holds by phase (R25, R28): nothing but the tail in IDLE; no slot, record or data in READING; in
WRITING the record of slot tail, built from the image it read, under the selected header's format number and the open
epoch. Every granule of the table is a host granule (R3, R6, R7). -/
abbrev State.captureHolds (s : State) : Prop :=
  (∀ e ∈ s.table.entries, e.granule < s.granuleFloor / 64) ∧
  (s.capture.phase = .idle → s.capture = ⟨s.capture.tail, .idle, none, false, false, [], none, []⟩)
    ∧ (s.capture.phase = .reading → s.capture.buffer = [] ∧ s.capture.slot = none ∧ s.capture.record = [])
    ∧ (s.capture.phase = .writing → s.capture.stop = false ∧ s.capture.slot = some s.capture.tail
        ∧ s.capture.buffer.length = 16
        ∧ s.capture.record = recordWords (s.header.formatNumber.getD 0) s.capture.tail (s.capture.granule.getD 0)
            s.epochNumber s.capture.buffer)

/-- What the rollback engine holds by phase (R98 to R101, R120 to R122): nothing of a walk in IDLE; a cursor below the tail
in a rollback and below the scan end in a recovery's walk; in RESTORING a record that is good; the scan only reads. -/
abbrev State.engineHolds (s : State) : Prop :=
  (s.engine.phase = .idle → s.engine.purpose = none ∧ s.engine.cursor = none ∧ s.engine.granted = false
      ∧ s.engine.buffer = [] ∧ s.engine.probing = false)
    ∧ (s.engine.phase ≠ .idle → s.engine.cursor.isSome)
    ∧ (s.engine.phase = .reading → s.engine.buffer = [])
    ∧ (s.engine.phase = .restoring → s.engine.buffer.length = 20
        ∧ recordGood (s.header.formatNumber.getD 0) s.epochNumber s.granuleFloor s.engine.slotRead s.engine.buffer = true
        ∧ (s.engine.purpose = some .recovery → s.engine.pass = .walk))
    ∧ (s.engine.probing = true → s.engine.phase = .reading ∧ s.engine.purpose = some .recovery ∧ s.engine.pass = .scan)
    ∧ (s.engine.purpose = some .rollback → ∀ i ∈ s.engine.cursor, i < s.capture.tail)
    ∧ (s.engine.purpose = some .recovery → s.engine.pass = .walk →
        ∃ n ∈ s.engine.scanEnd, n ≤ s.logCapacity ∧ ∀ i ∈ s.engine.cursor, i < n)

/-- What the header unit holds (R52, R85, R87, R112, R115, R116, R170): a write goes to the unselected slot, or for FORMAT to
B and then A with none selected; before its grant it has no content; its state has it requested, as has BREAKING the mark
and RECOVERING its engine or its seal; no seal is made at the epoch limit; the read of slot B follows that of slot A. -/
abbrev State.headerHolds (s : State) : Prop :=
  (∀ w ∈ s.header.writeRequest,
      (w.kind ∈ [WriteKind.commitSeal, .recoverySeal, .mark] → w.target = s.header.unselected)
        ∧ (w.kind.isClearing = true → w.target = .b ∧ s.header.selected = none ∧ s.header.generation = none)
        ∧ (w.kind.isFormatWrite = true → w.target = .a ∧ s.header.selected = none ∧ s.header.generation = none)
        ∧ (w.granted = false → w.content = none ∧ w.wrotePending = false ∧ w.newer = false)
        ∧ (w.wrotePending = true → w.kind = .commitSeal)
        ∧ (w.kind ∈ [WriteKind.commitSeal, .recoverySeal] → s.epochNumber ≠ 281474976710655#48))
    ∧ (s.ctl.state = .sealing → s.header.writeRequest.map WriteRequest.kind = some .commitSeal)
    ∧ (s.ctl.state = .formatting → ∃ w ∈ s.header.writeRequest, w.kind.isClearing = true ∨ w.kind.isFormatWrite = true)
    ∧ (s.ctl.state.stopped = false → s.table.status = some .breaking →
        s.header.writeRequest.map WriteRequest.kind = some .mark)
    ∧ (s.ctl.state = .recovering → s.engine.phase ≠ .idle
        ∨ s.header.writeRequest.map WriteRequest.kind = some .recoverySeal)
    ∧ (s.ctl.state = .draining ∨ s.ctl.state = .rollingBack → s.epochNumber ≠ 281474976710655#48)
    ∧ (∀ r ∈ s.header.readRequest, s.ctl.state = .starting → r.slot = .b →
        s.header.surveyA.isSome ∧ s.header.readA.isSome)

/-- What the management link holds by phase (R163, R164, R173): a frame only under a low SSN, nothing received in RECEIVING,
in RESPONDING a command whose bytes R165's table names, with its response; a removal waits in the response of a POP_EVENT
alone, the record still in the queue. -/
abbrev State.linkHolds (s : State) : Prop :=
  (s.link.phase ≠ .idle → s.pins.ssnLow = true ∧ s.pins.resetLow = false) ∧ s.link.bitCount = 0
    ∧ (s.link.phase = .idle → s.link.byteCount = 0 ∧ s.link.pendingRemoval = false)
    ∧ (s.link.phase = .receiving → s.link.byteCount = 0 ∧ s.link.command = [] ∧ s.link.response = [])
    ∧ (s.link.phase = .responding → (linkCommand s.link.command).isSome ∧ s.link.byteCount = s.link.command.length
        ∧ s.link.response ≠ [])
    ∧ (s.link.pendingRemoval = true → s.link.phase = .responding ∧ s.link.command = [0x02#8] ∧ s.events.records ≠ [])

/-- What the host port holds (R138 to R141, R143, R148): nothing of a cycle without one; a cycle's portion is of the
granule of its next word, for a GUARDED write that goes on a host granule; a presented beat waits, for a reason of its
direction, a write beat on a queue of 8 entries (R62) or on 8 entries CAPTURING (R39); the portion gate is there once
a GUARDED write's first beat is taken; a write cycle goes on in OPEN alone; a read not yet granted has its beat
presented, and a place is REQUESTED while the read in hand has its word to come. -/
abbrev State.hostHolds (s : State) : Prop :=
  (s.host.cycle = none → s.host.portion = none ∧ s.host.gate = none ∧ s.host.beat = none ∧ s.host.buffer = []
      ∧ ∀ r ∈ s.host.read, r.granted = true ∧ r.stale = true)
    ∧ (s.host.beat.isSome ↔ s.host.response = .wait)
    ∧ (∀ r ∈ s.host.read, 1 ≤ r.length ∧ r.length ≤ 16 ∧ (s.ctl.state.stopped → r.granted = true)
        ∧ (r.granted = false → r.stale = false ∧ s.host.beat.map Beat.reason = some .wordPending))
    ∧ (s.ctl.state.stopped = false → ∀ q ∈ s.host.buffer, q.2 = .requested → ∃ r ∈ s.host.read, r.stale = false ∧ r.start ≤ q.1
        ∧ q.1 < r.start + r.length ∧ (∀ o ∈ s.port.op, r.granted = true → r.start + o.beat ≤ q.1))
    ∧ (s.ctl.state.headless ∨ s.ctl.state = .recovering → s.host.cycle = none ∧ s.host.read = none)
    ∧ (∀ c ∈ s.host.cycle, 1 ≤ c.remaining ∧ c.remaining ≤ 16
      ∧ (∃ p ∈ s.host.portion, p.granule = c.word / 16 ∧ p.cls ∈ [DecodeClass.guarded, .plain, .fixed]
        ∧ (c.write = true → (s.host.gate.isSome
            ↔ p.cls = .guarded ∧ ¬∃ b ∈ s.host.beat, b.first = true))
        ∧ (c.write = true → c.overtaken = false → s.ctl.state.stopped = false → p.cls = .guarded →
            p.granule < s.granuleFloor / 64))
      ∧ (c.write = true → s.host.buffer = [] ∧ (∀ r ∈ s.host.read, r.stale = true)
        ∧ (c.overtaken = true ∨ s.ctl.state = .opened ∨ s.ctl.state.stopped))
      ∧ (c.write = false → s.host.gate = none ∧ c.overtaken = false)
      ∧ (∀ b ∈ s.host.beat,
        (c.write = true → b.reason = .queueFull ∧ b.lanes ≠ 0 ∧ s.queue.entries.length = 8
            ∨ b.reason = .ninthCapture ∧ b.first = true ∧ s.host.portion.map Portion.cls = some .guarded
              ∧ 8 ≤ capturingCount s.table.entries)
        ∧ (c.write = false → b.lanes ≠ 0 ∧ b.reason ∈ [WaitReason.partlyCovered, .wordPending, .readPending]
            ∧ (b.reason = .partlyCovered → s.queue.matching c.word ≠ [] ∧ s.host.place c.word = none)
            ∧ (b.reason = .wordPending → s.host.place c.word = some .requested)
            ∧ (b.reason = .readPending → s.host.place c.word = none ∧ s.host.read.isSome))))

/-! ### Gates -/

/-- An entry the queue may hold (R57, R66): GUARDED or PLAIN, at least one lane, PLAIN and draining entries OPEN. -/
abbrev QueueEntry.lawful (e : QueueEntry) : Prop :=
  (e.cls = .guarded ∨ e.cls = .plain) ∧ e.lanes ≠ LaneData.empty ∧ (e.cls = .plain → e.gate = .opened)
    ∧ (e.draining = true → e.gate = .opened)

/-- A write cycle's portion and its waiting beat are fit to be posted (R57, R139). -/
abbrev State.cycleLawful (s : State) : Prop :=
  ∀ c ∈ s.host.cycle, c.write = true →
    (∀ p ∈ s.host.portion, p.cls = .guarded ∨ p.cls = .plain)
      ∧ (∀ b ∈ s.host.beat, b.lanes ≠ 0 → b.data ≠ LaneData.empty)

/-- The granule a gate is TIED to (R63; log 26). -/
def Gate.granule : Gate → Option Nat
  | .tied g => some g
  | .opened => none
  | .waitMark => none

/-- Gates and what they wait for (R51, R53, R55, R63, R64, R70, R86): every TIED gate, in the queue and on the portion of a
write cycle that goes on, is of its own granule and names a CAPTURING entry of the table; WAIT_MARK stands under BREAKING
alone; under BREAKING and BROKEN, and in ROLLING_BACK, only the capture in flight is CAPTURING, under BROKEN the table holds
nothing else; in ROLLING_BACK the queue holds PLAIN and draining entries alone, and in SEALING nothing. -/
abbrev State.gatesAgree (s : State) : Prop :=
  (∀ e ∈ s.queue.entries,
      (∀ g ∈ e.gate.granule, g = e.word / 16 ∧ e.cls = .guarded ∧ ⟨g, .capturing⟩ ∈ s.table.entries)
        ∧ (e.gate = .waitMark → s.table.status = some .breaking))
    ∧ (∀ c ∈ s.host.cycle, c.overtaken = false → s.ctl.state.stopped = false → ∀ gate ∈ s.host.gate,
      (∀ g ∈ gate.granule, s.host.portion.map Portion.granule = some g ∧ ⟨g, .capturing⟩ ∈ s.table.entries)
        ∧ (gate = .waitMark → s.table.status = some .breaking))
    ∧ (∀ e ∈ s.table.entries, e.state = .capturing →
        s.table.status = some .breaking ∨ s.table.status = some .broken ∨ s.ctl.state = .rollingBack →
          s.capture.granule = some e.granule)
    ∧ (s.table.status = some .broken → ∀ e ∈ s.table.entries, e.state = .capturing)
    ∧ (s.ctl.state = .rollingBack → ∀ e ∈ s.queue.entries, e.cls = .plain ∨ e.draining = true)
    ∧ (s.ctl.state = .sealing → s.queue.entries = [])

/-- The drain write in progress is the draining entries' (R66): at least one, as many words as entries, at consecutive words
from its start, with their lanes and bytes. -/
abbrev State.drainMatches (s : State) : Prop :=
  ∀ o ∈ s.port.op, o.kind = .drainWrite →
    s.queue.entries.filter QueueEntry.draining ≠ []
      ∧ o.length = (s.queue.entries.filter QueueEntry.draining).length
      ∧ (s.queue.entries.filter QueueEntry.draining).map QueueEntry.word = List.range' o.start o.length
      ∧ o.data = (s.queue.entries.filter QueueEntry.draining).map QueueEntry.lanes

/-- Draining entries stand at the head of the queue, and only while a drain write is in progress (R66, R67). -/
abbrev State.drainingFirst (s : State) : Prop :=
  s.queue.entries.filter QueueEntry.draining ++ s.queue.entries.filter (fun e => !e.draining) = s.queue.entries
    ∧ ((∃ e ∈ s.queue.entries, e.draining = true) → s.port.op.map MemOp.kind = some .drainWrite)

/-- Ages (R57, R61, R72): in OPEN and DRAINING, where entries leave from the head alone, the entries' ages are the last values
of the append counter in their order; and a flush mark lies within 8 consecutive appends. -/
abbrev State.agesAgree (s : State) : Prop :=
  (s.ctl.state = .opened ∨ s.ctl.state = .draining →
      s.queue.entries.map QueueEntry.age = (List.range s.queue.entries.length).map
        fun i => s.queue.counter - BitVec.ofNat 16 (s.queue.entries.length - i))
    ∧ (∀ d ∈ s.queue.mark.map fun m => (s.queue.counter - m).toNat, 1 ≤ d ∧ d ≤ 8)

/-! ### The epoch control port -/

/-- The handshake (R77 to R80): EACK is high exactly in ANSWERED; WORKING and ANSWERED stand only under a high EREQ;
a request is in hand unabandoned exactly in WORKING; a remembered request waits in IDLE under a high EREQ; an answer
driven waits in WORKING; before a start-up ends the port is IDLE with no request in hand. -/
abbrev State.handshakeLawful (s : State) : Prop :=
  (s.ctl.eack = true ↔ s.ctl.phase = .answered)
    ∧ (s.ctl.phase ≠ .idle → s.pins.ereq = true)
    ∧ (s.ctl.phase = .working ↔ s.ctl.pendingRequest.map Request.abandoned = some false)
    ∧ (s.ctl.pendingRequest.map Request.abandoned = some true → s.ctl.phase = .idle)
    ∧ (s.ctl.remembered ≠ none → s.pins.ereq = true ∧ s.ctl.lowSeen = true ∧ s.ctl.phase = .idle)
    ∧ (s.ctl.answer ≠ none → s.ctl.phase = .working)
    ∧ (s.ctl.state = .starting ∨ s.ctl.state = .recovering → s.ctl.phase = .idle ∧ s.ctl.pendingRequest = none)

/-! ### The host port -/

/-- A write beat waits only in OPEN (R143, R146). -/
abbrev State.heldWriteInOpen (s : State) : Prop :=
  ∀ c ∈ s.host.cycle, c.write = true → s.host.beat.isSome → s.ctl.state = .opened

/-! ### The arbiter -/

/-- The port is never IDLE with a request standing, but in PARKING and PARKED and while RESETN is asserted (R159). -/
abbrev State.workConserving (s : State) : Prop :=
  s.pins.resetLow = false → s.ctl.state ≠ .parking → s.ctl.state ≠ .parked → s.port.op = none →
    s.standing .header = none ∧ s.standing .engine = none ∧ s.standing .capture = none ∧ s.standing .hostRead = none
      ∧ s.standing .drain = none

/-- The operation a requester has in hand, as it was presented and granted (R157, "Operations by requester" of 10); a drain
write's entries are those marked draining. -/
def State.inHand (s : State) : OpKind → Option MemOp
  | .headerRead => s.header.readRequest.map fun r => ⟨.headerRead, slotWord s.size r.slot, 64, [], 0⟩
  | .headerWrite => s.header.writeRequest.map fun w =>
      ⟨.headerWrite, slotWord s.size w.target, 64, fullBeats (headerWords w.content), 0⟩
  | .recordRead => some ⟨.recordRead, s.logWord s.engine.slotRead, 20, [], 0⟩
  | .restoreWrite =>
      some ⟨.restoreWrite, 16 * recordGranule s.engine.buffer, 16, fullBeats (recordImage s.engine.buffer), 0⟩
  | .preImageRead => some ⟨.preImageRead, 16 * s.capture.granule.getD 0, 16, [], 0⟩
  | .recordWrite => some ⟨.recordWrite, s.logWord (s.capture.slot.getD 0), 20, fullBeats s.capture.record, 0⟩
  | .hostRead => s.host.read.map fun r => ⟨.hostRead, r.start, r.length, [], 0⟩
  | .drainWrite =>
      let es := s.queue.entries.filter QueueEntry.draining
      some ⟨.drainWrite, (es.head?.map QueueEntry.word).getD 0, es.length, es.map QueueEntry.lanes, 0⟩

/-- The operation in progress is the one its owner has granted and in hand, unchanged since the grant, and no other
requester holds a grant (R152, R157, R161); only a host read is handed over word by word (R153). In PARKED the capture
unit keeps the grant it had (log 18). -/
abbrev State.portAgrees (s : State) : Prop :=
  (∀ o ∈ s.port.op, s.ownerWaits o.kind = true ∧ s.inHand o.kind = some { o with beat := 0 } ∧ o.beat ≤ o.length
      ∧ (o.kind ≠ .hostRead → o.beat = 0))
    ∧ (∀ k ∈ [OpKind.headerRead, .headerWrite, .recordRead, .restoreWrite, .preImageRead, .recordWrite, .hostRead],
        s.ownerWaits k = true → s.port.op.map MemOp.kind = some k ∨ k = .preImageRead ∧ s.ctl.state = .parked)

/-! ### Requests and the work they wait for -/

/-- The request in hand by device state (R86, R92, R94): a COMMIT through DRAINING, a ROLLBACK through ROLLING_BACK, one
of the two in SEALING; the flush mark stands for a FLUSH in OPEN alone, and no answer waits beside it or outside OPEN,
UNFORMATTED, FAULT, and FORMATTING entered from them. -/
abbrev State.requestAgrees (s : State) : Prop :=
  (s.ctl.state = .draining → s.ctl.pendingRequest.map Request.op = some .commit)
    ∧ (s.ctl.state = .rollingBack → s.ctl.pendingRequest.map Request.op = some .rollback)
    ∧ (s.ctl.state = .sealing → s.ctl.pendingRequest.map Request.op = some .commit
        ∨ s.ctl.pendingRequest.map Request.op = some .rollback)
    ∧ (s.queue.mark.isSome → s.ctl.state = .opened ∧ s.ctl.pendingRequest.map Request.op = some .flush)
    ∧ (s.ctl.answer.isSome → s.queue.mark = none ∧ (s.ctl.state = .opened ∨ s.ctl.state = .unformatted
        ∨ s.ctl.state = .fault ∨ s.ctl.state = .formatting))

/-- Nothing an event owes is left over: a commit's wait that is satisfied (R86), a settled rollback whose walk has not
begun (R97), a rollback's seal that is due (R104), a capture the unit could take (R26), a flush mark satisfied (R73), a
remembered request that OPEN could take (R78). -/
abbrev State.nothingDue (s : State) : Prop :=
  s.commitReady = false ∧ s.settled = false
    ∧ ¬(s.ctl.state = .rollingBack ∧ s.engine.walkDone = true ∧ s.queue.entries = [])
    ∧ (s.capture.phase = .idle → s.ctl.state = .opened ∨ s.ctl.state = .draining → s.table.status = some .intact →
        capturingCount s.table.entries = 0)
    ∧ s.queue.flushed = false
    ∧ (s.ctl.state = .opened → s.ctl.remembered ≠ none → s.ctl.pendingRequest ≠ none)

/-! ### The memory that exists -/

/-- The memory sizes the strap can give (R1). -/
def strapSizes : List Nat := [1048576, 2097152, 4194304, 8388608, 16777216, 33554432, 67108864]

/-- The words the memory has. -/
def State.words (s : State) : Nat := s.size / 4

/-- Every configuration the device may come to use is valid against the memory size (R10, R116, R167, R169), and the
geometry and the decoder's table are the active one's (R7, R8). -/
abbrev State.configured (s : State) : Prop :=
  (∀ m ∈ s.dec.memorySize, m ∈ strapSizes)
    ∧ (∀ c ∈ s.header.active, c.valid s.size = true)
    ∧ (∀ c ∈ s.header.pendingConfig, c.valid s.size = true)
    ∧ (∀ w ∈ s.header.writeRequest, w.granted = true → w.kind.isClearing = false →
        ∃ h ∈ w.content, h.config.valid s.size = true)
    ∧ (s.ctl.state = .formatting → s.link.staged.valid s.size = true)
    ∧ (s.ctl.state = .starting → judgementOf s.header.surveyA = .valid →
        ∃ h ∈ s.header.readA, h.config.valid s.size = true)
    ∧ (s.dec.geometry = s.header.active.map fun c => geometryOf s.size c.capacity.toNat)
    ∧ (s.dec.table = s.header.active.map Configuration.regions)

/-- What the requesters will address lies below the memory size (R2, R5): granules and words by the host-usable part,
log slots by the log capacity. -/
abbrev State.addressed (s : State) : Prop :=
  (∀ o ∈ s.port.op, o.inside s.size = true)
    ∧ (∀ c ∈ s.host.cycle, c.word < s.words)
    ∧ (∀ p ∈ s.host.portion, 16 * p.granule + 16 ≤ s.words)
    ∧ (∀ r ∈ s.host.read, r.start + r.length ≤ s.words)
    ∧ (∀ e ∈ s.queue.entries, e.word < s.words)
    ∧ (∀ e ∈ s.table.entries, 16 * e.granule + 16 ≤ s.words)
    ∧ (∀ g ∈ s.capture.granule, 16 * g + 16 ≤ s.words)
    ∧ (s.capture.phase = .writing → ∃ i ∈ s.capture.slot, i < s.logCapacity)
    ∧ (s.engine.phase ≠ .idle → s.engine.slotRead < s.logCapacity)
    ∧ (s.engine.phase = .restoring → 16 * recordGranule s.engine.buffer + 16 ≤ s.words)

/-- A header write's content is fixed by its kind (R52, R87, R112, R113): the next generation; the next epoch number for
a seal, the open one for a mark, 1 and 1 for the format write; BROKEN for a mark alone; the format number and the
configuration that stand, but for a seal that takes the pending configuration and for FORMAT; the clearing write holds no
header. -/
abbrev State.contentAgrees (s : State) : Prop :=
  ∀ w ∈ s.header.writeRequest, w.granted = true →
    (w.kind = .commitSeal → ∃ h ∈ w.content, h.broken = false ∧ h.generation = s.header.generation.getD 0 + 1
        ∧ h.epoch = s.epochNumber + 1 ∧ h.formatNumber = s.header.formatNumber.getD 0
        ∧ (w.wrotePending = false → h.config = s.header.active.getD .default))
      ∧ (w.kind = .recoverySeal → w.content = some ⟨false, s.header.generation.getD 0 + 1, s.epochNumber + 1,
          s.header.formatNumber.getD 0, s.header.active.getD .default⟩)
      ∧ (w.kind = .mark → w.content = some ⟨true, s.header.generation.getD 0 + 1, s.epochNumber,
          s.header.formatNumber.getD 0, s.header.active.getD .default⟩)
      ∧ (w.kind.isClearing = true → w.content = none)
      ∧ (w.kind.isFormatWrite = true → w.content = some ⟨false, 1, 1, w.kind.number, s.link.staged⟩)

/-- All of it together: what every state of a run is like, which every step keeps. -/
structure State.Lawful (s : State) : Prop where
  canonical : s.mem.wf = true
  bounded : s.bounded
  table : s.table.lawful
  fits : s.logFits
  consistent : s.consistent
  capture : s.captureHolds
  engine : s.engineHolds
  header : s.headerHolds
  link : s.linkHolds
  host : s.hostHolds
  gates : s.gatesAgree
  entries : ∀ e ∈ s.queue.entries, e.lawful
  cycle : s.cycleLawful
  drainingFirst : s.drainingFirst
  drainMatches : s.drainMatches
  ages : s.agesAgree
  heldWrite : s.heldWriteInOpen
  port : s.portAgrees
  handshake : s.handshakeLawful
  request : s.requestAgrees
  working : s.workConserving
  nothingDue : s.nothingDue
  configured : s.configured
  addressed : s.addressed
  contents : s.contentAgrees

/-! ### The end of an event -/

/-- A queue entry without its draining mark. -/
def QueueEntry.undrained (e : QueueEntry) : QueueEntry := { e with draining := false }

/-- `t` is `u` but for what the tests and the grant that end an event may change where no beat waits: a capture taken
by an IDLE unit (R26), SEALING entered from DRAINING or ROLLING_BACK with its request (R86, R104), a rollback's walk
begun (R97), and one request granted on an IDLE port (R159). -/
abbrev State.endsIn (u t : State) : Prop :=
  t.pins = u.pins ∧ t.mem = u.mem ∧ t.dec = u.dec ∧ t.table = u.table ∧ t.link = u.link ∧ t.events = u.events
    ∧ t.alarms = u.alarms ∧ t.pending = u.pending
    ∧ t.queue = { u.queue with entries := t.queue.entries }
    ∧ t.queue.entries.map QueueEntry.undrained = u.queue.entries.map QueueEntry.undrained
    ∧ t.ctl = { u.ctl with state := t.ctl.state }
    ∧ (t.ctl.state = u.ctl.state ∨ ((u.ctl.state = .draining ∨ u.ctl.state = .rollingBack) ∧ t.ctl.state = .sealing))
    ∧ t.header = { u.header with writeRequest := t.header.writeRequest, readRequest := t.header.readRequest }
    ∧ t.host = { u.host with read := t.host.read }
    ∧ t.capture.tail = u.capture.tail
    ∧ (u.capture.phase ≠ .idle → t.capture = { u.capture with granted := t.capture.granted })
    ∧ (u.ctl.state ≠ .rollingBack → t.engine = { u.engine with granted := t.engine.granted })
    ∧ (u.port.op.isSome → t.port = u.port ∧ t.queue = u.queue)

/-- The presented beat does not stir as the event ends: it is a read beat, and one that waits for matching entries still
has some (R62, R69). -/
abbrev State.rests (s : State) : Prop :=
  ∀ c ∈ s.host.cycle, ∀ b ∈ s.host.beat,
    c.write = false ∧ (b.reason = .partlyCovered → s.queue.matching c.word ≠ [])

/-- `t` follows from `u` as an event of `s` ends that leaves a waiting beat waiting, or has answered it: from a state
that keeps its laws none stirs (R39, R62, R69). -/
abbrev State.settlesIn (s u t : State) : Prop := u.rests ∨ s.Lawful → u.endsIn t

/-! ### What the statements build their next states from -/

/-- A final response that ends the cycle (R138, R150): nothing of the cycle stays, a WAITING host read is withdrawn and
a GRANTED one is left to complete for nothing. -/
def State.closed (s : State) (response : HostResponse) (data : LaneData) : State :=
  s.setHost
    { cycle := none, portion := none, gate := none, beat := none, buffer := []
      read := match s.host.read with
        | some r => if r.granted then some { r with stale := true } else none
        | none => none
      response := response, data := data }

/-- A beat taken (R138, R141): READY and the cycle ends with its last beat; SPLIT and it ends at the granule's last word;
else READY, the next beat awaited at the next word. -/
def State.answered (s : State) (c : Cycle) (data : LaneData) : State :=
  if c.remaining ≤ 1 then s.closed .ready data
  else if c.word % 16 = 15 then s.closed .split data
  else s.setHost { s.host with
    cycle := some { c with word := c.word + 1, remaining := c.remaining - 1 }
    beat := none, response := .ready, data := data }

/-- A first beat accepted (R139, R140, R141): its cycle and portion stand, an unfinished cycle before it is truncated. -/
def State.began (s : State) (c : Cycle) (p : Portion) : State :=
  (if s.host.cycle.isSome then s.closed s.host.response s.host.data else s).setHost
    { (if s.host.cycle.isSome then s.closed s.host.response s.host.data else s).host with
      cycle := some c, portion := some p, gate := none, beat := none, buffer := [] }

/-- The cycle of a first beat (R137, R139). -/
def firstCycle (write : Bool) (word : BitVec 24) (hlen : BitVec 3) : Cycle :=
  ⟨write, word.toNat, 2 ^ hlen.toNat, false⟩

/-- The class a first beat decodes to (R12, R14). -/
def State.classOf (s : State) (word : BitVec 24) : DecodeClass := (s.dec.decode (4 * word.toNat)).1

/-- The portion of a first beat (R139, R141). -/
def State.firstPortion (s : State) (word : BitVec 24) : Portion :=
  ⟨s.classOf word, (s.dec.decode (4 * word.toNat)).2, word.toNat / 16⟩

/-- A first beat can be presented and taken: RESETN is not asserted, no beat waits, the length code is legal (R137). -/
abbrev State.presents (s : State) (hlen : BitVec 3) : Prop :=
  s.pins.resetLow = false ∧ s.host.beat = none ∧ hlen.toNat < 5

/-- A beat's bytes in the queue; no lanes, no entry (R43, R144, R145). -/
def State.posted (s : State) (word : Nat) (lanes : Lanes) (data : LaneData) (cls : DecodeClass) (gate : Gate) : State :=
  if lanes = 0 then s else s.setQueue (s.queue.enqueue word data cls gate)

/-- The portion gate that admission gives (R49). -/
def State.withGate (s : State) (gate : Gate) : State := s.setHost { s.host with gate := some gate }

/-- A beat held with WAIT (R138). -/
def State.held (s : State) (b : Beat) : State :=
  s.setHost { s.host with beat := some b, response := .wait, data := LaneData.empty }

/-- A host read requested (R148): the words it covers have their places REQUESTED. -/
def State.readRequested (s : State) (word length : Nat) : State :=
  s.setHost { s.host with
    read := some ⟨word, length, false, false⟩
    buffer := (List.range length).map (fun k => (word + k, Place.requested)) ++ s.host.buffer }

/-- `t` follows from `u` where its held read beat has lost the last matching entry (R69): it is served from memory, the read
requested at once, or once the host read outstanding has completed (R148). -/
def State.releases (u : State) (c : Cycle) (b : Beat) (t : State) : Prop :=
  (u.host.read = none →
      ((u.held { b with reason := .wordPending }).readRequested c.word
          (1 + u.queue.freeRun (c.word + 1) (min c.remaining (16 - c.word % 16) - 1))).endsIn t
        ∧ t.host.read.map (fun r => (r.start, r.length, r.stale)) = some (c.word,
            1 + u.queue.freeRun (c.word + 1) (min c.remaining (16 - c.word % 16) - 1), false))
    ∧ (u.host.read ≠ none → (u.held { b with reason := .readPending }).endsIn t)

/-- An answer driven (R79): ERES carries the result, the handshake is WORKING, EACK is still low. -/
def State.answers (s : State) (op : Operation) (result : EpochResult) : State :=
  s.setCtl { s.ctl with
    phase := .working, pendingRequest := some ⟨op, false⟩, answer := some ⟨op, result⟩, eres := result }

/-- EREQ seen to rise with an operation code (R76, R77). -/
def State.edge (s : State) (op : Operation) : State :=
  (s.setPins { s.pins with ereq := true, eop := op.eop }).setCtl { s.ctl with lowSeen := true }

/-- A memory operation ended (R152, R156): the port IDLE, MA at the last beat's address, a write's bytes in memory. -/
def State.ended (s : State) (o : MemOp) : State :=
  (s.setMem (s.mem.writeBeats o.start o.stores)).setPort
    { s.port with op := none, address := BitVec.ofNat 24 (o.start + o.length - 1) }

/-- A drain write ended (R67, R160): its entries have left, and an emptied queue resets the aging count. -/
def State.drained (s : State) (o : MemOp) : State :=
  ((s.ended o).setQueue { s.queue with entries := s.queue.entries.filter fun e => !e.draining }).setPort
    ⟨none, BitVec.ofNat 24 (o.start + o.length - 1),
      if s.queue.entries.filter (fun e => !e.draining) = [] then 0 else s.port.aging⟩

/-- Gates turned in the queue and on the portion gate together (R49, R63). -/
def State.turned (s : State) (f : Gate → Gate) : State :=
  (s.setQueue { s.queue with entries := s.queue.entries.map fun e => { e with gate := f e.gate } }).setHost
    { s.host with gate := s.host.gate.map f }

/-- The capture unit without a capture (R25). -/
def CaptureUnit.free (c : CaptureUnit) : CaptureUnit := ⟨c.tail, .idle, none, false, false, [], none, []⟩

/-- The in-flight entry has left the table with its reservation, and the capture unit is IDLE (R30, R31, R42). -/
def State.captureGone (s : State) : State :=
  (s.setCapture s.capture.free).setTable { s.table with
    entries := s.table.entries.filter fun e => some e.granule ≠ s.capture.granule
    reservations := s.table.reservations - 1 }

/-- The first exhaustion of the epoch noted (R46, R47): EXHAUSTED is set, and LOG_EXHAUSTED is raised once. -/
def State.exhaustedBy (s : State) (granule : Nat) : State :=
  if s.table.exhaustionNoted then s.setAlarms { s.alarms with exhausted := true }
  else ((s.setAlarms { s.alarms with exhausted := true }).setTable { s.table with exhaustionNoted := true }).raise
    .logExhausted s.epochNumber (BitVec.ofNat 32 granule)

/-- The gates TIED to granules whose entries have left turn WAIT_MARK (R30, R31, R51). -/
def Gate.waiting (gone : List Nat) : Gate → Gate
  | .tied g => if g ∈ gone then .waitMark else .tied g
  | .opened => .opened
  | .waitMark => .waitMark

/-- The granules of some CAPTURING entries. -/
def GranuleTable.capturingBut (t : GranuleTable) (kept : Option Nat) : List Nat :=
  (t.entries.filter fun e => e.state = .capturing ∧ kept ≠ some e.granule).map TableEntry.granule

/-- The capture unit stopped as the epoch breaks (R31, R51): a read not granted is withdrawn and its entry leaves, one that is
granted runs on and ends stopped, a record write runs on. -/
def State.captureStopped (s : State) : State :=
  if s.capture.phase = .reading ∧ s.capture.granted = false then s.captureGone.watermarkTest
  else if s.capture.phase = .reading then s.setCapture { s.capture with stop := true }
  else s

/-- The waiting captures cancelled (R51): of the CAPTURING entries the one in flight alone stays. -/
def State.waitingCancelled (s : State) : State :=
  (s.setTable { s.table with
    entries := s.table.entries.filter fun e => e.state = .logged ∨ s.capture.granule = some e.granule
    reservations := if s.capture.granule = none then 0 else 1 }).watermarkTest

/-- The epoch broken (R51, R52): BREAKING, the captures stopped and cancelled, the gates TIED to the entries that leave turned
to WAIT_MARK, and the mark write requested to the unselected slot. -/
def State.breaks (s : State) : State :=
  let u := (s.setTable { s.table with status := some .breaking }).captureStopped.waitingCancelled
  (u.turned (Gate.waiting (s.table.capturingBut u.capture.granule))).setHeader { s.header with
    writeRequest := some ⟨.mark, s.header.unselected, false, none, false, false⟩ }

/-! ### A held write beat offered again -/

/-- The gate a held beat that passes no admission is offered with (R145): OPEN for PLAIN, the portion gate for a later GUARDED
beat. -/
def State.ownGate (s : State) (p : Portion) (b : Beat) : Option Gate :=
  if p.cls ≠ .guarded then some .opened else if b.first then none else s.host.gate

/-- The gate admission gives without a new capture (R44, R48): by the granule's entry under INTACT, WAIT_MARK under BREAKING,
OPEN under BROKEN. -/
def State.tableGate (s : State) (granule : Nat) : Option Gate :=
  if s.table.status = some .breaking then some .waitMark
  else if s.table.status = some .broken then some .opened
  else (s.table.lookup granule).map fun e => if e.state = .logged then .opened else .tied granule

/-- The queue takes a beat with a gate (R59); a beat with no lanes needs no room (R43, R145). -/
abbrev State.takesBeat (s : State) (c : Cycle) (b : Beat) (gate : Gate) : Prop :=
  b.lanes = 0 ∨ s.queue.accepts c.word gate = true

/-- `t` follows from the held beat's offer in `u` (R39, R59, R62), decided afresh: the beat is posted with the gate that fits
and answered, or held on; a first beat of a GUARDED portion is decided by admission (R43 to R48). What the event does after
the offer is `after`. -/
def State.offersAgain (u : State) (c : Cycle) (p : Portion) (b : Beat) (after : State → State) (t : State) : Prop :=
  (∀ gate ∈ u.ownGate p b,
      (u.takesBeat c b gate → (after ((u.posted c.word b.lanes b.data p.cls gate).answered c LaneData.empty)).endsIn t)
        ∧ (¬u.takesBeat c b gate → (after (u.held { b with reason := .queueFull })).endsIn t))
    ∧ (p.cls = .guarded → b.first = true →
      (∀ gate ∈ u.tableGate p.granule,
          (u.takesBeat c b gate →
            (after (((u.posted c.word b.lanes b.data p.cls gate).withGate gate).answered c LaneData.empty)).endsIn t)
            ∧ (¬u.takesBeat c b gate → (after (u.held { b with reason := .queueFull })).endsIn t))
        ∧ (u.tableGate p.granule = none → 1 ≤ u.freeSlots →
          (8 ≤ capturingCount u.table.entries → (after (u.held { b with reason := .ninthCapture })).endsIn t)
            ∧ (capturingCount u.table.entries < 8 →
              (u.takesBeat c b (.tied p.granule) →
                (after (((((u.posted c.word b.lanes b.data p.cls (.tied p.granule)).withGate (.tied p.granule)).setTable
                  (u.table.enrol p.granule)).watermarkTest).answered c LaneData.empty)).endsIn t)
                ∧ (¬u.takesBeat c b (.tied p.granule) → (after (u.held { b with reason := .queueFull })).endsIn t)))
        ∧ (u.tableGate p.granule = none → u.freeSlots = 0 →
          (u.header.active.map Configuration.policy = some 0x01#8 →
              (after ((u.closed .busy LaneData.empty).exhaustedBy p.granule)).endsIn t)
            ∧ (u.header.active.map Configuration.policy = some 0x02#8 →
              (u.takesBeat c b .waitMark →
                (after ((((u.posted c.word b.lanes b.data p.cls .waitMark).withGate .waitMark).exhaustedBy
                  p.granule).breaks.answered c LaneData.empty)).endsIn t)
                ∧ (¬u.takesBeat c b .waitMark → (after (u.held { b with reason := .queueFull })).endsIn t))))

/-- A held write beat is offered again on an event of `s` whose effects make `u` (R39, R62): an entry has left, turned its gate
or begun to drain; or the CAPTURING entries have fallen below 8. -/
abbrev State.dueBy (s u : State) (b : Beat) : Prop :=
  b.reason = .queueFull ∧ u.queue.entries ≠ s.queue.entries
    ∨ b.reason = .ninthCapture ∧ 8 ≤ capturingCount s.table.entries ∧ capturingCount u.table.entries < 8

/-- The first entries taken into a drain write (R66). -/
def State.takenIn (s : State) (n : Nat) : State :=
  s.setQueue { s.queue with
    entries := (s.queue.entries.take n).map (fun e => { e with draining := true }) ++ s.queue.entries.drop n }

/-- `t` follows from `u` as an event of `s` ends, `after` being what the event does once the held beat is offered. A read beat
goes on waiting, or is released when its last matching entry has left (R69). A held write beat is offered again where an offer
is due, and with the drain write that the event's grant may begin (R62), and stays as it is else. -/
def State.settlesBy (s u : State) (after : State → State) (t : State) : Prop :=
  (u.rests → (after u).endsIn t)
    ∧ (∀ c ∈ u.host.cycle, ∀ b ∈ u.host.beat, c.write = false → b.reason = .partlyCovered → u.queue.matching c.word = [] →
        (after u).releases c b t)
    ∧ (s.Lawful → u.ctl.state = .opened → ∀ c ∈ u.host.cycle, ∀ p ∈ u.host.portion, ∀ b ∈ u.host.beat, c.write = true →
      (s.dueBy u b → u.offersAgain c p b after t)
        ∧ (¬s.dueBy u b →
          (b.reason = .ninthCapture ∨ u.port.op.isSome ∨ t.port.op.map MemOp.kind ≠ some .drainWrite → (after u).endsIn t)
            ∧ (b.reason = .queueFull → u.port.op = none → ∀ o ∈ t.port.op, o.kind = .drainWrite →
                (u.takenIn o.length).offersAgain c p b after t)))

/-- A header written (R112): its slot is selected, generation, epoch number and format number are its own, and its slot
surveys VALID. -/
def State.headerWritten (s : State) (slot : Slot) (h : HeaderRecord) : State :=
  (s.setHeader { s.header with
    selected := some slot
    generation := some h.generation
    formatNumber := some h.formatNumber
    writeRequest := none
    surveyA := if slot = .a then some ⟨.valid, some h.formatNumber⟩ else s.header.surveyA
    surveyB := if slot = .b then some ⟨.valid, some h.formatNumber⟩ else s.header.surveyB }).setCtl
      { s.ctl with epoch := some h.epoch }

/-- A configuration become active (R7, R8, R89, R114): geometry and table follow it, the pending one is as given. -/
def State.configuredBy (s : State) (c : Configuration) (pending : Option Configuration) : State :=
  (s.setHeader { s.header with active := some c, pendingConfig := pending }).setDec
    { s.dec with geometry := some (geometryOf s.size c.capacity.toNat), table := some c.regions }

/-- A new epoch (R20, R36, R56): tail 0, the table empty and INTACT, the alarm conditions clear. -/
def State.newEpoch (s : State) : State :=
  ((s.setCapture { s.capture with tail := 0 }).setTable ⟨[], 0, some .intact, false⟩).setAlarms ⟨false, false, false⟩

/-- An abandoned request's result (R80): recorded with REQUEST_ABANDONED, no answer driven, the request cleared. -/
def State.recorded (s : State) (op : Operation) (result : EpochResult) : State :=
  (s.raise .requestAbandoned s.epochNumber (0#8 ++ 0#8 ++ op.code ++ result.code)).setCtl
    { s.ctl with pendingRequest := none, answer := none, lastResult := some ⟨op, result⟩ }

/-- A request's result reached (R79, R80): answered, or recorded where the request was abandoned. -/
def State.reached (s : State) (r : Request) (result : EpochResult) : State :=
  if r.abandoned then s.recorded r.op result else s.answers r.op result

/-- The engine's next record read (R101, R102, R121). -/
def RollbackEngine.reads (e : RollbackEngine) (slot : Nat) : RollbackEngine :=
  { e with phase := .reading, granted := false, cursor := some slot, probing := false, buffer := [] }

/-- The word an arrived place holds, by whether MERR came with it (R139). -/
def Place.wordOf (merr : Bool) : Place → Option MWord
  | .requested => none
  | .arrived word m => if m = merr then some word else none

/-- The port has handed over the word in hand of a host read (R152, R153). -/
def State.wordPassed (s : State) (o : MemOp) : State :=
  s.setPort { s.port with op := some { o with beat := o.beat + 1 }, address := BitVec.ofNat 24 (o.start + o.beat) }

/-- A place of the read buffer ARRIVED (R139, R148). -/
def State.placed (s : State) (word : Nat) (data : MWord) (merr : Bool) : State :=
  s.setHost { s.host with buffer := (word, .arrived data merr) :: s.host.buffer.filter fun q => q.1 ≠ word }

/-- OPEN left with a write cycle in hand (R143): a beat that waits is answered BUSY, and a cycle that awaits its next beat
is one the next beat will end (log 11). -/
def State.writeOvertaken (s : State) : State :=
  match s.host.cycle with
  | some c =>
    if c.write = false then s
    else if s.host.beat.isSome then s.closed .busy LaneData.empty
    else s.setHost { s.host with cycle := some { c with overtaken := true } }
  | none => s

/-- EREQ seen low (R77). -/
def State.seenLow (s : State) : State :=
  (s.setPins { s.pins with ereq := false }).setCtl { s.ctl with lowSeen := true }

/-- The request remembered behind an abandoned one taken in OPEN (R78, R80, R83), but for a ROLLBACK that is carried out: a
COMMIT begins (R86), a FLUSH sets its mark or is answered (R72, R92), the others are refused (R83, R85). -/
def State.takesNext (s : State) (op : Operation) : State :=
  let u := s.setCtl { s.ctl with remembered := none }
  match op with
  | .illegal => u.answers .illegal .refused
  | .flush => match s.queue.entries.getLast? with
    | some e => (u.setCtl { u.ctl with phase := .working, pendingRequest := some ⟨.flush, false⟩ }).setQueue
        { u.queue with mark := some e.age }
    | none => u.answers .flush .ok
  | .commit =>
    if s.epochNumber = 281474976710655#48 then
      (u.answers .commit .refused).raise .epochLimit s.epochNumber (0x01#8 ++ 0#8 ++ 0#8 ++ op.code)
    else (u.setCtl { u.ctl with
      state := .draining, phase := .working, pendingRequest := some ⟨.commit, false⟩ }).writeOvertaken
  | .rollback =>
    if s.epochNumber = 281474976710655#48 then
      (u.answers .rollback .refused).raise .epochLimit s.epochNumber (0x01#8 ++ 0#8 ++ 0#8 ++ op.code)
    else u.answers .rollback .refused

/-- The alarm condition BROKEN set (R53). -/
def State.withBroken (s : State) : State := s.setAlarms { s.alarms with broken := true }

/-- A device state entered (R82). -/
def State.entering (s : State) (d : DeviceState) : State := s.setCtl { s.ctl with state := d }

/-- The record a read returned is good in a walk, or valid in the scan (R100, R120): no beat with MERR, the kind, the check
under the selected header's format number, the slot number, the open epoch, a granule below the granule floor. -/
abbrev State.recordIsGood (s : State) (merr : List BadBeat) (ws : List MWord) : Prop :=
  merr = [] ∧ field (bytesOf ws) 0 1 = 0xA7 ∧ recordPasses (s.header.formatNumber.getD 0) ws = true
    ∧ field (bytesOf ws) 1 2 = s.engine.slotRead ∧ field (bytesOf ws) 6 6 = s.epochNumber.toNat
    ∧ field (bytesOf ws) 3 3 < s.granuleFloor / 64

/-- The controller with a request answered REFUSED (R79). -/
def EpochController.refusing (c : EpochController) (op : Operation) : EpochController :=
  { c with
    phase := .working, pendingRequest := some ⟨op, false⟩, answer := some ⟨op, .refused⟩, eres := .refused }

/-- `t`'s controller as a start-up ends in UNFORMATTED or FAULT, entered as in `c` (R78, R81, R117): a request that straddles
the start-up, or else one remembered meanwhile, is answered REFUSED. -/
abbrev State.endsRefusing (s : State) (c : EpochController) (t : State) : Prop :=
  (s.pins.ereq = true → s.ctl.lowSeen = false → t.ctl = c.refusing (Operation.ofEop s.pins.eop))
    ∧ (s.pins.ereq = false ∨ s.ctl.lowSeen = true →
      (s.ctl.remembered = none → t.ctl = c) ∧ (∀ op ∈ s.ctl.remembered, t.ctl = { c.refusing op with remembered := none }))

/-- The controller as FAULT is entered (R82, R111). -/
def EpochController.faulted (c : EpochController) (reason : FaultReason) : EpochController :=
  { c with state := .fault, faultReason := some reason, epoch := none }

/-- `t` is the device on the selection of a slot (R117, R118, R119, R120): the header's values taken, the staged
configuration a copy of the active one, HEADER_DAMAGED where the other slot is DAMAGED or UNFIT, and recovery begun; for an
epoch recorded BROKEN at the limit, FAULT, a waiting request being answered REFUSED (R78, R81, R123). -/
abbrev State.selects (s : State) (slot : Slot) (h : HeaderRecord) (other : Judgement) (t : State) : Prop :=
  t.mem = s.mem ∧ (h.broken = false ∨ h.epoch ≠ 281474976710655#48 →
    t.ctl.state = .recovering ∧ t.ctl.epoch = some h.epoch ∧ t.header.selected = some slot
      ∧ t.header.generation = some h.generation ∧ t.header.formatNumber = some h.formatNumber
      ∧ t.header.active = some h.config ∧ t.header.pendingConfig = none ∧ t.link.staged = h.config
      ∧ t.dec.geometry = some (geometryOf s.size h.config.capacity.toNat) ∧ t.dec.table = some h.config.regions
      ∧ (h.broken = false → t.table.status = some .intact ∧ t.engine.purpose = some .recovery ∧ t.engine.pass = .scan
          ∧ (0 < h.config.capacity.toNat → t.engine.phase = .reading ∧ t.engine.cursor = some 0)
          ∧ t.engine.restored = 0 ∧ t.engine.damaged = 0)
      ∧ (h.broken = true → t.table.status = some .broken ∧ t.engine.phase = .idle
          ∧ t.header.writeRequest.map (fun w => (w.kind, w.target)) = some (.recoverySeal, slot.other)))
    ∧ (h.broken = true → h.epoch = 281474976710655#48 →
        t.ctl.state = .fault ∧ t.ctl.faultReason = some .epochLimit ∧ t.header.selected = none
          ∧ s.endsRefusing (s.ctl.faulted .epochLimit) t)
    ∧ (s.events.records.length < 14 → t.ctl.state = .recovering →
      t.events.records = s.events.records
        ++ (if other = .damaged ∨ other = .unfit then [⟨.headerDamaged, h.epoch, if slot = .b then 0#32 else 1#32⟩] else [])
        ++ (if h.broken then [⟨.epochLost, h.epoch, 0#32⟩] else []))

/-- FAULT with reason STRAP, entered on the strap sample (R1, R81): a request standing on EREQ is answered REFUSED. -/
def strapFault (pins : Pins) : EpochController :=
  { EpochController.reset with
    state := .fault
    faultReason := some .strap
    phase := if pins.ereq then .working else .idle
    pendingRequest := if pins.ereq then some ⟨Operation.ofEop pins.eop, false⟩ else none
    answer := if pins.ereq then some ⟨Operation.ofEop pins.eop, .refused⟩ else none
    eres := if pins.ereq then .refused else .ok }

/-- PARKED under a PFW taken on the first sample in STARTING (R127, R132): with the strap sample first the memory size has a
value, and code 7 has passed through FAULT. -/
def State.parkedAtStart (u : State) (order : StartOrder) : State :=
  let fault : Bool := order = StartOrder.strapFirst ∧ u.pins.msz = 7#3
  ({ u with
    dec := ⟨if order = StartOrder.strapFirst ∧ u.pins.msz ≠ 7#3 then some (2 ^ (20 + u.pins.msz.toNat)) else none, none, none⟩
    ctl := { EpochController.reset with
      state := .parked
      parkedFrom := some (if fault then .fault else .starting)
      eres := if fault ∧ u.pins.ereq = true then .refused else .ok } }).raise .powerParked 0#48
        (0#8 ++ 0#8 ++ 0#8 ++ if fault then 4#8 else 1#8)

/-- Everything volatile at its reset value but the event queue, and MA as it stands (R133). -/
def State.cleared (u : State) : State :=
  { State.reset with
    pins := u.pins, mem := u.mem, events := u.events, pending := u.pending, port := ⟨none, u.port.address, 0⟩ }

/-- A restart begun (R1, R133, R115): the strap sampled and the read of slot A granted, or FAULT for code 7. -/
def State.restarted (u : State) : State :=
  if u.pins.msz = 7#3 then { u.cleared with ctl := strapFault u.pins }
  else { u.cleared with
    dec := ⟨some (2 ^ (20 + u.pins.msz.toNat)), none, none⟩
    header := { HeaderUnit.reset with readRequest := some ⟨.a, true⟩ }
    port := ⟨some ⟨.headerRead, (2 ^ (20 + u.pins.msz.toNat) - 512) / 4, 64, [], 0⟩,
      BitVec.ofNat 24 ((2 ^ (20 + u.pins.msz.toNat) - 512) / 4), 0⟩ }

/-- PARKED entered from PARKING (R132): POWER_PARKED with the state left and the open epoch. -/
def State.parked (u : State) : State :=
  (u.entering .parked).raise .powerParked u.epochNumber
    (0#8 ++ 0#8 ++ 0#8 ++ (u.ctl.parkedFrom.map DeviceState.code).getD 0#8)

/-- `c` completes an operation in PARKING with the effects that make `u` (R130, R132, R133): the device is PARKED, or
restarts where PFW has been seen deasserted meanwhile, PFW being taken again on the first sample where the release said so
(R127; log 14). -/
abbrev State.parksAs (s : State) (c : Instr) (u : State) : Prop :=
  exec c s = .next (if s.pins.pfw then u.parked
    else match s.ctl.again with
      | none => u.parked.restarted
      | some order => (u.parked.setPins { u.pins with pfw := true }).cleared.parkedAtStart order)

/-- The engine with nothing of its work left (R98), its counts kept. -/
def RollbackEngine.stopped (e : RollbackEngine) : RollbackEngine :=
  { e with phase := .idle, purpose := none, cursor := none, granted := false, buffer := [], probing := false }

/-- `t` is `u` with a remembered request taken as an epoch opens, the queue being empty (R78, R83, R85, R86, R92, R94): a
COMMIT finds nothing to wait for and its seal is requested at once, as is a ROLLBACK's where no GUARDED read is open. -/
abbrev State.takesAtOpening (u : State) (op : Operation) (t : State) : Prop :=
  t.ctl.remembered = none ∧ t.mem = u.mem ∧ t.dec = u.dec ∧ t.table = u.table ∧ t.queue.entries = []
    ∧ (op = .illegal ∨ op = .flush →
        t.ctl = { (u.answers op (if op = .flush then .ok else .refused)).ctl with remembered := none }
          ∧ t.events = u.events)
    ∧ (op = .commit ∨ op = .rollback →
        (u.epochNumber = 281474976710655#48 → t.ctl = { (u.answers op .refused).ctl with remembered := none }
          ∧ t.events = (u.raise .epochLimit u.epochNumber (0x01#8 ++ 0#8 ++ 0#8 ++ op.code)).events)
        ∧ (u.epochNumber ≠ 281474976710655#48 → t.events = u.events
          ∧ t.ctl = { u.ctl with
              state := if op = .rollback ∧ u.guardedReadOpen = true then .rollingBack else .sealing
              phase := .working, pendingRequest := some ⟨op, false⟩, remembered := none }
          ∧ (op = .commit ∨ u.guardedReadOpen = false →
              t.header.writeRequest.map (fun w => (w.kind, w.target)) = some (.commitSeal, u.header.unselected))))

/-- `t` is the end of a recovery (R122, R123): the engine IDLE, the recovery seal requested, or FAULT at the epoch limit with
EPOCH_LIMIT carrying the restored count, a waiting request being answered REFUSED (R81); `u` holds the events raised before. -/
abbrev State.recoveryEnds (s u t : State) : Prop :=
  t.engine.phase = .idle ∧ t.mem = u.mem
    ∧ (s.epochNumber ≠ 281474976710655#48 → t.ctl = s.ctl ∧ t.events = u.events
        ∧ t.header.writeRequest.map (fun w => (w.kind, w.target)) = some (.recoverySeal, s.header.unselected))
    ∧ (s.epochNumber = 281474976710655#48 → t.ctl.state = .fault ∧ t.ctl.faultReason = some .epochLimit
        ∧ t.header.selected = none ∧ s.endsRefusing (s.ctl.faulted .epochLimit) t
        ∧ t.events = (u.raise .epochLimit s.epochNumber (0x02#8 ++ 0#8 ++ BitVec.ofNat 16 u.engine.restored)).events)

/-- `t` is the end of a rollback's walk (R103, R104): the engine IDLE, and the seal requested once the queue is empty. -/
abbrev State.rollbackEnds (s t : State) : Prop :=
  t.engine.phase = .idle ∧ t.engine.walkDone = true
    ∧ (s.queue.entries = [] → t.ctl = { s.ctl with state := .sealing }
        ∧ t.header.writeRequest.map (fun w => (w.kind, w.target)) = some (.commitSeal, s.header.unselected))
    ∧ (s.queue.entries ≠ [] → t.ctl = s.ctl)

/-- The device states as status byte 0 codes them (R176). -/
def stateCodes : List (DeviceState × Byte) :=
  [(.starting, 1), (.recovering, 2), (.unformatted, 3), (.fault, 4), (.formatting, 5), (.opened, 6), (.draining, 7),
    (.rollingBack, 8), (.sealing, 9), (.parking, 10), (.parked, 11)]

/-- The device state the conditions UNFORMATTED and FAULT go by (R132, R174; log 31): in PARKING and PARKED the one left. -/
abbrev State.alarmed (s : State) (d : DeviceState) : Prop :=
  s.ctl.state = d ∨ s.ctl.state.stopped = true ∧ s.ctl.parkedFrom = some d

/-- The alarm byte (R174, R176), bit by bit from the least. -/
abbrev State.alarmSays (s : State) (b : Byte) : Prop :=
  b.getLsbD 0 = s.alarms.watermark ∧ b.getLsbD 1 = s.alarms.exhausted ∧ b.getLsbD 2 = s.alarms.broken
    ∧ b.getLsbD 3 = decide (s.alarmed .unformatted) ∧ b.getLsbD 4 = decide (s.alarmed .fault)
    ∧ b.getLsbD 5 = s.events.lost ∧ b.getLsbD 6 = false ∧ b.getLsbD 7 = false

/-- The device state the status record shows (R171): ROLLING_BACK until the seal of a ROLLBACK completes (R94; log 34). -/
abbrev State.shows (s : State) (d : DeviceState) : Prop :=
  if s.ctl.state = .sealing ∧ s.ctl.pendingRequest.map Request.op = some .rollback then d = .rollingBack
  else d = s.ctl.state

/-- The 24 bytes of the status record, field by field (R171, R176). -/
abbrev State.statusSays (s : State) (r : List Byte) : Prop :=
  r.length = 24 ∧ (∀ p ∈ stateCodes, s.shows p.1 → r[0]? = some p.2)
    ∧ (∀ p ∈ [(none, 0#8), (some FaultReason.strap, 1#8), (some .header, 2#8), (some .config, 3#8), (some .epochLimit, 4#8)],
        s.ctl.faultReason = p.1 → r[1]? = some p.2)
    ∧ (∀ p ∈ [(none, 0#8), (some EpochStatus.intact, 1#8), (some .broken, 2#8), (some .breaking, 3#8)],
        s.table.status = p.1 → r[2]? = some p.2)
    ∧ r[3]? = some (if s.header.pendingConfig = none then 0#8 else 1#8)
    ∧ r[4]? = some (if s.events.lost then 1#8 else 0#8)
    ∧ (∃ b ∈ r[5]?, s.alarmSays b)
    ∧ field r 6 6 = (s.ctl.epoch.map BitVec.toNat).getD 0 ∧ field r 12 2 = s.capture.tail % 65536
    ∧ field r 14 2 = (s.header.active.map fun c => c.capacity.toNat).getD 0
    ∧ field r 16 1 = s.table.reservations % 256 ∧ field r 17 1 = s.queue.entries.length % 256
    ∧ field r 18 2 = s.table.entries.length % 65536
    ∧ (s.ctl.lastResult = none → r[20]? = some 0#8 ∧ r[21]? = some 0#8)
    ∧ (∀ a ∈ s.ctl.lastResult,
        (∀ p ∈ [(Operation.commit, 1#8), (.rollback, 2#8), (.flush, 3#8), (.illegal, 4#8)], a.op = p.1 → r[20]? = some p.2)
          ∧ (∀ p ∈ [(EpochResult.ok, 0#8), (.partly, 1#8), (.refused, 2#8), (.interrupted, 3#8)],
              a.result = p.1 → r[21]? = some p.2))
    ∧ field r 22 1 = s.events.records.length % 256 ∧ r[23]? = some 0#8

/-- The requesters of higher rank (R158). -/
def Requester.above : Requester → List Requester
  | .header => []
  | .engine => [.header]
  | .capture => [.header, .engine]
  | .hostRead => [.header, .engine, .capture]
  | .drain => [.header, .engine, .capture, .hostRead]

/-- The requester an operation of a kind belongs to ("Operations by requester" of 10). -/
def OpKind.requester : OpKind → Requester
  | .headerRead => .header
  | .headerWrite => .header
  | .recordRead => .engine
  | .restoreWrite => .engine
  | .preImageRead => .capture
  | .recordWrite => .capture
  | .hostRead => .hostRead
  | .drainWrite => .drain

/-- A request wins the grant (R158, R159, R160): none of higher rank stands, but that a drain goes before a host read at an
aging count of 4. -/
abbrev State.wins (s : State) (r : Requester) : Prop :=
  (s.standing r).isSome
    ∧ (∀ q ∈ r.above, s.standing q = none ∨ r = .drain ∧ q = .hostRead ∧ 4 ≤ s.port.aging)
    ∧ (r = .hostRead → s.port.aging < 4 ∨ s.standing .drain = none)

/-- An entry describes a region that contains a byte address (R8, R12). -/
abbrev RegionEntry.holds (e : RegionEntry) (a : Nat) : Prop :=
  e.present = 0x01#8 ∧ 65536 * e.base.toNat ≤ a ∧ a < 65536 * (e.base.toNat + e.length.toNat)

/-- A link command taken (R163, R164): its bytes and its response stand, the first of them the result. -/
def State.responds (s : State) (sent response : List Byte) : State :=
  s.setLink { s.link with
    phase := .responding, bitCount := 0, byteCount := sent.length, command := sent, response := response }

/-- The head record is to leave when its last byte is sent (R173). -/
def State.removing (s : State) (b : Bool) : State := s.setLink { s.link with pendingRemoval := b }

/-- The staged configuration replaced (R166). -/
def State.staging (s : State) (c : Configuration) : State := s.setLink { s.link with staged := c }

/-- Some rising edge of EREQ as its command and the operation on EOP (R76). -/
def edgeCommands : List (Instr × Operation) :=
  [(.commit, .commit), (.rollback, .rollback), (.flush, .flush), (.illegalOperation, .illegal)]

/-- The completions of the header unit's writes with the kinds they complete. -/
def headerCompletions (number : BitVec 32) : List (Instr × WriteKind) :=
  [(.markWriteComplete, .mark), (.sealComplete, .commitSeal), (.recoverySealComplete, .recoverySeal),
    (.clearingWriteComplete, .clearing number), (.formatWriteComplete, .formatWrite number)]

end Sys2Proof.Machine
end

