-- ==== Sys2Proof/Certificates/Slice0/Obligations.lean ====
section
/-! DEFINITION. The statements for the provers. -/

open Sys2Proof Sys2Proof.Machine

/-! ### The machine -/

/-- The step runs the command at the front of the queue, on the state with the queue's rest. On an empty queue the
block idles, which is the model's choice (log 4). -/
def Obligations.StepRunsFrontCommand : Prop :=
  ∀ (s : State) (c : Instr) (rest : List Instr),
    (s.pending = c :: rest → step s = exec c (s.setPending rest)) ∧ (s.pending = [] → step s = .next s)

/-- No command touches the commands that wait behind it. -/
def Obligations.ExecKeepsWaitingCommands : Prop :=
  ∀ (s : State) (c : Instr) (t : State), exec c s = .next t → t.pending = s.pending

/-- No command is refused, and one faults only where the operation in progress reaches past the memory (R2). -/
def Obligations.ExecStopsOnlyBeyondMemory : Prop :=
  ∀ (s : State) (c : Instr),
    (∀ r : Refusal, exec c s ≠ .refused r)
      ∧ (∀ r : Fault, exec c s = .fault r → ∃ o ∈ s.port.op, s.size / 4 < o.start + o.length)

/-- Every well-formed link command is read back from the bytes it travels as, with every argument at every value, and
what a frame's bytes spell travels as those bytes (R165, R176). A word of those bytes, the first in bits 7..0, spells the
command, for its samples on SDI take it (R163); that a word is read so is the model's choice (log 1). -/
def Obligations.LinkCommandsReadBack : Prop :=
  ∀ (c : Instr) (bytes : List Byte), c.wf = true →
    (linkBytes c = some bytes → linkCommand bytes = some c
        ∧ decodeTableWord (8 * bytes.length) (bytesWord bytes) = some c)
      ∧ (∀ d, linkCommand bytes = some d → linkBytes d = some bytes ∧ d.wf = true)

/-! ### What every step keeps -/

/-- The persistent memory keeps its canonical form. The form is the model's own (log 2). -/
def Obligations.StepKeepsMemoryCanonical : Prop :=
  ∀ (s t : State), s.mem.wf = true → step s = .next t → t.mem.wf = true

/-- The posting queue, the event queue and the aging count stay within their bounds (R58, R172, R160). -/
def Obligations.StepKeepsBounds : Prop := ∀ (s t : State), s.bounded → step s = .next t → t.bounded

/-- The granule table holds at most 256 entries, never two for one granule, at most 8 CAPTURING, and the reservation
count is the number of those (R39, R42). -/
def Obligations.StepKeepsTableLawful : Prop := ∀ (s t : State), s.table.lawful → step s = .next t → t.table.lawful

/-- The blocks go on agreeing with the device state and with one another: requests, engine, captures, epoch status, header
values, parking and the pins (R25, R50, R82, R98, R111, R115, R127, R128), everything at its reset value while RESETN
stands asserted (R134); the host port, the link's frame and the handshake hold what their phases say (R77 to R80, R139,
R164), and the request in hand is the one the device state works on (R86). The fields of the model's own that
take part are log 17's and log 11's; that in FAULT the decoder's table copy is none is the model's choice (log 29). -/
def Obligations.StepKeepsBlocksConsistent : Prop :=
  ∀ (s t : State), s.Lawful → step s = .next t →
    t.consistent ∧ t.hostHolds ∧ t.linkHolds ∧ t.handshakeLawful ∧ t.requestAgrees

/-- A queue entry is GUARDED or PLAIN with at least one lane, a PLAIN entry and a draining entry have gate OPEN; so no
GUARDED entry is in a drain write with its gate not OPEN (R57, R64, R66). -/
def Obligations.StepKeepsDrainingGatesOpen : Prop :=
  ∀ (s t : State), (∀ e ∈ s.queue.entries, e.lawful) → s.cycleLawful → step s = .next t →
    (∀ e ∈ t.queue.entries, e.lawful) ∧ t.cycleLawful

/-- The drain and what it may write. The draining entries stand at the head of the queue and are the drain write in
progress: at least one, as many words as entries at consecutive words, their lanes and bytes its data (R66, R67). Every TIED
gate, in the queue and on the portion of a write cycle that goes on, names a CAPTURING entry of the table, and WAIT_MARK
stands under BREAKING alone (R49, R51, R63, R64; log 26). The operation in progress, whoever owns it, is the one granted
to that requester, and no other holds a grant (R152, R157, R161). In OPEN and DRAINING the ages are the append counter's last
values in order, and a flush mark lies within 8 appends (R61, R72). -/
def Obligations.StepKeepsQueueAndPort : Prop :=
  ∀ (s t : State), s.Lawful → step s = .next t → t.drainingFirst ∧ t.drainMatches ∧ t.agesAgree ∧ t.gatesAgree ∧ t.portAgrees

/-- In any device state other than OPEN no host write beat enters the posting queue (R146): a step from such a state
leaves in the queue only entries that were there, with their words, lanes, classes and ages; and no write beat waits
outside OPEN. -/
def Obligations.StepPostsWritesOnlyInOpen : Prop :=
  ∀ (s t : State), s.Lawful → step s = .next t →
    t.heldWriteInOpen
      ∧ (s.ctl.state ≠ .opened →
          (t.queue.entries.map fun e => (e.word, e.lanes, e.cls, e.age)).Sublist
            (s.queue.entries.map fun e => (e.word, e.lanes, e.cls, e.age)))

/-- No event leaves the memory port IDLE with a request standing, but in PARKING and PARKED and while RESETN stands
asserted (R159); and none leaves work undone that it owes (R26, R73, R78, R86, R97, R104). That all of it is done
within the event is the order of log 6. -/
def Obligations.StepLeavesNothingDue : Prop :=
  ∀ (s t : State), s.consistent → s.workConserving → step s = .next t →
    t.workConserving ∧ (s.handshakeLawful → s.requestAgrees → s.nothingDue → t.nothingDue)

/-- No command faults, for every operation in progress and everything the requesters will address stays below the
memory size (R2, R5, R7): the tail plus the reservation count stays at most N (R42), every configuration in the device
stays valid against the memory size (R10), and the geometry and the decoder's table stay the active one's (R7, R8);
that in FAULT, where none is active, the table copy is none too is the model's choice (log 29). -/
def Obligations.StepStaysInMemory : Prop :=
  ∀ (s : State), s.Lawful → ∃ t, step s = .next t ∧ t.logFits ∧ t.configured ∧ t.addressed

/-- What the units hold goes on being what their rules fix. The capture unit: the record it writes is that of the image it
read, in slot tail (R25, R28). The rollback engine: a record it restores is good (R98 to R101). The header unit: target
and content of a write are those of its kind (R52, R87, R112, R115); so the generation of successive headers rises by
exactly one, and only by a write that completes (R113). -/
def Obligations.StepKeepsUnitContents : Prop :=
  ∀ (s t : State) (g h : BitVec 64), s.Lawful → step s = .next t →
    t.captureHolds ∧ t.engineHolds ∧ t.headerHolds ∧ t.contentAgrees
      ∧ (s.header.generation = some g → t.header.generation = some h →
          h = g ∨ h = g + 1 ∧ ∃ w ∈ s.header.writeRequest, w.granted = true ∧ t.header.writeRequest ≠ some w)

/-- All of these hold at reset. -/
def Obligations.ResetMeetsInvariants : Prop :=
  State.reset.mem.wf = true ∧ State.reset.bounded ∧ State.reset.table.lawful ∧ State.reset.consistent
    ∧ State.reset.logFits ∧ (∀ e ∈ State.reset.queue.entries, e.lawful) ∧ State.reset.cycleLawful
    ∧ State.reset.drainingFirst ∧ State.reset.drainMatches ∧ State.reset.agesAgree ∧ State.reset.heldWriteInOpen
    ∧ State.reset.handshakeLawful ∧ State.reset.requestAgrees ∧ State.reset.workConserving
    ∧ State.reset.nothingDue ∧ State.reset.configured ∧ State.reset.addressed ∧ State.reset.contentAgrees
    ∧ State.reset.captureHolds ∧ State.reset.engineHolds ∧ State.reset.headerHolds ∧ State.reset.linkHolds
    ∧ State.reset.hostHolds ∧ State.reset.gatesAgree ∧ State.reset.portAgrees ∧ State.reset.Lawful

/-- A byte of the persistent memory changes only where the operation in progress is a write that covers it, and only
as that write completes or is cut off (R136, R153, R156). That bytes land on the completion is the model's reading
(log 21). -/
def Obligations.MemoryChangesOnlyByWritesInProgress : Prop :=
  ∀ (s : State) (c : Instr) (t : State) (a : Nat), exec c s = .next t → t.mem.read a ≠ s.mem.read a →
    ∃ o ∈ s.port.op, o.kind.isWrite = true ∧ 4 * o.start ≤ a ∧ a < 4 * (o.start + o.length)
      ∧ ((∃ tear : List Lanes, c = .resetnAssert tear ∨ c = .supplyCollapse tear)
        ∨ (o.kind = .drainWrite ∧ c = .drainWriteComplete) ∨ (o.kind = .recordWrite ∧ c = .recordWriteComplete)
        ∨ (o.kind = .restoreWrite ∧ c = .restoreWriteComplete)
        ∨ (o.kind = .headerWrite ∧ c ∈ (headerCompletions 0).map Prod.fst))

/-- The active configuration changes only on the completion of a seal that took the pending one, of a format write, of
the start-up read that selects a header, or to none with a start-up (in PARKED already, where PFW stands asserted on a
release of RESETN or comes back on a restart's first sample, R127; log 14) or FAULT (R114). -/
def Obligations.ActiveConfigurationChangesOnlyAsStated : Prop :=
  ∀ (s : State) (c : Instr) (t : State), exec c s = .next t → t.header.active ≠ s.header.active →
    (c = .sealComplete ∧ ∃ w ∈ s.header.writeRequest, w.wrotePending = true
        ∧ t.header.active = some ((w.content.map HeaderRecord.config).getD .default))
      ∨ (c = .formatWriteComplete ∧ ∃ w ∈ s.header.writeRequest,
          t.header.active = some ((w.content.map HeaderRecord.config).getD .default))
      ∨ (∃ merr, c = .headerReadComplete merr ∧ t.ctl.state = .recovering)
      ∨ (t.header.active = none ∧ (t.ctl.state = .starting ∨ t.ctl.state = .fault
          ∨ t.ctl.state = .parked ∧ ((∃ msz order, c = .resetnRelease ⟨msz, order⟩ ∨ c = .restart ⟨msz, some order⟩)
            ∨ s.ctl.state = .parking ∧ s.pins.pfw = false ∧ s.ctl.again ≠ none)))

/-! ### Reset and power -/

/-- RESETN's assertion and a supply collapse: everything volatile at its reset value, the event queue among it, MA at
0, and the memory as the cut-off leaves it (R134, R136). The torn lanes are the command's operand (log 7), and the
other pins keep their levels (log 3). -/
def Obligations.CutOffResetsEverything : Prop :=
  ∀ (s : State) (c : Instr) (tear : List Lanes) (m : Memory), (c = .resetnAssert tear ∨ c = .supplyCollapse tear) →
    s.tornMemory tear = some m →
      exec c s = .next { State.reset with pins := { s.pins with resetLow := true }, mem := m, pending := s.pending }

/-- What a cut-off leaves in the memory (R136): a byte that the write in progress had strobed may hold the old or the
new data, every other byte is as it was; a read in progress changes nothing. The torn lanes are the command's operand
(log 7). -/
def Obligations.CutOffTearsOnlyTheWrite : Prop :=
  ∀ (s : State) (tear : List Lanes) (m : Memory) (a : Nat), s.tornMemory tear = some m →
    m.read a = s.mem.read a
      ∨ ∃ o ∈ s.port.op, o.kind.isWrite = true ∧ m.read a = (s.mem.writeBeats o.start o.stores).read a
          ∧ 4 * o.start ≤ a ∧ a < 4 * (o.start + o.length)

/-- The release of RESETN (R1, R115): STARTING with the memory size the strap's code gives, the start-up read of slot
A granted at once on the IDLE port; with code 7 FAULT with reason STRAP, a request standing on EREQ being answered
REFUSED (R81). MA moves at the grant (log 23). Where PFW stands asserted at the release it is taken on the first sample, and
the device is PARKED with the read withdrawn or never requested (R127, R132); which of the two comes first is the command's
operand (log 14). -/
def Obligations.ReleaseStartsUp : Prop :=
  ∀ (s : State) (msz : BitVec 3) (order : StartOrder) (size : Nat), s.pins.resetLow = true → s.heldInReset →
    (s.pins.pfw = false →
      (msz.toNat < 7 → size = 2 ^ (20 + msz.toNat) →
        exec (.resetnRelease ⟨msz, order⟩) s = .next { s with
          pins := { s.pins with resetLow := false, msz := msz }
          dec := ⟨some size, none, none⟩
          header := { HeaderUnit.reset with readRequest := some ⟨.a, true⟩ }
          port := ⟨some ⟨.headerRead, (size - 512) / 4, 64, [], 0⟩, BitVec.ofNat 24 ((size - 512) / 4), 0⟩ })
      ∧ (msz = 7#3 →
        exec (.resetnRelease ⟨msz, order⟩) s = .next { s with
          pins := { s.pins with resetLow := false, msz := msz }
          ctl := { EpochController.reset with
            state := .fault
            faultReason := some .strap
            phase := if s.pins.ereq then .working else .idle
            pendingRequest := if s.pins.ereq then some ⟨Operation.ofEop s.pins.eop, false⟩ else none
            answer := if s.pins.ereq then some ⟨Operation.ofEop s.pins.eop, .refused⟩ else none
            eres := if s.pins.ereq then .refused else .ok } }))
      ∧ (s.pins.pfw = true →
        exec (.resetnRelease ⟨msz, order⟩) s
          = .next ((s.setPins { s.pins with resetLow := false, msz := msz }).parkedAtStart order))

/-- A restart (R133): PFW seen deasserted in PARKED resets everything volatile but the event queue with its lost flag,
and begins a start-up, which ends in FAULT for strap code 7 (R1); in any other state the level alone moves, and in PARKING
the restart that follows is kept. Where PFW is asserted again on the first sample in STARTING, it is taken there (R127). That a
RESTART row gives the strap's level, moves the level of PFW in every state, and gives that first sample, is the model's choice
(log 14, log 15). -/
def Obligations.RestartBeginsInParkedOnly : Prop :=
  ∀ (s : State) (msz : BitVec 3) (again : Option StartOrder) (order : StartOrder) (size : Nat), s.pins.resetLow = false →
    (s.ctl.state ≠ .parked → s.ctl.state ≠ .parking →
        exec (.restart ⟨msz, again⟩) s = .next { s with pins := { s.pins with pfw := false, msz := msz } })
      ∧ (s.ctl.state = .parking →
        exec (.restart ⟨msz, again⟩) s = .next { s with
          pins := { s.pins with pfw := false, msz := msz }, ctl := { s.ctl with again := again } })
      ∧ (s.ctl.state = .parked → msz.toNat < 7 → size = 2 ^ (20 + msz.toNat) →
        exec (.restart ⟨msz, none⟩) s = .next
          { pins := { s.pins with pfw := false, msz := msz }
            mem := s.mem, events := s.events, pending := s.pending
            dec := ⟨some size, none, none⟩
            capture := .reset, table := .reset, queue := .reset, ctl := .reset, engine := .reset
            header := { HeaderUnit.reset with readRequest := some ⟨.a, true⟩ }
            port := ⟨some ⟨.headerRead, (size - 512) / 4, 64, [], 0⟩, BitVec.ofNat 24 ((size - 512) / 4), 0⟩
            host := .reset, link := .reset, alarms := .reset })
      ∧ (s.ctl.state = .parked → msz = 7#3 →
        exec (.restart ⟨msz, none⟩) s
          = .next { (s.setPins { s.pins with pfw := false, msz := msz }).cleared with
              ctl := strapFault { s.pins with pfw := false, msz := msz } })
      ∧ (s.ctl.state = .parked →
        exec (.restart ⟨msz, some order⟩) s
          = .next ((s.setPins { s.pins with pfw := true, msz := msz }).cleared.parkedAtStart order))

/-- PFW taken (R128, R129, R71, R91): PARKING from the state left, requests that are not granted withdrawn, the queue
left with its draining entries, the pending and the remembered request gone without trace, a waiting beat answered
BUSY; what is granted runs on, and with an IDLE port the device is PARKED at once (R132). That the capture unit keeps
what it held is the model's reading (log 18). In PARKING and PARKED the level alone moves, and a release that stood in PARKING
leaves no trace (R127, R133). -/
def Obligations.PfwParksTheDevice : Prop :=
  ∀ (s : State), s.pins.resetLow = false →
    (s.ctl.state = .parking ∨ s.ctl.state = .parked →
      exec .pfwTaken s = .next { s with pins := { s.pins with pfw := true }, ctl := { s.ctl with again := none } })
    ∧ (s.ctl.state ≠ .parking → s.ctl.state ≠ .parked →
    ∃ t, exec .pfwTaken s = .next t ∧ t.pins = { s.pins with pfw := true } ∧ t.mem = s.mem
      ∧ (s.port.op.isSome → t.ctl.state = .parking ∧ t.events = s.events)
      ∧ (s.port.op = none → t.ctl.state = .parked
          ∧ (s.events.records.length < 16 → t.events = { s.events with
              records := s.events.records
                ++ [⟨.powerParked, s.ctl.epoch.getD 0, BitVec.ofNat 32 s.ctl.state.code.toNat⟩] })
          ∧ (16 ≤ s.events.records.length → t.events = { s.events with lost := true }))
      ∧ t.ctl = { s.ctl with
          state := t.ctl.state, parkedFrom := some s.ctl.state, faultReason := none
          phase := if s.ctl.phase = .answered then .answered else .idle
          pendingRequest := none, remembered := none, answer := none }
      ∧ t.queue = { s.queue with entries := s.queue.entries.filter QueueEntry.draining, mark := none }
      ∧ t.port.op = s.port.op ∧ t.port.address = s.port.address
      ∧ t.dec = s.dec ∧ t.capture = s.capture ∧ t.table = s.table ∧ t.link = s.link ∧ t.alarms = s.alarms
      ∧ t.header = { s.header with
          writeRequest := s.header.writeRequest.filter WriteRequest.granted
          readRequest := s.header.readRequest.filter ReadRequest.granted }
      ∧ (s.engine.granted = true → t.engine = s.engine) ∧ (s.engine.granted = false → t.engine.phase = .idle)
      ∧ (s.host.beat.isSome → t.host = (s.closed .busy LaneData.empty).host)
      ∧ (s.host.beat = none → t.host = { s.host with read := (s.closed .busy LaneData.empty).host.read }))

/-- A completion in PARKING, operation by operation (R130, R131, R132): its write is in the memory, its owner takes the
effects R130 gives and no others, nothing is granted, and the device is PARKED with POWER_PARKED; it restarts where PFW has
been seen deasserted meanwhile (R133), with the strap's level last given, code 7 ending in FAULT (log 15), PFW being taken
again on the first sample in STARTING where the release said so (R127; log 14). What the capture
unit keeps of a read it discards is log 18's. -/
def Obligations.CompletionInParkingParks : Prop :=
  ∀ (s : State) (merr : List BadBeat) (o : MemOp) (g : Nat) (w : WriteRequest) (h : HeaderRecord) (r : Slot)
      (judged : Judgement) (read : HeaderRecord),
    s.ctl.state = .parking → s.consistent → s.table.lawful →
      (s.completing .drainWrite = .underway o → s.parksAs .drainWriteComplete (s.drained o))
      ∧ (s.completing .hostRead = .underway o → o.beat = o.length →
          s.parksAs .hostReadComplete ((s.ended o).setHost { s.host with read := none }))
      ∧ (s.completing .preImageRead = .underway o → s.capture.granule = some g →
          s.parksAs (.preImageReadComplete merr)
            ((if merr = [] then s.ended o
              else (s.ended o).raise .captureFailed s.epochNumber (BitVec.ofNat 32 g)).setCapture
                { s.capture with buffer := [] }))
      ∧ (s.completing .recordWrite = .underway o → s.capture.granule = some g →
          s.parksAs .recordWriteComplete
            ((((s.ended o).setCapture { s.capture.free with tail := s.capture.tail + 1 }).setTable { s.table with
              entries := if s.table.status = some .broken then s.table.entries.filter fun e => e.granule ≠ g
                else s.table.entries.map fun e => if e.granule = g then ⟨g, .logged⟩ else e
              reservations := s.table.reservations - 1 }).watermarkTest))
      ∧ (s.completing .recordRead = .underway o →
          s.parksAs (.recordReadComplete merr) ((s.ended o).setEngine s.engine.stopped))
      ∧ (s.completing .restoreWrite = .underway o →
          s.parksAs .restoreWriteComplete
            ((s.ended o).setEngine { s.engine.stopped with restored := s.engine.restored + 1 }))
      ∧ (s.completing .headerRead = .underway o → s.header.readRequest.map ReadRequest.slot = some r →
          judged = judgeSlot s.size (!merr.isEmpty) (bytesOf (s.wordsRead o merr)) →
          read = HeaderRecord.ofBytes (bytesOf (s.wordsRead o merr)) →
          s.parksAs (.headerReadComplete merr) ((s.ended o).setHeader { s.header with
            readRequest := none
            surveyA := if r = .a then some ⟨judged, if judged = .absent then none else some read.formatNumber⟩
              else s.header.surveyA
            surveyB := if r = .b then some ⟨judged, if judged = .absent then none else some read.formatNumber⟩
              else s.header.surveyB }))
      ∧ (s.completing .headerWrite = .underway o → s.header.writeRequest = some w →
        (w.kind = .mark → w.content = some h →
          s.parksAs .markWriteComplete
            (((((((s.ended o).headerWritten w.target h).setTable { s.table with
              status := some .broken
              entries := s.table.entries.filter fun e => some e.granule = s.capture.granule
              reservations := capturingCount (s.table.entries.filter fun e => some e.granule = s.capture.granule)
                }).watermarkTest).turned fun gate => if gate = .waitMark then .opened else gate).raise .epochBroken h.epoch
                  (BitVec.ofNat 32 s.capture.tail)).withBroken))
        ∧ (w.kind = .commitSeal → w.content = some h → w.wrotePending = false →
          s.parksAs .sealComplete (((s.ended o).headerWritten w.target h).newEpoch))
        ∧ (w.kind = .commitSeal → w.content = some h → w.wrotePending = true →
          s.parksAs .sealComplete (((((s.ended o).headerWritten w.target h).configuredBy h.config
            (if w.newer then s.header.pendingConfig else none)).raise .configApplied h.epoch
              (BitVec.ofNat 32 h.config.capacity.toNat)).newEpoch))
        ∧ (w.kind = .recoverySeal → w.content = some h →
          s.parksAs .recoverySealComplete ((((s.ended o).headerWritten w.target h).newEpoch).raise .recoveryDone h.epoch
            (BitVec.ofNat 32 s.engine.restored)))
        ∧ (w.kind.isClearing = true →
          s.parksAs .clearingWriteComplete ((s.ended o).setHeader { s.header with
            surveyB := some ⟨.absent, none⟩, selected := none, writeRequest := none }))
        ∧ (w.kind.isFormatWrite = true → w.content = some h →
          s.parksAs .formatWriteComplete
            ((((s.ended o).headerWritten w.target h).configuredBy h.config none).newEpoch)))

/-! ### The memory port and the lines -/

/-- The arbiter (R158, R159, R160): with an operation in progress, with none standing, and in PARKING and PARKED nothing is
granted; else the grant goes to the requester that wins by rank, a drain going before a host read at an aging count of 4,
and the count rises, stays or falls to 0 as R160 says; so no event ends with a grant made over a request of higher rank.
The output lines: the memory port's in each period of an operation, with the port IDLE and under RESETN (R132, R134, R152,
R153, R154); HRSP and HD on the edges after a response (R137, R138, R151; log 10); SDO and the frame's phase by position
(R163, R164; log 12). -/
def Obligations.GrantsByRankAndDrivesLines : Prop :=
  ∀ (s t : State) (o : MemOp) (r q : Requester) (l : ManagementLink) (k edges : Nat) (b : Byte),
    (s.port.op.isSome ∨ s.ctl.state = .parking ∨ s.ctl.state = .parked
        ∨ (∀ r ∈ [Requester.header, .engine, .capture, .hostRead, .drain], s.standing r = none) → s.arbitrate = s)
      ∧ (s.port.op = none → s.ctl.state ≠ .parking → s.ctl.state ≠ .parked → s.standing r = some o → s.wins r →
          s.arbitrate.port = ⟨some o, BitVec.ofNat 24 o.start,
              if r = .drain then 0 else if r = .hostRead ∧ s.standing .drain ≠ none then s.port.aging + 1 else s.port.aging⟩
            ∧ s.arbitrate.ownerWaits o.kind = true ∧ o.kind.requester = r
            ∧ (r ≠ .drain → s.arbitrate.queue = s.queue)
            ∧ (r = .drain → s.arbitrate.queue.entries = (s.queue.entries.take o.length).map (fun e => { e with draining := true })
                ++ s.queue.entries.drop o.length))
      ∧ (s.Lawful → step s = .next t → t.port.op = some o → o.beat = 0 → s.port.op ≠ some o → q ∈ o.kind.requester.above →
          t.standing q = none ∨ q = .hostRead ∧ s.port.aging = 4)
      ∧ (s.pins.resetLow = true → ∀ p ∈ [Period.address, .beat k, .turnaround],
          s.memoryLines p = ⟨0, true, true, 0, false, LaneData.empty⟩)
      ∧ (s.pins.resetLow = false → s.port.op = none → ∀ p ∈ [Period.address, .beat k, .turnaround],
          s.memoryLines p = ⟨s.port.address, true, true, 0, false, LaneData.empty⟩)
      ∧ (s.pins.resetLow = false → s.port.op = some o →
          s.memoryLines .address = ⟨BitVec.ofNat 24 o.start, true, true, 0, false, LaneData.empty⟩
            ∧ s.memoryLines .turnaround = ⟨BitVec.ofNat 24 (o.start + (o.length - 1)), true, true, 0, false, LaneData.empty⟩
            ∧ (o.kind.isWrite = false →
                s.memoryLines (.beat k) = ⟨BitVec.ofNat 24 (o.start + k), false, true, 15, false, LaneData.empty⟩)
            ∧ (o.kind.isWrite = true → k < o.length → ∀ d ∈ o.data[k]?,
                s.memoryLines (.beat k) = ⟨BitVec.ofNat 24 (o.start + k), true, false, LaneData.lanes d, true, d⟩
                  ∧ ((LaneData.lanes d).getLsbD 0, (LaneData.lanes d).getLsbD 1, (LaneData.lanes d).getLsbD 2,
                      (LaneData.lanes d).getLsbD 3) = (d.b0.isSome, d.b1.isSome, d.b2.isSome, d.b3.isSome)))
      ∧ (s.pins.resetLow = true → s.hrsp edges = 0 ∧ s.hd edges = LaneData.empty)
      ∧ (s.pins.resetLow = false → s.host.beat.isSome → s.hrsp edges = 2 ∧ s.hd edges = LaneData.empty)
      ∧ (s.pins.resetLow = false → s.host.beat = none → edges ≠ 1 → s.hrsp edges = 0 ∧ s.hd edges = LaneData.empty)
      ∧ (s.pins.resetLow = false → s.host.beat = none →
          (∀ p ∈ [(HostResponse.none, 0#3), (.ready, 1#3), (.split, 3#3), (.busy, 4#3), (.error, 5#3)],
            s.host.response = p.1 → s.hrsp 1 = p.2) ∧ s.hd 1 = s.host.data)
      ∧ (l.phase = .responding ∨ l.phase = .spent →
          (k ≤ l.command.length → l.sdoByte k = 0) ∧ (l.response[k]? = some b → l.sdoByte (l.command.length + 1 + k) = b)
            ∧ (l.frameLength ≤ k → l.sdoByte k = 0))
      ∧ (l.phase = .idle ∨ l.phase = .receiving → l.sdoByte k = 0)
      ∧ (l.phase = .responding → l.bitCount = 0 → l.byteCount = l.command.length →
          (l.clocked k).phase = (if 8 * (1 + l.response.length) ≤ k then .spent else .responding))

/-! ### The decoder and the stored layouts -/

/-- The region decoder's tests in their order (R12): OUTSIDE from the memory size on, RESERVED from the granule floor on, the
class and the number of the entry that contains the address, else PLAIN. The geometry (R1, R6, R7), and which configurations
are valid (R9, R10). -/
def Obligations.AddressesDecodeInOrder : Prop :=
  ∀ (d : RegionDecoder) (table : RegionTable) (size n a i : Nat) (e : RegionEntry) (cls : DecodeClass) (c : Configuration)
      (msz : BitVec 3),
    (memorySizeOf msz = if msz = 7#3 then none else some (2 ^ (20 + msz.toNat)))
      ∧ geometryOf size n = ⟨size, n, size - (512 + 80 * n), size - (512 + 80 * n), 64 * ((size - (512 + 80 * n)) / 64),
          (size - (512 + 80 * n)) / 65536⟩
      ∧ (d.geometry = some (geometryOf size n) → d.table = some table →
        (size ≤ a → d.decode a = (.outside, none))
        ∧ (a < size → 64 * ((size - (512 + 80 * n)) / 64) ≤ a → d.decode a = (.reserved, none))
        ∧ (a < 64 * ((size - (512 + 80 * n)) / 64) → table.toList[i]? = some e → e.holds a →
            (e.cls, cls) ∈ [(0x01#8, DecodeClass.guarded), (0x02#8, .plain), (0x03#8, .fixed)] →
            (∀ f ∈ table.toList.take i, ¬f.holds a) → d.decode a = (cls, some i))
        ∧ (a < 64 * ((size - (512 + 80 * n)) / 64) → (∀ f ∈ table.toList, ¬f.holds a) → d.decode a = (.plain, none)))
      ∧ (c.valid size = true ↔
          16 ≤ c.capacity.toNat ∧ 65536 + 512 + 80 * c.capacity.toNat ≤ size ∧ (c.policy = 0x01#8 ∨ c.policy = 0x02#8)
            ∧ 1 ≤ c.watermark.toNat ∧ c.watermark.toNat ≤ 15
            ∧ (∀ e ∈ c.regions.toList, e.present = 0x01#8 →
                (e.cls = 0x01#8 ∨ e.cls = 0x02#8 ∨ e.cls = 0x03#8) ∧ 1 ≤ e.length.toNat ∧ e.length.toNat ≤ 1024
                  ∧ e.base.toNat ≤ 1023 ∧ e.base.toNat + e.length.toNat ≤ (size - (512 + 80 * c.capacity.toNat)) / 65536)
            ∧ c.regions.toList.Pairwise fun e f => e.present = 0x01#8 → f.present = 0x01#8 →
                e.base.toNat + e.length.toNat ≤ f.base.toNat ∨ f.base.toNat + f.length.toNat ≤ e.base.toNat)

/-- What the device writes it reads back as good. A header of a valid configuration, an epoch and a generation other than 0
is 64 words, judged VALID, and read back whole (R109, R110, R116, R175); the clearing write's zeros are judged ABSENT (R110).
A record is 20 words, good in its slot, epoch and format, and gives back its granule and image (R21, R23, R24, R100, R175);
under every other format number it fails its check (R24). So the record a capture is writing is good (R28). -/
def Obligations.WrittenLayoutsJudgedGood : Prop :=
  ∀ (s : State) (h : HeaderRecord) (size : Nat) (number other : BitVec 32) (slot granule floor : Nat) (epoch : BitVec 48)
      (image : List MWord),
    (h.config.valid size = true → h.epoch ≠ 0 → h.generation ≠ 0 →
        h.words.length = 64 ∧ judgeSlot size false (bytesOf h.words) = .valid ∧ HeaderRecord.ofBytes (bytesOf h.words) = h)
      ∧ judgeSlot size false (bytesOf (List.replicate 64 MWord.zero)) = .absent
      ∧ (slot < 65536 → granule < 16777216 → image.length = 16 →
          (recordWords number slot granule epoch image).length = 20
            ∧ recordGranule (recordWords number slot granule epoch image) = granule
            ∧ recordImage (recordWords number slot granule epoch image) = image
            ∧ (granule < floor / 64 → recordGood number epoch floor slot (recordWords number slot granule epoch image) = true)
            ∧ (other ≠ number → recordPasses other (recordWords number slot granule epoch image) = false))
      ∧ (s.Lawful → s.capture.phase = .writing →
          recordGood (s.header.formatNumber.getD 0) s.epochNumber s.granuleFloor s.capture.tail s.capture.record = true
            ∧ s.capture.granule = some (recordGranule s.capture.record))

/-! ### Host bus cycles -/

/-- A first beat is answered by the device state before anything else (R142), and ERROR for an illegal length code
where the decoder would be consulted (R137); a cycle it finds unfinished ends (R140). -/
def Obligations.FirstBeatAnsweredByState : Prop :=
  ∀ (s : State) (word : BitVec 24) (hlen : BitVec 3) (lanes : Lanes) (data : MWord) (r : HostResponse),
    s.pins.resetLow = false → s.host.beat = none →
    ((s.ctl.state ∈ [DeviceState.starting, .recovering, .parking, .parked, .draining, .sealing, .rollingBack] ∧ r = .busy
          ∨ s.ctl.state ∈ [DeviceState.unformatted, .fault, .formatting] ∧ r = .error
          ∨ s.ctl.state = .opened ∧ 5 ≤ hlen.toNat ∧ r = .error) →
        ∃ t, exec (.hostWriteFirstBeat word hlen lanes data) s = .next t ∧ (s.closed r LaneData.empty).endsIn t)
      ∧ ((s.ctl.state ∈ [DeviceState.starting, .recovering, .parking, .parked] ∧ r = .busy
          ∨ s.ctl.state ∈ [DeviceState.unformatted, .fault, .formatting] ∧ r = .error
          ∨ s.ctl.state.servesReads = true ∧ 5 ≤ hlen.toNat ∧ r = .error) →
        ∃ t, exec (.hostReadFirstBeat word hlen lanes) s = .next t ∧ (s.closed r LaneData.empty).endsIn t)

/-- The first beat of a write cycle that decodes FIXED, RESERVED or OUTSIDE is answered ERROR with WRITE_REFUSED and
reaches neither queue nor table (R16, R144). -/
def Obligations.WriteRefusedByClass : Prop :=
  ∀ (s : State) (word : BitVec 24) (hlen : BitVec 3) (lanes : Lanes) (data : MWord),
    s.presents hlen → s.ctl.state = .opened → s.classOf word ∈ [DecodeClass.fixed, .reserved, .outside] →
      ∃ t, exec (.hostWriteFirstBeat word hlen lanes data) s = .next t
        ∧ ((s.closed .error LaneData.empty).raise .writeRefused s.epochNumber
            (refusedDetail (s.classOf word) (s.firstPortion word).region (word.toNat / 16))).endsIn t

/-- The first beat of a PLAIN write is taken into the queue with gate OPEN where the queue can take it, and answered
READY or SPLIT (R59, R138, R141, R144); else it is held with WAIT and the queue and the table stay (R62). -/
def Obligations.PlainWritePostedOrHeld : Prop :=
  ∀ (s : State) (word : BitVec 24) (hlen : BitVec 3) (lanes : Lanes) (data : MWord),
    s.presents hlen → s.ctl.state = .opened → s.classOf word = .plain →
      (lanes = 0 ∨ s.queue.accepts word.toNat .opened = true →
        ∃ t, exec (.hostWriteFirstBeat word hlen lanes data) s = .next t
          ∧ (((s.began (firstCycle true word hlen) (s.firstPortion word)).posted word.toNat lanes
              (LaneData.select lanes data) .plain .opened).answered (firstCycle true word hlen) LaneData.empty).endsIn t)
      ∧ (lanes ≠ 0 → s.queue.accepts word.toNat .opened = false →
        ∃ t, exec (.hostWriteFirstBeat word hlen lanes data) s = .next t
          ∧ ((s.began (firstCycle true word hlen) (s.firstPortion word)).held
              ⟨lanes, LaneData.select lanes data, true, .queueFull⟩).endsIn t)

/-- What taking a beat does to the queue (R59, R60, R61): a beat of the newest entry's word, with that entry not
draining and its gate the same, is merged with the new bytes over the old; any other is appended with the counter's
age, where the queue holds fewer than 8 entries. -/
def Obligations.QueueMergesOrAppends : Prop :=
  ∀ (q : PostingQueue) (front : List QueueEntry) (e : QueueEntry) (word : Nat) (data : LaneData) (cls : DecodeClass)
      (gate : Gate),
    (q.entries = [] → q.accepts word gate = true ∧ q.enqueue word data cls gate =
          { q with entries := [⟨word, data, cls, gate, q.counter, false⟩], counter := q.counter + 1 })
      ∧ (q.entries = front ++ [e] → e.word = word ∧ e.draining = false ∧ e.gate = gate →
        q.accepts word gate = true ∧ q.enqueue word data cls gate =
          { q with entries := front ++ [{ e with lanes := LaneData.over data e.lanes }] })
      ∧ (q.entries = front ++ [e] → ¬(e.word = word ∧ e.draining = false ∧ e.gate = gate) →
        q.accepts word gate = decide (q.entries.length < 8) ∧ q.enqueue word data cls gate =
          { q with entries := q.entries ++ [⟨word, data, cls, gate, q.counter, false⟩], counter := q.counter + 1 })

/-- A first beat of a GUARDED write whose admission starts no capture: present in the table under INTACT it takes gate
OPEN or TIED (R44), under BREAKING WAIT_MARK and under BROKEN OPEN (R48); it is taken into the queue with that gate
and answered, or held with nothing decided (R43, R62). -/
def Obligations.GuardedWriteWithoutCapture : Prop :=
  ∀ (s : State) (word : BitVec 24) (hlen : BitVec 3) (lanes : Lanes) (data : MWord) (gate : Gate),
    s.presents hlen → s.ctl.state = .opened → s.classOf word = .guarded →
    (s.table.status = some .intact ∧ (∃ e ∈ s.table.lookup (word.toNat / 16),
          gate = if e.state = .logged then .opened else .tied (word.toNat / 16))
        ∨ s.table.status = some .breaking ∧ gate = .waitMark
        ∨ s.table.status = some .broken ∧ gate = .opened) →
      (lanes = 0 ∨ s.queue.accepts word.toNat gate = true →
        ∃ t, exec (.hostWriteFirstBeat word hlen lanes data) s = .next t
          ∧ ((((s.began (firstCycle true word hlen) (s.firstPortion word)).posted word.toNat lanes
              (LaneData.select lanes data) .guarded gate).withGate gate).answered (firstCycle true word hlen) LaneData.empty).endsIn t)
      ∧ (lanes ≠ 0 → s.queue.accepts word.toNat gate = false →
        ∃ t, exec (.hostWriteFirstBeat word hlen lanes data) s = .next t
          ∧ ((s.began (firstCycle true word hlen) (s.firstPortion word)).held
              ⟨lanes, LaneData.select lanes data, true, .queueFull⟩).endsIn t)

/-- A first beat that starts a capture (R45): under INTACT, its granule absent, a slot free, fewer than 8 entries
CAPTURING and the queue able to take it. The beat is posted TIED, the table gains the CAPTURING entry with its
reservation, the watermark is tested (R35), and an IDLE capture unit takes the oldest CAPTURING entry on the same
event (R26). With 8 entries CAPTURING the beat is held and nothing is made (R39). -/
def Obligations.GuardedWriteStartsCapture : Prop :=
  ∀ (s : State) (word : BitVec 24) (hlen : BitVec 3) (lanes : Lanes) (data : MWord),
    s.presents hlen → s.ctl.state = .opened → s.classOf word = .guarded → s.table.status = some .intact →
    s.table.lookup (word.toNat / 16) = none → 1 ≤ s.freeSlots →
      (capturingCount s.table.entries < 8 →
        (lanes = 0 ∨ s.queue.accepts word.toNat (.tied (word.toNat / 16)) = true) →
          ∃ t, exec (.hostWriteFirstBeat word hlen lanes data) s = .next t
            ∧ (((((s.began (firstCycle true word hlen) (s.firstPortion word)).posted word.toNat lanes
                (LaneData.select lanes data) .guarded (.tied (word.toNat / 16))).withGate (.tied (word.toNat / 16))).setTable
                  (s.table.enrol (word.toNat / 16))).watermarkTest.answered (firstCycle true word hlen)
                    LaneData.empty).endsIn t
            ∧ (s.capture.phase = .idle → capturingCount s.table.entries = 0 →
                t.capture.phase = .reading ∧ t.capture.granule = some (word.toNat / 16) ∧ t.capture.stop = false))
      ∧ (capturingCount s.table.entries < 8 → lanes ≠ 0 →
          s.queue.accepts word.toNat (.tied (word.toNat / 16)) = false →
        ∃ t, exec (.hostWriteFirstBeat word hlen lanes data) s = .next t
          ∧ ((s.began (firstCycle true word hlen) (s.firstPortion word)).held
              ⟨lanes, LaneData.select lanes data, true, .queueFull⟩).endsIn t)
      ∧ (8 ≤ capturingCount s.table.entries →
        ∃ t, exec (.hostWriteFirstBeat word hlen lanes data) s = .next t
          ∧ ((s.began (firstCycle true word hlen) (s.firstPortion word)).held
              ⟨lanes, LaneData.select lanes data, true, .ninthCapture⟩).endsIn t)

/-- What admitting a new capture does to the table (R41, R45): the entry is appended at the newest end with one more
reservation; of 256 entries the oldest LOGGED one is removed first. -/
def Obligations.AdmissionAppendsAndEvicts : Prop :=
  ∀ (table : GranuleTable) (granule : Nat) (older newer : List TableEntry) (gone : TableEntry),
    (table.enrol granule).reservations = table.reservations + 1
      ∧ (table.entries.length < 256 → (table.enrol granule).entries = table.entries ++ [⟨granule, .capturing⟩])
      ∧ (256 ≤ table.entries.length → table.entries = older ++ gone :: newer → gone.state = .logged →
          (∀ e ∈ older, e.state = .capturing) →
          (table.enrol granule).entries = older ++ newer ++ [⟨granule, .capturing⟩])

/-- A first beat under INTACT with policy HOLD whose granule is absent and which finds no free slot is answered BUSY
(R46): EXHAUSTED is set, LOG_EXHAUSTED is raised once in an epoch, and table, queue and status stay. -/
def Obligations.GuardedWriteRefusedOnFullLog : Prop :=
  ∀ (s : State) (word : BitVec 24) (hlen : BitVec 3) (lanes : Lanes) (data : MWord),
    s.presents hlen → s.ctl.state = .opened → s.classOf word = .guarded → s.table.status = some .intact →
    s.table.lookup (word.toNat / 16) = none → s.freeSlots = 0 →
    s.header.active.map Configuration.policy = some 0x01#8 →
      (s.table.exhaustionNoted = true →
        ∃ t, exec (.hostWriteFirstBeat word hlen lanes data) s = .next t
          ∧ ((s.closed .busy LaneData.empty).setAlarms { s.alarms with exhausted := true }).endsIn t)
      ∧ (s.table.exhaustionNoted = false →
        ∃ t, exec (.hostWriteFirstBeat word hlen lanes data) s = .next t
          ∧ ((((s.closed .busy LaneData.empty).setAlarms { s.alarms with exhausted := true }).setTable
              { s.table with exhaustionNoted := true }).raise .logExhausted s.epochNumber
                (BitVec.ofNat 32 (word.toNat / 16))).endsIn t)

/-- A first beat under INTACT with policy BREAK whose granule is absent and which finds no free slot breaks the epoch
(R47, R51, R52): BREAKING, the beat posted WAIT_MARK (held, with nothing decided, on a full queue), every waiting
capture cancelled, every gate TIED to an entry that leaves turned to WAIT_MARK in the queue and on the portion, the mark
write requested to the unselected slot, EXHAUSTED set, and LOG_EXHAUSTED raised once in an epoch. -/
def Obligations.GuardedWriteBreaksEpoch : Prop :=
  ∀ (s : State) (word : BitVec 24) (hlen : BitVec 3) (lanes : Lanes) (data : MWord),
    s.presents hlen → s.ctl.state = .opened → s.classOf word = .guarded → s.table.status = some .intact →
    s.table.lookup (word.toNat / 16) = none → s.freeSlots = 0 →
    s.header.active.map Configuration.policy = some 0x02#8 →
    s.consistent → s.table.lawful →
      (lanes ≠ 0 → s.queue.accepts word.toNat .waitMark = false →
        ∃ t, exec (.hostWriteFirstBeat word hlen lanes data) s = .next t
          ∧ ((s.began (firstCycle true word hlen) (s.firstPortion word)).held
              ⟨lanes, LaneData.select lanes data, true, .queueFull⟩).endsIn t)
      ∧ (lanes = 0 ∨ s.queue.accepts word.toNat .waitMark = true →
      ∃ t, exec (.hostWriteFirstBeat word hlen lanes data) s = .next t
        ∧ t.mem = s.mem ∧ t.ctl = s.ctl ∧ t.dec = s.dec ∧ t.link = s.link ∧ t.pins = s.pins ∧ t.engine.phase = s.engine.phase
        ∧ t.table.status = some .breaking ∧ t.table.exhaustionNoted = true ∧ t.alarms.exhausted = true
        ∧ t.capture.tail = s.capture.tail
        ∧ t.header.writeRequest.map (fun w => (w.kind, w.target)) = some (.mark, s.header.unselected)
        ∧ t.header.active = s.header.active ∧ t.header.selected = s.header.selected
        ∧ t.table.reservations = (if t.capture.granule.isSome then 1 else 0)
        ∧ (∀ e ∈ t.table.entries, e ∈ s.table.entries ∧ (e.state = .capturing → t.capture.granule = some e.granule))
        ∧ (∀ e ∈ s.table.entries, e.state = .logged → e ∈ t.table.entries)
        ∧ (s.capture.phase = .writing → t.capture = { s.capture with granted := t.capture.granted })
        ∧ (s.capture.phase = .reading → s.capture.granted = true → t.capture = { s.capture with stop := true })
        ∧ (s.capture.phase = .reading → s.capture.granted = false → t.capture.phase = .idle)
        ∧ (t.queue.entries.map fun e => (e.word, e.lanes, e.cls, e.age))
            = ((s.posted word.toNat lanes (LaneData.select lanes data) .guarded .waitMark).queue.entries.map
              fun e => (e.word, e.lanes, e.cls, e.age))
        ∧ (lanes ≠ 0 → ∃ e ∈ t.queue.entries.getLast?, e.word = word.toNat ∧ e.gate = .waitMark)
        ∧ t.queue.entries.map QueueEntry.gate
            = (s.posted word.toNat lanes (LaneData.select lanes data) .guarded .waitMark).queue.entries.map
              (fun e => e.gate.waiting (s.table.capturingBut t.capture.granule))
        ∧ (t.capture.granule = if s.capture.phase = .reading ∧ s.capture.granted = false then none else s.capture.granule)
        ∧ (∀ gate ∈ t.host.gate, gate = .waitMark) ∧ (t.host.cycle.isSome → t.host.gate = some .waitMark)
        ∧ (s.table.exhaustionNoted = true → t.events = s.events)
        ∧ (s.table.exhaustionNoted = false →
            t.events = (s.raise .logExhausted s.epochNumber (BitVec.ofNat 32 (word.toNat / 16))).events)
        ∧ t.host.response ≠ .wait)

/-- A later write beat (R49, R143, R145): in OPEN it is offered to the queue with the gate its portion carries, OPEN
for a PLAIN one, and makes no admission; outside OPEN it is answered BUSY and its cycle ends. The mark of a cycle that
was overtaken is the model's (log 11). -/
def Obligations.LaterWriteBeatOffered : Prop :=
  ∀ (s : State) (lanes : Lanes) (data : MWord) (c : Cycle) (p : Portion) (gate : Gate),
    s.pins.resetLow = false → s.host.cycle = some c → c.write = true → s.host.portion = some p → s.host.beat = none →
    (p.cls = .guarded ∧ s.host.gate = some gate ∨ p.cls ≠ .guarded ∧ gate = .opened) →
      (s.ctl.state = .opened → c.overtaken = false →
        (lanes = 0 ∨ s.queue.accepts c.word gate = true →
          ∃ t, exec (.hostWriteLaterBeat lanes data) s = .next t
            ∧ ((s.posted c.word lanes (LaneData.select lanes data) p.cls gate).answered c LaneData.empty).endsIn t)
        ∧ (lanes ≠ 0 → s.queue.accepts c.word gate = false →
          ∃ t, exec (.hostWriteLaterBeat lanes data) s = .next t
            ∧ (s.held ⟨lanes, LaneData.select lanes data, false, .queueFull⟩).endsIn t))
      ∧ (s.ctl.state ≠ .opened →
        ∃ t, exec (.hostWriteLaterBeat lanes data) s = .next t ∧ (s.closed .busy LaneData.empty).endsIn t)

/-- A first read beat is decided by its class (R147): ERROR where it decodes RESERVED or OUTSIDE, BUSY where it
decodes GUARDED in ROLLING_BACK (R95). Accepted, it is served (R68, R69, R148): with no lanes it is answered READY
with no data; covered by matching queue entries it is answered with the newest byte of each lane; matched but not
covered it waits for those entries to leave; with no matching entry it waits for a host read of its word and the
unqueued words behind it, which is requested at once, or once the host read that a truncated cycle left GRANTED has
completed (R150). -/
def Obligations.FirstReadBeatServed : Prop :=
  ∀ (s : State) (word : BitVec 24) (hlen : BitVec 3) (lanes : Lanes),
    s.presents hlen → s.ctl.state.servesReads = true →
      (s.classOf word ∈ [DecodeClass.reserved, .outside] →
        ∃ t, exec (.hostReadFirstBeat word hlen lanes) s = .next t ∧ (s.closed .error LaneData.empty).endsIn t)
      ∧ (s.classOf word = .guarded → s.ctl.state = .rollingBack →
        ∃ t, exec (.hostReadFirstBeat word hlen lanes) s = .next t ∧ (s.closed .busy LaneData.empty).endsIn t)
      ∧ (s.classOf word ∈ [DecodeClass.guarded, .plain, .fixed] →
          ¬(s.classOf word = .guarded ∧ s.ctl.state = .rollingBack) →
      (lanes = 0 →
        ∃ t, exec (.hostReadFirstBeat word hlen lanes) s = .next t
          ∧ ((s.began (firstCycle false word hlen) (s.firstPortion word)).answered (firstCycle false word hlen)
              LaneData.empty).endsIn t)
      ∧ (lanes ≠ 0 → s.queue.matching word.toNat ≠ [] → LaneData.covers lanes (s.queue.forwarded word.toNat) = true →
        ∃ t, exec (.hostReadFirstBeat word hlen lanes) s = .next t
          ∧ ((s.began (firstCycle false word hlen) (s.firstPortion word)).answered (firstCycle false word hlen)
              (LaneData.restrict lanes (s.queue.forwarded word.toNat))).endsIn t)
      ∧ (lanes ≠ 0 → s.queue.matching word.toNat ≠ [] → LaneData.covers lanes (s.queue.forwarded word.toNat) = false →
        ∃ t, exec (.hostReadFirstBeat word hlen lanes) s = .next t
          ∧ ((s.began (firstCycle false word hlen) (s.firstPortion word)).held
              ⟨lanes, LaneData.empty, true, .partlyCovered⟩).endsIn t)
      ∧ (lanes ≠ 0 → s.queue.matching word.toNat = [] →
          (s.began (firstCycle false word hlen) (s.firstPortion word)).host.read = none →
        ∃ t, exec (.hostReadFirstBeat word hlen lanes) s = .next t
          ∧ (((s.began (firstCycle false word hlen) (s.firstPortion word)).held
              ⟨lanes, LaneData.empty, true, .wordPending⟩).readRequested word.toNat
                (1 + s.queue.freeRun (word.toNat + 1) (min (2 ^ hlen.toNat) (16 - word.toNat % 16) - 1))).endsIn t
          ∧ t.host.read.map (fun r => (r.start, r.length, r.stale)) = some (word.toNat,
              1 + s.queue.freeRun (word.toNat + 1) (min (2 ^ hlen.toNat) (16 - word.toNat % 16) - 1), false))
      ∧ (lanes ≠ 0 → s.queue.matching word.toNat = [] →
          (s.began (firstCycle false word hlen) (s.firstPortion word)).host.read ≠ none →
        ∃ t, exec (.hostReadFirstBeat word hlen lanes) s = .next t
          ∧ ((s.began (firstCycle false word hlen) (s.firstPortion word)).held
              ⟨lanes, LaneData.empty, true, .readPending⟩).endsIn t
          ∧ (s.host.cycle.isSome → t.host.read.map (fun r => (r.granted, r.stale)) = some (true, true))))

/-- A later read beat (R96, R143, R147, R148): BUSY in PARKING and PARKED; else served as its first beat was, whatever
the device state has become, and at once where its word has arrived in the read buffer, ERROR and READ_FAILED going
with MERR (R149). -/
def Obligations.LaterReadBeatServed : Prop :=
  ∀ (s : State) (lanes : Lanes) (c : Cycle) (p : Portion),
    s.pins.resetLow = false → s.host.cycle = some c → c.write = false → s.host.portion = some p → s.host.beat = none →
      (s.ctl.state = .parking ∨ s.ctl.state = .parked →
        ∃ t, exec (.hostReadLaterBeat lanes) s = .next t ∧ (s.closed .busy LaneData.empty).endsIn t)
      ∧ (s.ctl.state.servesReads = true → lanes = 0 →
        ∃ t, exec (.hostReadLaterBeat lanes) s = .next t ∧ (s.answered c LaneData.empty).endsIn t)
      ∧ (s.ctl.state.servesReads = true → lanes ≠ 0 →
        (∀ d ∈ s.host.place c.word, ∀ w ∈ d.wordOf false,
          ∃ t, exec (.hostReadLaterBeat lanes) s = .next t ∧ (s.answered c (LaneData.select lanes w)).endsIn t)
        ∧ (∀ d ∈ s.host.place c.word, ∀ _w ∈ d.wordOf true,
          ∃ t, exec (.hostReadLaterBeat lanes) s = .next t
            ∧ ((s.closed .error LaneData.empty).raise .readFailed s.epochNumber (BitVec.ofNat 32 (c.word / 16))).endsIn t)
        ∧ (s.host.place c.word = some .requested →
          ∃ t, exec (.hostReadLaterBeat lanes) s = .next t
            ∧ (s.held ⟨lanes, LaneData.empty, false, .wordPending⟩).endsIn t)
        ∧ (s.host.place c.word = none → s.queue.matching c.word ≠ [] →
          (LaneData.covers lanes (s.queue.forwarded c.word) = true →
            ∃ t, exec (.hostReadLaterBeat lanes) s = .next t
              ∧ (s.answered c (LaneData.restrict lanes (s.queue.forwarded c.word))).endsIn t)
          ∧ (LaneData.covers lanes (s.queue.forwarded c.word) = false →
            ∃ t, exec (.hostReadLaterBeat lanes) s = .next t
              ∧ (s.held ⟨lanes, LaneData.empty, false, .partlyCovered⟩).endsIn t))
        ∧ (s.host.place c.word = none → s.queue.matching c.word = [] →
          (s.host.read.isSome →
            ∃ t, exec (.hostReadLaterBeat lanes) s = .next t
              ∧ (s.held ⟨lanes, LaneData.empty, false, .readPending⟩).endsIn t)
          ∧ (s.host.read = none →
            ∃ t, exec (.hostReadLaterBeat lanes) s = .next t
              ∧ ((s.held ⟨lanes, LaneData.empty, false, .wordPending⟩).readRequested c.word
                  (1 + s.queue.freeRun (c.word + 1) (min c.remaining (16 - c.word % 16) - 1))).endsIn t
              ∧ t.host.read.map (fun r => (r.start, r.length, r.stale)) = some (c.word,
                  1 + s.queue.freeRun (c.word + 1) (min c.remaining (16 - c.word % 16) - 1), false))))

/-- Which words one host read takes (R148): none with a matching queue entry, and all up to the first that has one or
to the end of the room. -/
def Obligations.HostReadStopsAtQueuedWord : Prop :=
  ∀ (q : PostingQueue) (word room k : Nat),
    q.freeRun word room ≤ room
      ∧ (k < q.freeRun word room → q.matching (word + k) = [])
      ∧ (q.freeRun word room < room → q.matching (word + q.freeRun word room) ≠ [])

/-- A word of the host read in progress is handed over (R148, R149, R150, R153): its place is filled, the beat that
waits for it is answered with it, or ERROR with READ_FAILED where MERR came with it; the words of a cycle that has
ended are discarded, whatever beat of a new cycle waits meanwhile. The word driven with MERR is the command's operand
(log 8), and MA moves with the word (log 23). -/
def Obligations.HostReadWordTaken : Prop :=
  ∀ (s : State) (merr : Option MWord) (o : MemOp) (r : HostRead) (c : Cycle) (b : Beat),
    s.completing .hostRead = .underway o → o.beat < o.length → s.host.read = some r →
      (r.stale = true → (∀ b ∈ s.host.beat, b.reason ≠ .wordPending) →
        ∃ t, exec (.hostReadWordArrival merr) s = .next t ∧ s.settlesIn (s.wordPassed o) t)
      ∧ (r.stale = false → (∀ c ∈ s.host.cycle, ∀ b ∈ s.host.beat, c.write = false → b.reason = .wordPending →
          c.word ≠ o.start + o.beat) →
        ∃ t, exec (.hostReadWordArrival merr) s = .next t
          ∧ s.settlesIn ((s.wordPassed o).placed (o.start + o.beat) (merr.getD (s.mem.readWord (o.start + o.beat)))
              merr.isSome) t)
      ∧ (r.stale = false → s.host.cycle = some c → c.write = false → s.host.beat = some b → b.reason = .wordPending →
          c.word = o.start + o.beat →
        (merr = none →
          ∃ t, exec (.hostReadWordArrival merr) s = .next t
            ∧ (((s.wordPassed o).placed c.word (s.mem.readWord c.word) false).answered c
                (LaneData.select b.lanes (s.mem.readWord c.word))).endsIn t)
        ∧ (merr ≠ none →
          ∃ t, exec (.hostReadWordArrival merr) s = .next t
            ∧ (((s.wordPassed o).closed .error LaneData.empty).raise .readFailed s.epochNumber
                (BitVec.ofNat 32 (c.word / 16))).endsIn t))

/-- A host read completes (R148, R150): no read stands, and a read beat that waited for it requests its own. -/
def Obligations.HostReadEnds : Prop :=
  ∀ (s : State) (o : MemOp) (c : Cycle) (b : Beat),
    s.completing .hostRead = .underway o → o.beat = o.length → s.ctl.state ≠ .parking →
      ((∀ b ∈ s.host.beat, b.reason ≠ .readPending) →
        ∃ t, exec .hostReadComplete s = .next t ∧ s.settlesBy ((s.ended o).setHost { s.host with read := none }) id t)
      ∧ (s.host.cycle = some c → c.write = false → s.host.beat = some b → b.reason = .readPending →
        ∃ t, exec .hostReadComplete s = .next t
          ∧ (((s.ended o).held { b with reason := .wordPending }).readRequested c.word
              (1 + s.queue.freeRun (c.word + 1) (min c.remaining (16 - c.word % 16) - 1))).endsIn t
          ∧ t.host.read.map (fun r => (r.start, r.length, r.stale)) = some (c.word,
              1 + s.queue.freeRun (c.word + 1) (min c.remaining (16 - c.word % 16) - 1), false))

/-! ### The epoch control port -/

/-- A COMMIT carried out (R83, R86, R87, R143): DRAINING with the handshake WORKING, a write beat that waits answered
BUSY; SEALING on the same event where its wait is satisfied already. What becomes of a cycle between its beats is the
model's reading (log 11). -/
def Obligations.CommitBeginsDraining : Prop :=
  ∀ (s : State),
    s.pins.resetLow = false → s.pins.ereq = false → s.ctl.state = .opened → s.ctl.pendingRequest = none →
    s.epochNumber ≠ 281474976710655#48 →
      ∃ t, exec .commit s = .next t
        ∧ s.settlesIn (((s.edge .commit).setCtl { (s.edge .commit).ctl with
            state := .draining, phase := .working, pendingRequest := some ⟨.commit, false⟩ }).writeOvertaken) t
        ∧ ((s.table.status = some .intact ∨ s.table.status = some .broken) → s.capture.phase = .idle →
            capturingCount s.table.entries = 0 → s.queue.entries = [] →
            t.ctl.state = .sealing
              ∧ t.header.writeRequest.map (fun w => (w.kind, w.target)) = some (.commitSeal, s.header.unselected))
        ∧ (s.table.status = some .breaking ∨ s.capture.phase ≠ .idle ∨ 0 < capturingCount s.table.entries
              ∨ s.queue.entries ≠ [] → t.ctl.state = .draining)

/-- A ROLLBACK carried out (R70, R94, R55, R31, R97, R99): the GUARDED entries that are not draining leave the queue,
every CAPTURING entry leaves the table but one in flight that cannot be stopped at once, whose capture runs on, a
write beat that waits is answered BUSY (R143), a read beat whose last matching entry leaves is served from memory
(R69), and the walk begins at slot tail - 1 where nothing is left to settle; with tail 0 it is done at once, and the
seal is requested once the queue is empty (R103, R104). What becomes of a write cycle between its beats is the model's
reading (log 11). -/
def Obligations.RollbackBeginsSettling : Prop :=
  ∀ (s : State) (kept : Option Nat) (n : Nat),
    s.consistent → s.table.lawful →
    s.pins.resetLow = false → s.pins.ereq = false → s.ctl.state = .opened → s.ctl.pendingRequest = none →
    s.epochNumber ≠ 281474976710655#48 → s.table.status = some .intact →
    kept = (if s.capture.phase = .reading ∧ s.capture.granted = false then none else s.capture.granule) →
      ∃ t, exec .rollback s = .next t
        ∧ t.mem = s.mem ∧ t.dec = s.dec ∧ t.link = s.link ∧ t.events = s.events
        ∧ t.pins = { s.pins with ereq := true, eop := 2#2 }
        ∧ t.ctl = { s.ctl with
            state := t.ctl.state, lowSeen := true, phase := .working, pendingRequest := some ⟨.rollback, false⟩ }
        ∧ (t.ctl.state = .rollingBack ∨ t.ctl.state = .sealing)
        ∧ t.queue.entries.map QueueEntry.undrained
            = (s.queue.entries.filter fun e => e.cls ≠ .guarded ∨ e.draining = true).map QueueEntry.undrained
        ∧ t.queue.counter = s.queue.counter ∧ t.queue.mark = s.queue.mark
        ∧ t.table = { s.table with
            entries := s.table.entries.filter fun e => e.state = .logged ∨ kept = some e.granule
            reservations := if kept.isSome then 1 else 0 }
        ∧ t.capture.tail = s.capture.tail ∧ t.capture.granule = kept
        ∧ (s.capture.phase = .writing → t.capture = { s.capture with granted := t.capture.granted })
        ∧ (s.capture.phase = .reading → s.capture.granted = true → t.capture = { s.capture with stop := true })
        ∧ t.header.active = s.header.active ∧ t.header.selected = s.header.selected
        ∧ (s.guardedReadOpen = false → kept = none → s.capture.tail = n + 1 →
            t.engine = { s.engine.reads n with
              purpose := some .rollback, restored := 0, damaged := 0, walkDone := false, granted := t.engine.granted })
        ∧ (s.guardedReadOpen = false → kept = none → s.capture.tail = 0 →
            t.engine = { s.engine.stopped with restored := 0, damaged := 0, walkDone := true }
              ∧ (t.queue.entries = [] → t.ctl.state = .sealing
                  ∧ t.header.writeRequest.map (fun w => (w.kind, w.target)) = some (.commitSeal, s.header.unselected))
              ∧ (t.queue.entries ≠ [] → t.ctl.state = .rollingBack))
        ∧ (s.guardedReadOpen = true ∨ kept ≠ none → t.ctl.state = .rollingBack ∧ t.engine.phase = .idle)
        ∧ (s.host.beat = none ∨ s.host.cycle.map Cycle.write = some true →
            t.host = { s.writeOvertaken.host with read := t.host.read })
        ∧ (∀ c ∈ s.host.cycle, ∀ b ∈ s.host.beat, c.write = false →
          (b.reason ≠ .partlyCovered ∨ t.queue.matching c.word ≠ [] → t.host = { s.host with read := t.host.read })
            ∧ (b.reason = .partlyCovered → t.queue.matching c.word = [] → s.host.read = none →
              t.host = { ((s.held { b with reason := .wordPending }).readRequested c.word
                  (1 + t.queue.freeRun (c.word + 1) (min c.remaining (16 - c.word % 16) - 1))).host with
                read := t.host.read }
              ∧ t.host.read.map (fun r => (r.start, r.length, r.stale)) = some (c.word,
                  1 + t.queue.freeRun (c.word + 1) (min c.remaining (16 - c.word % 16) - 1), false))
            ∧ (b.reason = .partlyCovered → t.queue.matching c.word = [] → s.host.read ≠ none →
              t.host = { (s.held { b with reason := .readPending }).host with read := t.host.read }))

/-- A FLUSH taken in OPEN (R72, R92): a mark at the newest entry's age with the handshake WORKING, or OK answered at
once on an empty queue. A request that R83 refuses is answered REFUSED with nothing else changed: operation 00, a
ROLLBACK under BREAKING or BROKEN, and a COMMIT or ROLLBACK at the epoch limit, which EPOCH_LIMIT reports (R85). A beat
that waits meanwhile goes on waiting (R62). -/
def Obligations.FlushTakenAndRequestsRefused : Prop :=
  ∀ (s : State) (c : Instr) (op : Operation),
    s.pins.resetLow = false → s.pins.ereq = false → s.ctl.state = .opened → s.ctl.pendingRequest = none →
      (∀ e ∈ s.queue.entries.getLast?,
        ∃ t, exec .flush s = .next t
          ∧ s.settlesIn (((s.edge .flush).setCtl { (s.edge .flush).ctl with
              phase := .working, pendingRequest := some ⟨.flush, false⟩ }).setQueue { s.queue with mark := some e.age }) t)
      ∧ (s.queue.entries = [] → ∃ t, exec .flush s = .next t ∧ s.settlesIn ((s.edge .flush).answers .flush .ok) t)
      ∧ (∃ t, exec .illegalOperation s = .next t ∧ s.settlesIn ((s.edge .illegal).answers .illegal .refused) t)
      ∧ (s.table.status = some .breaking ∨ s.table.status = some .broken → s.epochNumber ≠ 281474976710655#48 →
          ∃ t, exec .rollback s = .next t ∧ s.settlesIn ((s.edge .rollback).answers .rollback .refused) t)
      ∧ ((c, op) ∈ [(.commit, .commit), (.rollback, .rollback)] → s.epochNumber = 281474976710655#48 →
          ∃ t, exec c s = .next t
            ∧ s.settlesIn (((s.edge op).answers op .refused).raise .epochLimit 281474976710655#48
                (0x01#8 ++ 0#8 ++ 0#8 ++ op.code)) t)

/-- A rising edge of EREQ that is not taken (R78, R84): remembered while a start-up or a FORMAT runs or a request is
still in hand, answered REFUSED in UNFORMATTED and FAULT, ignored in PARKING and PARKED; a beat that waits goes on
waiting. The level of EOP moves with the command (log 13). -/
def Obligations.EdgesNotTaken : Prop :=
  ∀ (s : State) (c : Instr) (op : Operation), (c, op) ∈ edgeCommands →
    s.pins.resetLow = false → s.pins.ereq = false →
      ((s.ctl.state ∈ [DeviceState.starting, .recovering, .formatting, .draining, .rollingBack, .sealing]
            ∨ s.ctl.state = .opened ∧ s.ctl.pendingRequest ≠ none) →
          ∃ t, exec c s = .next t
            ∧ s.settlesIn ((s.edge op).setCtl { (s.edge op).ctl with remembered := some op }) t)
      ∧ (s.ctl.state = .unformatted ∨ s.ctl.state = .fault →
          ∃ t, exec c s = .next t ∧ s.settlesIn ((s.edge op).answers op .refused) t)
      ∧ (s.ctl.state = .parking ∨ s.ctl.state = .parked → ∃ t, exec c s = .next t ∧ s.settlesIn (s.edge op) t)

/-- The edge after an answer (R79): with EREQ high EACK rises, ANSWERED, the last result taken; with EREQ low the
request is abandoned with its result. A sample of EREQ low (R77, R79, R80): a remembered request is forgotten, a
request in hand is abandoned, an answered handshake ends with EACK dropped, and else the level alone moves. The field
that holds the answer is the model's own (log 17), as is the clearing of the request at the rise of EACK (log 16). -/
def Obligations.AcknowledgeAndFall : Prop :=
  ∀ (s : State) (a : Answer) (op : Operation) (r : Request), s.pins.resetLow = false →
    (s.ctl.answer = some a →
        exec (.answerAck true) s = .next (s.setCtl { s.ctl with
          phase := .answered, pendingRequest := none, lastResult := some a, answer := none, eack := true })
        ∧ (s.ctl.remembered = none → ∀ c ∈ [Instr.answerAck false, .ereqFall],
            exec c s = .next (((s.seenLow).recorded a.op a.result).setCtl { ((s.seenLow).recorded a.op a.result).ctl with
              phase := .idle })))
      ∧ (s.ctl.answer = none → s.ctl.phase = .working → s.ctl.remembered = none → s.ctl.pendingRequest = some r →
          exec .ereqFall s = .next (s.seenLow.setCtl { s.seenLow.ctl with
            phase := .idle, pendingRequest := some ⟨r.op, true⟩ }))
      ∧ (s.ctl.answer = none → s.ctl.phase = .answered → s.ctl.remembered = none →
          exec .ereqFall s = .next (s.seenLow.setCtl { s.seenLow.ctl with phase := .idle, eack := false }))
      ∧ (s.ctl.answer = none → s.ctl.phase = .idle → s.ctl.remembered = none → exec .ereqFall s = .next s.seenLow)
      ∧ (s.ctl.answer = none → s.ctl.phase = .idle → s.ctl.remembered = some op →
          exec .ereqFall s = .next ((s.seenLow.setCtl { s.seenLow.ctl with remembered := none }).raise .requestAbandoned
            s.epochNumber (0#8 ++ 0#8 ++ op.code ++ 0xFF#8)))

/-! ### Completions -/

/-- A drain write completes (R67, R73, R92): the draining entries leave, a flush mark with no entry at or before it is
cleared and its FLUSH reaches OK, a request remembered behind an abandoned one being taken then (R80). First a held write beat
is offered again, through admission where it is the first of a GUARDED portion (R43, R62), and a held read beat whose last
matching entry has left is served from memory (R69). A mark lies within 8 appends (R72). Bytes and MA at the completion are as
log 21 and log 23 say, the order of the offer and the flush test as log 6. -/
def Obligations.DrainWriteEmptiesItsEntries : Prop :=
  ∀ (s : State) (o : MemOp) (m : BitVec 16) (r : Request),
    s.completing .drainWrite = .underway o → s.ctl.state ≠ .parking →
      (s.queue.mark = none ∨ s.queue.mark = some m
            ∧ (∃ e ∈ s.queue.entries, e.draining = false ∧ (m - e.age).toNat < 32768) →
          ∃ t, exec .drainWriteComplete s = .next t ∧ s.settlesBy (s.drained o) id t)
      ∧ (s.queue.mark = some m → (∀ e ∈ s.queue.entries, e.draining = false → 32768 ≤ (m - e.age).toNat) →
            s.agesAgree → s.ctl.pendingRequest = some r →
          ∃ t, exec .drainWriteComplete s = .next t
            ∧ (r.abandoned = false ∨ s.ctl.remembered = none →
                s.settlesBy (s.drained o) (fun u => (u.setQueue { u.queue with mark := none }).reached r .ok) t)
            ∧ (∀ op ∈ s.ctl.remembered, r.abandoned = true → s.ctl.state = .opened →
                op ≠ .rollback ∨ s.epochNumber = 281474976710655#48 ∨ s.table.status ≠ some .intact →
                s.settlesBy (s.drained o)
                  (fun u => ((u.setQueue { u.queue with mark := none }).recorded r.op .ok).takesNext op) t))

/-- A pre-image read completes (R27, R28, R30, R31, R51): clean and not stopped, the record is built in slot tail and
its write requested; stopped, the entry leaves with its reservation, under BREAKING its gates turn WAIT_MARK, and
CAPTURE_FAILED goes with MERR; not stopped and with MERR the capture fails, CAPTURE_FAILED is raised and the epoch is
BREAKING, every other waiting capture cancelled, the gates TIED to any of them WAIT_MARK in the queue and on the
portion, with the mark write requested; a held write beat is then offered again (R39, R62). -/
def Obligations.PreImageReadTaken : Prop :=
  ∀ (s : State) (merr : List BadBeat) (o : MemOp) (g : Nat),
    s.completing .preImageRead = .underway o → s.ctl.state ≠ .parking → s.consistent → s.table.lawful →
    s.capture.granule = some g →
      (s.capture.stop = false →
        ∃ t, exec (.preImageReadComplete []) s = .next t
          ∧ s.settlesBy ((s.ended o).setCapture { s.capture with
              phase := .writing, granted := false, buffer := s.mem.readWords o.start o.length
              slot := some s.capture.tail
              record := recordWords (s.header.formatNumber.getD 0) s.capture.tail g s.epochNumber
                (s.mem.readWords o.start o.length) }) id t)
      ∧ (s.capture.stop = true →
        ∃ t, exec (.preImageReadComplete merr) s = .next t
          ∧ s.settlesBy ((((if merr = [] then s.ended o
              else (s.ended o).raise .captureFailed s.epochNumber (BitVec.ofNat 32 g)).captureGone).watermarkTest).turned
                (Gate.waiting (if s.table.status = some .breaking then [g] else []))) id t)
      ∧ (s.capture.stop = false → merr ≠ [] → s.table.status = some .intact →
        ∃ t, exec (.preImageReadComplete merr) s = .next t
          ∧ s.settlesBy ((((((s.ended o).raise .captureFailed s.epochNumber (BitVec.ofNat 32 g)).captureGone).watermarkTest).breaks).turned
              (Gate.waiting [g])) id t)
      ∧ (s.capture.stop = true → s.host.beat = none →
        ∃ t, exec (.preImageReadComplete merr) s = .next t
          ∧ t.table.entries = s.table.entries.filter (fun e => e.granule ≠ g)
          ∧ t.table.reservations = s.table.reservations - 1 ∧ t.table.status = s.table.status
          ∧ t.capture.tail = s.capture.tail ∧ t.capture.phase = .idle ∧ t.mem = s.mem
          ∧ t.queue.entries.map QueueEntry.gate = (s.queue.entries.map QueueEntry.gate).map
              (Gate.waiting (if s.table.status = some .breaking then [g] else []))
          ∧ t.host.gate = s.host.gate.map (Gate.waiting (if s.table.status = some .breaking then [g] else []))
          ∧ (merr = [] → t.events = s.events)
          ∧ (merr ≠ [] → s.events.records.length < 16 → t.events = { s.events with
              records := s.events.records ++ [⟨.captureFailed, s.epochNumber, BitVec.ofNat 32 g⟩] }))
      ∧ (s.capture.stop = false → merr ≠ [] → s.host.beat = none →
        ∃ t, exec (.preImageReadComplete merr) s = .next t
          ∧ t.table.status = some .breaking ∧ t.table.entries = s.table.entries.filter (fun e => e.state = .logged)
          ∧ t.table.reservations = 0
          ∧ t.capture.tail = s.capture.tail ∧ t.capture.phase = .idle ∧ t.mem = s.mem ∧ t.ctl = s.ctl
          ∧ t.header.writeRequest.map (fun w => (w.kind, w.target)) = some (.mark, s.header.unselected)
          ∧ t.queue.entries.map QueueEntry.gate
              = (s.queue.entries.map QueueEntry.gate).map (Gate.waiting (s.table.capturingBut none))
          ∧ t.host.gate = s.host.gate.map (Gate.waiting (s.table.capturingBut none))
          ∧ (t.queue.entries.map fun e => (e.word, e.lanes, e.cls, e.age))
              = (s.queue.entries.map fun e => (e.word, e.lanes, e.cls, e.age))
          ∧ (s.events.records.length < 16 → t.events = { s.events with
              records := s.events.records ++ [⟨.captureFailed, s.epochNumber, BitVec.ofNat 32 g⟩] }))

/-- A record write completes (R29, R42, R53): the tail rises, the reservation goes, the entry becomes LOGGED, or
leaves under BROKEN, and the gates TIED to it open; the watermark is tested (R35). A held write beat is then offered again,
through admission where it is the first of a GUARDED portion (R39, R43, R62). -/
def Obligations.RecordWriteEndsCapture : Prop :=
  ∀ (s : State) (o : MemOp) (g : Nat),
    s.completing .recordWrite = .underway o → s.ctl.state ≠ .parking → s.consistent → s.table.lawful →
    s.capture.granule = some g →
      ∃ t, exec .recordWriteComplete s = .next t
        ∧ s.settlesBy (((((s.ended o).setCapture { s.capture.free with tail := s.capture.tail + 1 }).setTable { s.table with
            entries := if s.table.status = some .broken then s.table.entries.filter fun e => e.granule ≠ g
              else s.table.entries.map fun e => if e.granule = g then ⟨g, .logged⟩ else e
            reservations := s.table.reservations - 1 }).watermarkTest).turned
              fun gate => if gate = .tied g then .opened else gate) id t

/-- The mark write completes (R53, R112): its header is selected, the epoch is BROKEN, the WAIT_MARK gates open, every
entry not in flight leaves, EPOCH_BROKEN carries the tail, and the alarm condition is set. A held write beat is then offered
again (R48, R62). -/
def Obligations.MarkWriteBreaksEpoch : Prop :=
  ∀ (s : State) (o : MemOp) (w : WriteRequest) (h : HeaderRecord),
    s.completing .headerWrite = .underway o → s.ctl.state ≠ .parking → s.table.lawful →
    s.header.writeRequest = some w → w.kind = .mark → w.content = some h →
      ∃ t, exec .markWriteComplete s = .next t
        ∧ s.settlesBy (((((((s.ended o).headerWritten w.target h).setTable { s.table with
            status := some .broken
            entries := s.table.entries.filter fun e => some e.granule = s.capture.granule
            reservations := capturingCount (s.table.entries.filter fun e => some e.granule = s.capture.granule)
              }).watermarkTest).turned fun gate => if gate = .waitMark then .opened else gate).raise .epochBroken h.epoch
                (BitVec.ofNat 32 s.capture.tail)).withBroken) id t

/-- The seal of a commit or a rollback completes (R89, R105, R112): its header is selected, a pending configuration it
wrote is active with CONFIG_APPLIED, the epoch's state is clear, OPEN, and the result is OK, or PARTIAL for a rollback
that skipped a record; it is answered, or recorded where the request was abandoned, and then a remembered request is
taken in the new epoch (R78, R80, R90). That the events join in the order of R89's items, where R172 has rising rule
numbers unless the rules give an order, is the model's choice (log 35). -/
def Obligations.SealOpensNextEpoch : Prop :=
  ∀ (s : State) (o : MemOp) (w : WriteRequest) (h : HeaderRecord) (r : Request) (result : EpochResult),
    s.completing .headerWrite = .underway o → s.ctl.state ≠ .parking →
    s.header.writeRequest = some w → w.kind = .commitSeal → w.content = some h →
    s.ctl.pendingRequest = some r →
    (r.op ≠ .rollback ∧ result = .ok ∨ r.op = .rollback ∧ s.engine.damaged = 0 ∧ result = .ok
        ∨ r.op = .rollback ∧ s.engine.damaged ≠ 0 ∧ result = .partly) →
      ∃ t, exec .sealComplete s = .next t
        ∧ (s.ctl.remembered = none → w.wrotePending = false →
            s.settlesIn (((((s.ended o).headerWritten w.target h).newEpoch).entering .opened).reached r result) t)
        ∧ (s.ctl.remembered = none → w.wrotePending = true →
            s.settlesIn ((((((((s.ended o).headerWritten w.target h).configuredBy h.config
              (if w.newer then s.header.pendingConfig else none)).raise .configApplied h.epoch
                (BitVec.ofNat 32 h.config.capacity.toNat)).newEpoch).entering .opened).reached r result)) t)
        ∧ (∀ op ∈ s.ctl.remembered, r.abandoned = true → s.consistent → s.queue.entries = [] → w.wrotePending = false →
            ((((((s.ended o).headerWritten w.target h).newEpoch).entering .opened).recorded r.op result)).takesAtOpening op t)
        ∧ (∀ op ∈ s.ctl.remembered, r.abandoned = true → s.consistent → s.queue.entries = [] → w.wrotePending = true →
            ((((((((s.ended o).headerWritten w.target h).configuredBy h.config
              (if w.newer then s.header.pendingConfig else none)).raise .configApplied h.epoch
                (BitVec.ofNat 32 h.config.capacity.toNat)).newEpoch).entering .opened).recorded r.op result)).takesAtOpening op t)

/-- The recovery seal completes (R81, R124): its header is selected, the epoch's state is clear, RECOVERY_DONE carries
the restored count, OPEN; a level of EREQ that straddles the start-up is answered INTERRUPTED and reported, and a
request remembered meanwhile is taken in the new epoch (R78). That the EPOCH_LIMIT of a remembered request joins
behind RECOVERY_DONE is the model's choice (R85, R172; log 35). -/
def Obligations.RecoverySealOpensEpoch : Prop :=
  ∀ (s : State) (o : MemOp) (w : WriteRequest) (h : HeaderRecord) (op : Operation),
    s.completing .headerWrite = .underway o → s.ctl.state ≠ .parking →
    s.header.writeRequest = some w → w.kind = .recoverySeal → w.content = some h →
    op = Operation.ofEop s.pins.eop →
      ∃ t, exec .recoverySealComplete s = .next t
        ∧ (s.pins.ereq = false ∨ s.ctl.lowSeen = true → s.ctl.remembered = none →
            s.settlesIn ((((((s.ended o).headerWritten w.target h).newEpoch).raise .recoveryDone h.epoch
              (BitVec.ofNat 32 s.engine.restored)).entering .opened)) t)
        ∧ (s.pins.ereq = true → s.ctl.lowSeen = false →
            s.settlesIn (((((((s.ended o).headerWritten w.target h).newEpoch).raise .recoveryDone h.epoch
              (BitVec.ofNat 32 s.engine.restored)).entering .opened).raise .requestInterrupted h.epoch
                (0#8 ++ 0#8 ++ 0#8 ++ op.code)).answers op .interrupted) t)
        ∧ (∀ asked ∈ s.ctl.remembered, s.ctl.lowSeen = true → s.ctl.pendingRequest = none → s.consistent →
            (((((s.ended o).headerWritten w.target h).newEpoch).raise .recoveryDone h.epoch
              (BitVec.ofNat 32 s.engine.restored)).entering .opened).takesAtOpening asked t)

/-- The writes of FORMAT complete (R170): the clearing write leaves slot B ABSENT and has the format write of slot A
granted; the format write opens epoch 1 with the configuration it wrote, and a request remembered meanwhile is taken there
(R78). -/
def Obligations.FormatWritesFollow : Prop :=
  ∀ (s : State) (o : MemOp) (w : WriteRequest) (h : HeaderRecord) (number : BitVec 32),
    s.completing .headerWrite = .underway o → s.ctl.state = .formatting → s.header.writeRequest = some w →
      (w.kind = .clearing number →
        ∃ t, exec .clearingWriteComplete s = .next t ∧ t.mem = s.mem.writeBeats o.start o.stores
          ∧ t.header.surveyB = some ⟨.absent, none⟩ ∧ t.header.selected = none
          ∧ t.header.writeRequest = some ⟨.formatWrite number, .a, true, some ⟨false, 1, 1, number, s.link.staged⟩, false, false⟩
          ∧ t.port.op = some ⟨.headerWrite, (s.size - 512) / 4, 64,
              fullBeats (HeaderRecord.words ⟨false, 1, 1, number, s.link.staged⟩), 0⟩)
      ∧ (w.kind = .formatWrite number → w.content = some h → s.ctl.remembered = none →
        ∃ t, exec .formatWriteComplete s = .next t
          ∧ s.settlesIn (((((s.ended o).headerWritten w.target h).configuredBy h.config none).newEpoch).entering .opened) t)
      ∧ (w.kind = .formatWrite number → w.content = some h → s.ctl.pendingRequest = none → s.consistent →
          ∀ op ∈ s.ctl.remembered,
        ∃ t, exec .formatWriteComplete s = .next t
          ∧ (((((s.ended o).headerWritten w.target h).configuredBy h.config none).newEpoch).entering
              .opened).takesAtOpening op t)

/-- A record read completes (R100, R101, R102, R120, R121, R122). In a walk a good record is taken for its restore
write, and any other is skipped with RECORD_DAMAGED, the next lower slot read next; the scan goes up while records are
valid, looks one slot past an invalid one, and ends below two invalid slots or at N, the walk then going down from
there. Below slot 0, and on a scan that ends there, the walk is done (R103, R104, R122, R123). The field that says the
scan looks one slot up is the model's own (log 17). -/
def Obligations.RecordReadJudged : Prop :=
  ∀ (s : State) (merr : List BadBeat) (o : MemOp) (ws : List MWord) (n i : Nat),
    s.completing .recordRead = .underway o → s.ctl.state ≠ .parking → s.consistent → ws = s.wordsRead o merr →
    s.engine.cursor = some i →
      ((s.engine.purpose ≠ some .recovery ∨ s.engine.pass = .walk) →
        (s.recordIsGood merr ws →
          ∃ t, exec (.recordReadComplete merr) s = .next t
            ∧ t.engine = { s.engine with phase := .restoring, granted := t.engine.granted, buffer := ws }
            ∧ t.events = s.events ∧ t.mem = s.mem ∧ t.ctl = s.ctl)
        ∧ (¬s.recordIsGood merr ws → i = n + 1 →
          ∃ t, exec (.recordReadComplete merr) s = .next t
            ∧ t.engine = { s.engine.reads n with damaged := s.engine.damaged + 1, granted := t.engine.granted }
            ∧ t.mem = s.mem ∧ t.ctl = s.ctl
            ∧ (s.events.records.length < 16 → t.events = { s.events with
                records := s.events.records ++ [⟨.recordDamaged, s.epochNumber, BitVec.ofNat 32 i⟩] }))
        ∧ (¬s.recordIsGood merr ws → i = 0 → s.engine.purpose = some .rollback → s.ctl.state = .rollingBack →
          ∃ t, exec (.recordReadComplete merr) s = .next t ∧ s.rollbackEnds t ∧ t.mem = s.mem
            ∧ t.engine.damaged = s.engine.damaged + 1 ∧ t.engine.restored = s.engine.restored
            ∧ t.events = (s.raise .recordDamaged s.epochNumber 0#32).events)
        ∧ (¬s.recordIsGood merr ws → i = 0 → s.engine.purpose = some .recovery → s.ctl.state = .recovering →
          ∃ t, exec (.recordReadComplete merr) s = .next t ∧ s.recoveryEnds (s.raise .recordDamaged s.epochNumber 0#32) t
            ∧ t.engine.damaged = s.engine.damaged + 1 ∧ t.engine.restored = s.engine.restored))
      ∧ (s.engine.purpose = some .recovery → s.engine.pass = .scan → s.ctl.state = .recovering → s.engine.probing = false →
        (s.recordIsGood merr ws → i + 1 < s.logCapacity →
          ∃ t, exec (.recordReadComplete merr) s = .next t ∧ t.events = s.events ∧ t.mem = s.mem ∧ t.ctl = s.ctl
            ∧ t.engine = { s.engine.reads (i + 1) with granted := t.engine.granted })
        ∧ (s.recordIsGood merr ws → i + 1 = s.logCapacity →
          ∃ t, exec (.recordReadComplete merr) s = .next t ∧ t.events = s.events ∧ t.mem = s.mem ∧ t.ctl = s.ctl
            ∧ t.engine = { s.engine.reads i with
                pass := .walk, scanEnd := some (i + 1), granted := t.engine.granted })
        ∧ (¬s.recordIsGood merr ws → i + 1 < s.logCapacity →
          ∃ t, exec (.recordReadComplete merr) s = .next t ∧ t.events = s.events ∧ t.mem = s.mem ∧ t.ctl = s.ctl
            ∧ t.engine = { s.engine.reads i with probing := true, granted := t.engine.granted })
        ∧ (¬s.recordIsGood merr ws → i + 1 = s.logCapacity → i = n + 1 →
          ∃ t, exec (.recordReadComplete merr) s = .next t ∧ t.events = s.events ∧ t.mem = s.mem ∧ t.ctl = s.ctl
            ∧ t.engine = { s.engine.reads n with
                pass := .walk, scanEnd := some i, granted := t.engine.granted }))
      ∧ (s.engine.purpose = some .recovery → s.engine.pass = .scan → s.ctl.state = .recovering → s.engine.probing = true →
        (s.recordIsGood merr ws → i + 2 < s.logCapacity →
          ∃ t, exec (.recordReadComplete merr) s = .next t ∧ t.events = s.events ∧ t.mem = s.mem ∧ t.ctl = s.ctl
            ∧ t.engine = { s.engine.reads (i + 2) with granted := t.engine.granted })
        ∧ (s.recordIsGood merr ws → i + 2 = s.logCapacity →
          ∃ t, exec (.recordReadComplete merr) s = .next t ∧ t.events = s.events ∧ t.mem = s.mem ∧ t.ctl = s.ctl
            ∧ t.engine = { s.engine.reads (i + 1) with
                pass := .walk, scanEnd := some (i + 2), granted := t.engine.granted })
        ∧ (¬s.recordIsGood merr ws → i = n + 1 →
          ∃ t, exec (.recordReadComplete merr) s = .next t ∧ t.events = s.events ∧ t.mem = s.mem ∧ t.ctl = s.ctl
            ∧ t.engine = { s.engine.reads n with
                pass := .walk, scanEnd := some i, granted := t.engine.granted })
        ∧ (¬s.recordIsGood merr ws → i = 0 →
          ∃ t, exec (.recordReadComplete merr) s = .next t ∧ s.recoveryEnds s t ∧ t.engine.scanEnd = some 0))

/-- A restore write completes (R101, R103, R104, R122, R123): the image is in the memory, the restored count rises,
and the next lower slot is read; below slot 0 the walk is done, and a rollback's seal is requested once the queue is
empty, a recovery's at once, or FAULT at the epoch limit. The field that says the walk is done is the model's own (log
17). -/
def Obligations.RestoreWriteWalksOn : Prop :=
  ∀ (s : State) (o : MemOp) (n : Nat),
    s.completing .restoreWrite = .underway o → s.ctl.state ≠ .parking → s.consistent →
      (s.engine.cursor = some (n + 1) →
        ∃ t, exec .restoreWriteComplete s = .next t ∧ t.mem = s.mem.writeBeats o.start o.stores ∧ t.events = s.events
          ∧ t.ctl = s.ctl ∧ t.header.selected = s.header.selected ∧ t.table.status = s.table.status
          ∧ t.engine = { s.engine.reads n with restored := s.engine.restored + 1, granted := t.engine.granted })
      ∧ (s.engine.cursor = some 0 → s.engine.purpose = some .rollback → s.ctl.state = .rollingBack →
        ∃ t, exec .restoreWriteComplete s = .next t ∧ t.mem = s.mem.writeBeats o.start o.stores ∧ t.events = s.events
          ∧ t.engine.phase = .idle ∧ t.engine.restored = s.engine.restored + 1
          ∧ (s.queue.entries = [] → t.ctl = { s.ctl with state := .sealing }
              ∧ t.header.writeRequest.map (fun w => (w.kind, w.target)) = some (.commitSeal, s.header.unselected))
          ∧ (s.queue.entries ≠ [] → t.ctl = s.ctl))
      ∧ (s.engine.cursor = some 0 → s.engine.purpose = some .recovery → s.ctl.state = .recovering →
        ∃ t, exec .restoreWriteComplete s = .next t ∧ t.mem = s.mem.writeBeats o.start o.stores
          ∧ t.engine.phase = .idle ∧ t.engine.restored = s.engine.restored + 1
          ∧ (s.epochNumber ≠ 281474976710655#48 → t.ctl = s.ctl ∧ t.events = s.events
              ∧ t.header.writeRequest.map (fun w => (w.kind, w.target)) = some (.recoverySeal, s.header.unselected))
          ∧ (s.epochNumber = 281474976710655#48 → s.endsRefusing (s.ctl.faulted .epochLimit) t
              ∧ t.header.selected = none))

/-- A start-up read completes (R115 to R120). Slot A's is judged and slot B is read next. On slot B's the slot is
selected: the VALID one, of two the one of the greater generation and slot A of equals, its values taken and
RECOVERING entered with the scan from slot 0, or with EPOCH_LOST and the recovery seal for an epoch recorded BROKEN;
with none VALID the device is UNFORMATTED where both are ABSENT, in FAULT with reason CONFIG where one is UNFIT, and
with reason HEADER else, and there a request that straddles the start-up or was remembered is answered REFUSED (R78, R81). The
field that keeps slot A's header is the model's own (log 17). -/
def Obligations.HeaderReadSelects : Prop :=
  ∀ (s : State) (merr : List BadBeat) (o : MemOp) (a b : HeaderRecord) (ja jb : Judgement),
    s.completing .headerRead = .underway o → s.ctl.state = .starting → s.consistent → s.configured →
    b = HeaderRecord.ofBytes (bytesOf (s.wordsRead o merr)) →
    jb = judgeSlot s.size (!merr.isEmpty) (bytesOf (s.wordsRead o merr)) →
      (s.header.readRequest = some ⟨.a, true⟩ →
        ∃ t, exec (.headerReadComplete merr) s = .next t
          ∧ t.header = { s.header with
              surveyA := some ⟨jb, if jb = .absent then none else some b.formatNumber⟩
              readA := some b, readRequest := some ⟨.b, true⟩ }
          ∧ t.port.op = some ⟨.headerRead, (s.size - 256) / 4, 64, [], 0⟩
          ∧ t.ctl = s.ctl ∧ t.events = s.events ∧ t.mem = s.mem)
      ∧ (s.header.readRequest = some ⟨.b, true⟩ → s.header.readA = some a →
          s.header.surveyA.map SlotSurvey.judgement = some ja →
        ((ja = .valid ∧ jb ≠ .valid ∨ ja = .valid ∧ jb = .valid ∧ b.generation.toNat ≤ a.generation.toNat) →
          ∃ t, exec (.headerReadComplete merr) s = .next t ∧ s.selects .a a jb t)
        ∧ ((ja ≠ .valid ∧ jb = .valid ∨ ja = .valid ∧ jb = .valid ∧ a.generation.toNat < b.generation.toNat) →
          ∃ t, exec (.headerReadComplete merr) s = .next t ∧ s.selects .b b ja t)
        ∧ (ja = .absent → jb = .absent →
          ∃ t, exec (.headerReadComplete merr) s = .next t ∧ t.header.selected = s.header.selected
            ∧ t.events = s.events ∧ s.endsRefusing { s.ctl with state := .unformatted } t)
        ∧ (ja ≠ .valid → jb ≠ .valid → ja = .unfit ∨ jb = .unfit →
          ∃ t, exec (.headerReadComplete merr) s = .next t ∧ s.endsRefusing (s.ctl.faulted .config) t
            ∧ t.header.selected = none ∧ t.events = s.events)
        ∧ (ja = .absent ∧ jb = .damaged ∨ ja = .damaged ∧ jb = .absent ∨ ja = .damaged ∧ jb = .damaged →
          ∃ t, exec (.headerReadComplete merr) s = .next t ∧ s.endsRefusing (s.ctl.faulted .header) t
            ∧ t.header.selected = none ∧ t.events = s.events))

/-! ### The management link -/

/-- Commands that only answer (R165, R168, R171): the status record, its 24 bytes field by field (R176), ALARM being high
while an alarm condition holds (R174; in PARKING and PARKED as log 31 says); the active configuration, or NOT_NOW where
none stands; the staged configuration; UNKNOWN for a byte that names no command, while a byte that names one selects that
command: that the row UNKNOWN_COMMAND with such a byte changes nothing is the model's choice (log 5), as is that a ROLLBACK's
SEALING shows ROLLING_BACK (R94 against R104; log 34). Nothing but the link's response moves. The watermark test behind the
first condition (R35). The counts of the frame are the model's (log 12). -/
def Obligations.LinkQueriesAnswered : Prop :=
  ∀ (s : State) (code : Byte) (c : Configuration),
    (s.linkReceiving = true →
      (∃ r, exec .getStatus s = .next (s.responds [0x01#8] (0x01#8 :: r)) ∧ s.statusSays r)
      ∧ (s.header.active = some c →
          exec .getActive s = .next (s.responds [0x03#8] (0x01#8 :: [c.policy, c.watermark] ++ bytes16 c.capacity
            ++ c.regions.bytes)))
      ∧ (s.header.active = none → exec .getActive s = .next (s.responds [0x03#8] [0x02#8]))
      ∧ exec .getStaged s = .next (s.responds [0x04#8] (0x01#8 :: [s.link.staged.policy, s.link.staged.watermark]
            ++ bytes16 s.link.staged.capacity ++ s.link.staged.regions.bytes))
      ∧ (code ∉ [0x01#8, 0x02#8, 0x03#8, 0x04#8, 0x10#8, 0x11#8, 0x20#8, 0x21#8, 0x30#8] →
          exec (.unknownCommand code) s = .next (s.responds [code] [0x04#8]))
      ∧ (code ∈ [0x01#8, 0x02#8, 0x03#8, 0x04#8, 0x10#8, 0x11#8, 0x20#8, 0x21#8, 0x30#8] →
          exec (.unknownCommand code) s = .next s))
      ∧ (s.alarm = true ↔ s.pins.resetLow = false ∧ (s.alarms.watermark = true ∨ s.alarms.exhausted = true
          ∨ s.alarms.broken = true ∨ s.alarmed .unformatted ∨ s.alarmed .fault ∨ s.events.lost = true))
      ∧ (s.header.active = some c →
          s.watermarkTest = if c.watermark.toNat * c.capacity.toNat / 16 ≤ s.capture.tail + s.table.reservations
            then s.setAlarms { s.alarms with watermark := true } else s)
      ∧ (s.header.active = none → s.watermarkTest = s)

/-- POP_EVENT (R173, R176): the head record's twelve bytes, the record leaving the queue when the last of them is
sent; on an empty queue twelve zeros, and the lost flag is cleared. Frames (R164): the fall of SSN begins one afresh,
the rise ends it from any phase, and a record whose last byte was not sent stays. The counts of the frame are the
model's (log 12). -/
def Obligations.EventsPoppedInFrames : Prop :=
  ∀ (s : State) (e : EventRecord) (rest : List EventRecord), s.pins.resetLow = false →
    (s.link.phase = .receiving → s.events.records = e :: rest →
        exec .popEvent s = .next ((s.responds [0x02#8] (0x01#8 :: [e.kind.code, 0x00#8]
          ++ [e.epoch.extractLsb' 40 8, e.epoch.extractLsb' 32 8, e.epoch.extractLsb' 24 8, e.epoch.extractLsb' 16 8,
            e.epoch.extractLsb' 8 8, e.epoch.extractLsb' 0 8] ++ bytes32 e.detail)).removing true))
      ∧ (s.link.phase = .receiving → s.events.records = [] →
        exec .popEvent s = .next ((s.responds [0x02#8] (0x01#8 :: List.replicate 12 0x00#8)).setEvents ⟨[], false⟩))
      ∧ (s.link.phase = .responding → s.link.command = [0x02#8] → s.link.pendingRemoval = true → s.events.records = e :: rest →
        exec .popEventRemoval s = .next ((s.setLink { s.link with
          phase := .spent, byteCount := 15, pendingRemoval := false }).setEvents { s.events with records := rest }))
      ∧ (s.link.phase = .responding → s.link.command = [0x02#8] → s.link.pendingRemoval = false →
        exec .popEventRemoval s = .next (s.setLink { s.link with phase := .spent, byteCount := 15 }))
      ∧ exec .frameEnd s = .next ((s.setPins { s.pins with ssnLow := false }).setLink { s.link with
          phase := .idle, bitCount := 0, byteCount := 0, pendingRemoval := false })
      ∧ (s.pins.ssnLow = false →
        exec .frameStart s = .next ((s.setPins { s.pins with ssnLow := true }).setLink { s.link with
          phase := .receiving, bitCount := 0, byteCount := 0, command := [], response := [], pendingRemoval := false }))

/-- Staging (R165 to R168). In the states that carry it out, STAGE_REGION writes the bytes of one entry as given and
answers INVALID for an index above 7, STAGE_LOG writes capacity, policy and watermark; APPLY makes a valid staged
configuration the pending one and answers INVALID for any other; UNSTAGE drops the pending one and stages the active
one anew. In every other state the answer is NOT_NOW and nothing changes. The counts of the frame are the model's (log
12). -/
def Obligations.StagingCarriedOut : Prop :=
  ∀ (s : State) (index present cls : Byte) (base length capacity : BitVec 16) (policy watermark : Byte) (c : Configuration),
    s.linkReceiving = true →
      (s.ctl.state ∈ [DeviceState.unformatted, .fault, .opened, .draining, .rollingBack, .sealing] →
        (index.toNat < 8 → ∃ t, exec (.stageRegion index present cls base length) s = .next t
          ∧ t = (s.responds ([0x10#8, index, present, cls] ++ bytes16 base ++ bytes16 length) [0x01#8]).staging t.link.staged
          ∧ (t.link.staged.policy, t.link.staged.watermark, t.link.staged.capacity)
              = (s.link.staged.policy, s.link.staged.watermark, s.link.staged.capacity)
          ∧ t.link.staged.regions.toList = s.link.staged.regions.toList.set index.toNat ⟨present, cls, base, length⟩)
        ∧ (8 ≤ index.toNat → exec (.stageRegion index present cls base length) s
            = .next (s.responds ([0x10#8, index, present, cls] ++ bytes16 base ++ bytes16 length) [0x03#8]))
        ∧ exec (.stageLog capacity policy watermark) s
            = .next ((s.responds ([0x11#8] ++ bytes16 capacity ++ [policy, watermark]) [0x01#8]).staging
              ⟨policy, watermark, capacity, s.link.staged.regions⟩))
      ∧ (s.ctl.state ∈ [DeviceState.starting, .recovering, .formatting, .parking, .parked] →
        exec (.stageRegion index present cls base length) s
            = .next (s.responds ([0x10#8, index, present, cls] ++ bytes16 base ++ bytes16 length) [0x02#8])
          ∧ exec (.stageLog capacity policy watermark) s
            = .next (s.responds ([0x11#8] ++ bytes16 capacity ++ [policy, watermark]) [0x02#8]))
      ∧ (s.ctl.state ∈ [DeviceState.opened, .draining, .rollingBack, .sealing] →
        (s.link.staged.valid s.size = true → ∃ t, exec .apply s = .next t
          ∧ t = (s.responds [0x20#8] [0x01#8]).setHeader { s.header with
              pendingConfig := some s.link.staged, writeRequest := t.header.writeRequest }
          ∧ t.header.writeRequest.map (fun w => { w with newer := false })
              = s.header.writeRequest.map (fun w => { w with newer := false })
          ∧ (∀ w ∈ t.header.writeRequest, w.granted = true → w.newer = true))
        ∧ (s.link.staged.valid s.size = false → exec .apply s = .next (s.responds [0x20#8] [0x03#8]))
        ∧ (s.header.active = some c → exec .unstage s = .next (((s.responds [0x21#8] [0x01#8]).staging c).setHeader
            { s.header with pendingConfig := none })))
      ∧ (s.ctl.state ∈ [DeviceState.starting, .recovering, .unformatted, .fault, .formatting, .parking, .parked] →
        exec .apply s = .next (s.responds [0x20#8] [0x02#8]) ∧ exec .unstage s = .next (s.responds [0x21#8] [0x02#8]))

/-- FORMAT (R169, R170): NOT_NOW but in UNFORMATTED and in FAULT for another reason than STRAP; INVALID where the
staged configuration is not valid or a slot that bears the mark has the number; else FORMATTING, with the clearing
write of slot B granted on the same event. The counts of the frame are the model's (log 12), and MA moves at the grant
(log 23). -/
def Obligations.FormatDecidedAndBegun : Prop :=
  ∀ (s : State) (number : BitVec 32), s.linkReceiving = true →
    (¬(s.ctl.state = .unformatted ∨ s.ctl.state = .fault ∧ s.ctl.faultReason ≠ some .strap) →
        exec (.format number) s = .next (s.responds (0x30#8 :: bytes32 number) [0x02#8]))
      ∧ (s.ctl.state = .unformatted ∨ s.ctl.state = .fault ∧ s.ctl.faultReason ≠ some .strap →
        ((s.link.staged.valid s.size = false
              ∨ (∃ v ∈ s.header.surveyA, v.judgement ≠ .absent ∧ v.number = some number)
              ∨ (∃ v ∈ s.header.surveyB, v.judgement ≠ .absent ∧ v.number = some number)) →
            exec (.format number) s = .next (s.responds (0x30#8 :: bytes32 number) [0x03#8]))
        ∧ (s.link.staged.valid s.size = true →
            (∀ v ∈ s.header.surveyA, v.judgement = .absent ∨ v.number ≠ some number) →
            (∀ v ∈ s.header.surveyB, v.judgement = .absent ∨ v.number ≠ some number) → s.port.op = none →
          exec (.format number) s = .next ((((s.responds (0x30#8 :: bytes32 number) [0x01#8]).setCtl { s.ctl with
              state := .formatting, faultReason := none }).setHeader { s.header with
                writeRequest := some ⟨.clearing number, .b, true, none, false, false⟩ }).setPort
                  ⟨some ⟨.headerWrite, (s.size - 256) / 4, 64, fullBeats (List.replicate 64 MWord.zero), 0⟩,
                    BitVec.ofNat 24 ((s.size - 256) / 4), s.port.aging⟩)))
end

