-- ==== Sys2Proof/Laws/Decode.lean ====
section
/-! SUPPORT. Words, bytes and samples: what `decodeTableWord` reads from a word is what `linkCommand` reads from its bytes
(R163, R165). -/

namespace Sys2Proof

/-- A byte's samples make the byte (R163). -/
theorem byteOfBits_samples (b : Byte) :
    byteOfBits (b.getLsbD 7) (b.getLsbD 6) (b.getLsbD 5) (b.getLsbD 4) (b.getLsbD 3) (b.getLsbD 2) (b.getLsbD 1)
      (b.getLsbD 0) = b := by
  revert b
  decide +kernel

/-- The samples of some bytes make those bytes (R163). -/
@[simp] theorem sdiBytes_samples (bytes : List Byte) : sdiBytes (bytes.flatMap byteSamples) = bytes := by
  induction bytes with
  | nil => rfl
  | cons b rest ih =>
    rw [List.flatMap_cons]
    show byteOfBits _ _ _ _ _ _ _ _ :: sdiBytes (rest.flatMap byteSamples) = _
    rw [byteOfBits_samples, ih]

/-- The bytes of the word of some bytes are those bytes. -/
@[simp] theorem wordBytes_bytesWord (bytes : List Byte) : wordBytes (bytesWord bytes) bytes.length = bytes := by
  induction bytes with
  | nil => rfl
  | cons b rest ih =>
    have h1 : BitVec.ofNat 8 (b.toNat + 256 * bytesWord rest) = b := by
      apply BitVec.eq_of_toNat_eq
      rw [BitVec.toNat_ofNat]
      have := b.isLt
      omega
    have h2 : (b.toNat + 256 * bytesWord rest) / 256 = bytesWord rest := by
      have := b.isLt
      omega
    simp [bytesWord, wordBytes, h1, h2, ih]

/-- A command's bytes are all its frame needs: what follows them on SDI is not read (R163). -/
theorem sdiCommand_samples {bytes : List Byte} {c : Instr} (h : linkCommand bytes = some c) :
    sdiCommand (bytes.flatMap byteSamples) = some c := by
  unfold sdiCommand
  rw [sdiBytes_samples]
  cases bytes with
  | nil => simp [linkCommand] at h
  | cons code args =>
    have hl : args.length = argumentCount code := by
      by_contra hn
      simp [linkCommand, hn] at h
    simp [← hl, h]

/-- A word spells the command that its bytes spell (R163, R165; log 1). -/
theorem decodeTableWord_bytes {bytes : List Byte} {c : Instr} (h : linkCommand bytes = some c) :
    decodeTableWord (8 * bytes.length) (bytesWord bytes) = some c := by
  unfold decodeTableWord
  rw [Nat.mul_div_cancel_left _ (by decide), wordBytes_bytesWord]
  exact sdiCommand_samples h

end Sys2Proof
end

