-- ==== Sys2Proof/Laws/State.lean ====
section
/-! SUPPORT. The field lemmas of State's setters: for each setter, what each block reads after it. -/

namespace Sys2Proof.Machine

@[simp] theorem setPins_pins (s : State) (x : Pins) : (s.setPins x).pins = x := rfl
@[simp] theorem setPins_mem (s : State) (x : Pins) : (s.setPins x).mem = s.mem := rfl
@[simp] theorem setPins_dec (s : State) (x : Pins) : (s.setPins x).dec = s.dec := rfl
@[simp] theorem setPins_capture (s : State) (x : Pins) : (s.setPins x).capture = s.capture := rfl
@[simp] theorem setPins_table (s : State) (x : Pins) : (s.setPins x).table = s.table := rfl
@[simp] theorem setPins_queue (s : State) (x : Pins) : (s.setPins x).queue = s.queue := rfl
@[simp] theorem setPins_ctl (s : State) (x : Pins) : (s.setPins x).ctl = s.ctl := rfl
@[simp] theorem setPins_engine (s : State) (x : Pins) : (s.setPins x).engine = s.engine := rfl
@[simp] theorem setPins_header (s : State) (x : Pins) : (s.setPins x).header = s.header := rfl
@[simp] theorem setPins_port (s : State) (x : Pins) : (s.setPins x).port = s.port := rfl
@[simp] theorem setPins_host (s : State) (x : Pins) : (s.setPins x).host = s.host := rfl
@[simp] theorem setPins_link (s : State) (x : Pins) : (s.setPins x).link = s.link := rfl
@[simp] theorem setPins_events (s : State) (x : Pins) : (s.setPins x).events = s.events := rfl
@[simp] theorem setPins_alarms (s : State) (x : Pins) : (s.setPins x).alarms = s.alarms := rfl
@[simp] theorem setPins_pending (s : State) (x : Pins) : (s.setPins x).pending = s.pending := rfl

@[simp] theorem setMem_pins (s : State) (x : Memory) : (s.setMem x).pins = s.pins := rfl
@[simp] theorem setMem_mem (s : State) (x : Memory) : (s.setMem x).mem = x := rfl
@[simp] theorem setMem_dec (s : State) (x : Memory) : (s.setMem x).dec = s.dec := rfl
@[simp] theorem setMem_capture (s : State) (x : Memory) : (s.setMem x).capture = s.capture := rfl
@[simp] theorem setMem_table (s : State) (x : Memory) : (s.setMem x).table = s.table := rfl
@[simp] theorem setMem_queue (s : State) (x : Memory) : (s.setMem x).queue = s.queue := rfl
@[simp] theorem setMem_ctl (s : State) (x : Memory) : (s.setMem x).ctl = s.ctl := rfl
@[simp] theorem setMem_engine (s : State) (x : Memory) : (s.setMem x).engine = s.engine := rfl
@[simp] theorem setMem_header (s : State) (x : Memory) : (s.setMem x).header = s.header := rfl
@[simp] theorem setMem_port (s : State) (x : Memory) : (s.setMem x).port = s.port := rfl
@[simp] theorem setMem_host (s : State) (x : Memory) : (s.setMem x).host = s.host := rfl
@[simp] theorem setMem_link (s : State) (x : Memory) : (s.setMem x).link = s.link := rfl
@[simp] theorem setMem_events (s : State) (x : Memory) : (s.setMem x).events = s.events := rfl
@[simp] theorem setMem_alarms (s : State) (x : Memory) : (s.setMem x).alarms = s.alarms := rfl
@[simp] theorem setMem_pending (s : State) (x : Memory) : (s.setMem x).pending = s.pending := rfl

@[simp] theorem setDec_pins (s : State) (x : RegionDecoder) : (s.setDec x).pins = s.pins := rfl
@[simp] theorem setDec_mem (s : State) (x : RegionDecoder) : (s.setDec x).mem = s.mem := rfl
@[simp] theorem setDec_dec (s : State) (x : RegionDecoder) : (s.setDec x).dec = x := rfl
@[simp] theorem setDec_capture (s : State) (x : RegionDecoder) : (s.setDec x).capture = s.capture := rfl
@[simp] theorem setDec_table (s : State) (x : RegionDecoder) : (s.setDec x).table = s.table := rfl
@[simp] theorem setDec_queue (s : State) (x : RegionDecoder) : (s.setDec x).queue = s.queue := rfl
@[simp] theorem setDec_ctl (s : State) (x : RegionDecoder) : (s.setDec x).ctl = s.ctl := rfl
@[simp] theorem setDec_engine (s : State) (x : RegionDecoder) : (s.setDec x).engine = s.engine := rfl
@[simp] theorem setDec_header (s : State) (x : RegionDecoder) : (s.setDec x).header = s.header := rfl
@[simp] theorem setDec_port (s : State) (x : RegionDecoder) : (s.setDec x).port = s.port := rfl
@[simp] theorem setDec_host (s : State) (x : RegionDecoder) : (s.setDec x).host = s.host := rfl
@[simp] theorem setDec_link (s : State) (x : RegionDecoder) : (s.setDec x).link = s.link := rfl
@[simp] theorem setDec_events (s : State) (x : RegionDecoder) : (s.setDec x).events = s.events := rfl
@[simp] theorem setDec_alarms (s : State) (x : RegionDecoder) : (s.setDec x).alarms = s.alarms := rfl
@[simp] theorem setDec_pending (s : State) (x : RegionDecoder) : (s.setDec x).pending = s.pending := rfl

@[simp] theorem setCapture_pins (s : State) (x : CaptureUnit) : (s.setCapture x).pins = s.pins := rfl
@[simp] theorem setCapture_mem (s : State) (x : CaptureUnit) : (s.setCapture x).mem = s.mem := rfl
@[simp] theorem setCapture_dec (s : State) (x : CaptureUnit) : (s.setCapture x).dec = s.dec := rfl
@[simp] theorem setCapture_capture (s : State) (x : CaptureUnit) : (s.setCapture x).capture = x := rfl
@[simp] theorem setCapture_table (s : State) (x : CaptureUnit) : (s.setCapture x).table = s.table := rfl
@[simp] theorem setCapture_queue (s : State) (x : CaptureUnit) : (s.setCapture x).queue = s.queue := rfl
@[simp] theorem setCapture_ctl (s : State) (x : CaptureUnit) : (s.setCapture x).ctl = s.ctl := rfl
@[simp] theorem setCapture_engine (s : State) (x : CaptureUnit) : (s.setCapture x).engine = s.engine := rfl
@[simp] theorem setCapture_header (s : State) (x : CaptureUnit) : (s.setCapture x).header = s.header := rfl
@[simp] theorem setCapture_port (s : State) (x : CaptureUnit) : (s.setCapture x).port = s.port := rfl
@[simp] theorem setCapture_host (s : State) (x : CaptureUnit) : (s.setCapture x).host = s.host := rfl
@[simp] theorem setCapture_link (s : State) (x : CaptureUnit) : (s.setCapture x).link = s.link := rfl
@[simp] theorem setCapture_events (s : State) (x : CaptureUnit) : (s.setCapture x).events = s.events := rfl
@[simp] theorem setCapture_alarms (s : State) (x : CaptureUnit) : (s.setCapture x).alarms = s.alarms := rfl
@[simp] theorem setCapture_pending (s : State) (x : CaptureUnit) : (s.setCapture x).pending = s.pending := rfl

@[simp] theorem setTable_pins (s : State) (x : GranuleTable) : (s.setTable x).pins = s.pins := rfl
@[simp] theorem setTable_mem (s : State) (x : GranuleTable) : (s.setTable x).mem = s.mem := rfl
@[simp] theorem setTable_dec (s : State) (x : GranuleTable) : (s.setTable x).dec = s.dec := rfl
@[simp] theorem setTable_capture (s : State) (x : GranuleTable) : (s.setTable x).capture = s.capture := rfl
@[simp] theorem setTable_table (s : State) (x : GranuleTable) : (s.setTable x).table = x := rfl
@[simp] theorem setTable_queue (s : State) (x : GranuleTable) : (s.setTable x).queue = s.queue := rfl
@[simp] theorem setTable_ctl (s : State) (x : GranuleTable) : (s.setTable x).ctl = s.ctl := rfl
@[simp] theorem setTable_engine (s : State) (x : GranuleTable) : (s.setTable x).engine = s.engine := rfl
@[simp] theorem setTable_header (s : State) (x : GranuleTable) : (s.setTable x).header = s.header := rfl
@[simp] theorem setTable_port (s : State) (x : GranuleTable) : (s.setTable x).port = s.port := rfl
@[simp] theorem setTable_host (s : State) (x : GranuleTable) : (s.setTable x).host = s.host := rfl
@[simp] theorem setTable_link (s : State) (x : GranuleTable) : (s.setTable x).link = s.link := rfl
@[simp] theorem setTable_events (s : State) (x : GranuleTable) : (s.setTable x).events = s.events := rfl
@[simp] theorem setTable_alarms (s : State) (x : GranuleTable) : (s.setTable x).alarms = s.alarms := rfl
@[simp] theorem setTable_pending (s : State) (x : GranuleTable) : (s.setTable x).pending = s.pending := rfl

@[simp] theorem setQueue_pins (s : State) (x : PostingQueue) : (s.setQueue x).pins = s.pins := rfl
@[simp] theorem setQueue_mem (s : State) (x : PostingQueue) : (s.setQueue x).mem = s.mem := rfl
@[simp] theorem setQueue_dec (s : State) (x : PostingQueue) : (s.setQueue x).dec = s.dec := rfl
@[simp] theorem setQueue_capture (s : State) (x : PostingQueue) : (s.setQueue x).capture = s.capture := rfl
@[simp] theorem setQueue_table (s : State) (x : PostingQueue) : (s.setQueue x).table = s.table := rfl
@[simp] theorem setQueue_queue (s : State) (x : PostingQueue) : (s.setQueue x).queue = x := rfl
@[simp] theorem setQueue_ctl (s : State) (x : PostingQueue) : (s.setQueue x).ctl = s.ctl := rfl
@[simp] theorem setQueue_engine (s : State) (x : PostingQueue) : (s.setQueue x).engine = s.engine := rfl
@[simp] theorem setQueue_header (s : State) (x : PostingQueue) : (s.setQueue x).header = s.header := rfl
@[simp] theorem setQueue_port (s : State) (x : PostingQueue) : (s.setQueue x).port = s.port := rfl
@[simp] theorem setQueue_host (s : State) (x : PostingQueue) : (s.setQueue x).host = s.host := rfl
@[simp] theorem setQueue_link (s : State) (x : PostingQueue) : (s.setQueue x).link = s.link := rfl
@[simp] theorem setQueue_events (s : State) (x : PostingQueue) : (s.setQueue x).events = s.events := rfl
@[simp] theorem setQueue_alarms (s : State) (x : PostingQueue) : (s.setQueue x).alarms = s.alarms := rfl
@[simp] theorem setQueue_pending (s : State) (x : PostingQueue) : (s.setQueue x).pending = s.pending := rfl

@[simp] theorem setCtl_pins (s : State) (x : EpochController) : (s.setCtl x).pins = s.pins := rfl
@[simp] theorem setCtl_mem (s : State) (x : EpochController) : (s.setCtl x).mem = s.mem := rfl
@[simp] theorem setCtl_dec (s : State) (x : EpochController) : (s.setCtl x).dec = s.dec := rfl
@[simp] theorem setCtl_capture (s : State) (x : EpochController) : (s.setCtl x).capture = s.capture := rfl
@[simp] theorem setCtl_table (s : State) (x : EpochController) : (s.setCtl x).table = s.table := rfl
@[simp] theorem setCtl_queue (s : State) (x : EpochController) : (s.setCtl x).queue = s.queue := rfl
@[simp] theorem setCtl_ctl (s : State) (x : EpochController) : (s.setCtl x).ctl = x := rfl
@[simp] theorem setCtl_engine (s : State) (x : EpochController) : (s.setCtl x).engine = s.engine := rfl
@[simp] theorem setCtl_header (s : State) (x : EpochController) : (s.setCtl x).header = s.header := rfl
@[simp] theorem setCtl_port (s : State) (x : EpochController) : (s.setCtl x).port = s.port := rfl
@[simp] theorem setCtl_host (s : State) (x : EpochController) : (s.setCtl x).host = s.host := rfl
@[simp] theorem setCtl_link (s : State) (x : EpochController) : (s.setCtl x).link = s.link := rfl
@[simp] theorem setCtl_events (s : State) (x : EpochController) : (s.setCtl x).events = s.events := rfl
@[simp] theorem setCtl_alarms (s : State) (x : EpochController) : (s.setCtl x).alarms = s.alarms := rfl
@[simp] theorem setCtl_pending (s : State) (x : EpochController) : (s.setCtl x).pending = s.pending := rfl

@[simp] theorem setEngine_pins (s : State) (x : RollbackEngine) : (s.setEngine x).pins = s.pins := rfl
@[simp] theorem setEngine_mem (s : State) (x : RollbackEngine) : (s.setEngine x).mem = s.mem := rfl
@[simp] theorem setEngine_dec (s : State) (x : RollbackEngine) : (s.setEngine x).dec = s.dec := rfl
@[simp] theorem setEngine_capture (s : State) (x : RollbackEngine) : (s.setEngine x).capture = s.capture := rfl
@[simp] theorem setEngine_table (s : State) (x : RollbackEngine) : (s.setEngine x).table = s.table := rfl
@[simp] theorem setEngine_queue (s : State) (x : RollbackEngine) : (s.setEngine x).queue = s.queue := rfl
@[simp] theorem setEngine_ctl (s : State) (x : RollbackEngine) : (s.setEngine x).ctl = s.ctl := rfl
@[simp] theorem setEngine_engine (s : State) (x : RollbackEngine) : (s.setEngine x).engine = x := rfl
@[simp] theorem setEngine_header (s : State) (x : RollbackEngine) : (s.setEngine x).header = s.header := rfl
@[simp] theorem setEngine_port (s : State) (x : RollbackEngine) : (s.setEngine x).port = s.port := rfl
@[simp] theorem setEngine_host (s : State) (x : RollbackEngine) : (s.setEngine x).host = s.host := rfl
@[simp] theorem setEngine_link (s : State) (x : RollbackEngine) : (s.setEngine x).link = s.link := rfl
@[simp] theorem setEngine_events (s : State) (x : RollbackEngine) : (s.setEngine x).events = s.events := rfl
@[simp] theorem setEngine_alarms (s : State) (x : RollbackEngine) : (s.setEngine x).alarms = s.alarms := rfl
@[simp] theorem setEngine_pending (s : State) (x : RollbackEngine) : (s.setEngine x).pending = s.pending := rfl

@[simp] theorem setHeader_pins (s : State) (x : HeaderUnit) : (s.setHeader x).pins = s.pins := rfl
@[simp] theorem setHeader_mem (s : State) (x : HeaderUnit) : (s.setHeader x).mem = s.mem := rfl
@[simp] theorem setHeader_dec (s : State) (x : HeaderUnit) : (s.setHeader x).dec = s.dec := rfl
@[simp] theorem setHeader_capture (s : State) (x : HeaderUnit) : (s.setHeader x).capture = s.capture := rfl
@[simp] theorem setHeader_table (s : State) (x : HeaderUnit) : (s.setHeader x).table = s.table := rfl
@[simp] theorem setHeader_queue (s : State) (x : HeaderUnit) : (s.setHeader x).queue = s.queue := rfl
@[simp] theorem setHeader_ctl (s : State) (x : HeaderUnit) : (s.setHeader x).ctl = s.ctl := rfl
@[simp] theorem setHeader_engine (s : State) (x : HeaderUnit) : (s.setHeader x).engine = s.engine := rfl
@[simp] theorem setHeader_header (s : State) (x : HeaderUnit) : (s.setHeader x).header = x := rfl
@[simp] theorem setHeader_port (s : State) (x : HeaderUnit) : (s.setHeader x).port = s.port := rfl
@[simp] theorem setHeader_host (s : State) (x : HeaderUnit) : (s.setHeader x).host = s.host := rfl
@[simp] theorem setHeader_link (s : State) (x : HeaderUnit) : (s.setHeader x).link = s.link := rfl
@[simp] theorem setHeader_events (s : State) (x : HeaderUnit) : (s.setHeader x).events = s.events := rfl
@[simp] theorem setHeader_alarms (s : State) (x : HeaderUnit) : (s.setHeader x).alarms = s.alarms := rfl
@[simp] theorem setHeader_pending (s : State) (x : HeaderUnit) : (s.setHeader x).pending = s.pending := rfl

@[simp] theorem setPort_pins (s : State) (x : MemoryPort) : (s.setPort x).pins = s.pins := rfl
@[simp] theorem setPort_mem (s : State) (x : MemoryPort) : (s.setPort x).mem = s.mem := rfl
@[simp] theorem setPort_dec (s : State) (x : MemoryPort) : (s.setPort x).dec = s.dec := rfl
@[simp] theorem setPort_capture (s : State) (x : MemoryPort) : (s.setPort x).capture = s.capture := rfl
@[simp] theorem setPort_table (s : State) (x : MemoryPort) : (s.setPort x).table = s.table := rfl
@[simp] theorem setPort_queue (s : State) (x : MemoryPort) : (s.setPort x).queue = s.queue := rfl
@[simp] theorem setPort_ctl (s : State) (x : MemoryPort) : (s.setPort x).ctl = s.ctl := rfl
@[simp] theorem setPort_engine (s : State) (x : MemoryPort) : (s.setPort x).engine = s.engine := rfl
@[simp] theorem setPort_header (s : State) (x : MemoryPort) : (s.setPort x).header = s.header := rfl
@[simp] theorem setPort_port (s : State) (x : MemoryPort) : (s.setPort x).port = x := rfl
@[simp] theorem setPort_host (s : State) (x : MemoryPort) : (s.setPort x).host = s.host := rfl
@[simp] theorem setPort_link (s : State) (x : MemoryPort) : (s.setPort x).link = s.link := rfl
@[simp] theorem setPort_events (s : State) (x : MemoryPort) : (s.setPort x).events = s.events := rfl
@[simp] theorem setPort_alarms (s : State) (x : MemoryPort) : (s.setPort x).alarms = s.alarms := rfl
@[simp] theorem setPort_pending (s : State) (x : MemoryPort) : (s.setPort x).pending = s.pending := rfl

@[simp] theorem setHost_pins (s : State) (x : HostPort) : (s.setHost x).pins = s.pins := rfl
@[simp] theorem setHost_mem (s : State) (x : HostPort) : (s.setHost x).mem = s.mem := rfl
@[simp] theorem setHost_dec (s : State) (x : HostPort) : (s.setHost x).dec = s.dec := rfl
@[simp] theorem setHost_capture (s : State) (x : HostPort) : (s.setHost x).capture = s.capture := rfl
@[simp] theorem setHost_table (s : State) (x : HostPort) : (s.setHost x).table = s.table := rfl
@[simp] theorem setHost_queue (s : State) (x : HostPort) : (s.setHost x).queue = s.queue := rfl
@[simp] theorem setHost_ctl (s : State) (x : HostPort) : (s.setHost x).ctl = s.ctl := rfl
@[simp] theorem setHost_engine (s : State) (x : HostPort) : (s.setHost x).engine = s.engine := rfl
@[simp] theorem setHost_header (s : State) (x : HostPort) : (s.setHost x).header = s.header := rfl
@[simp] theorem setHost_port (s : State) (x : HostPort) : (s.setHost x).port = s.port := rfl
@[simp] theorem setHost_host (s : State) (x : HostPort) : (s.setHost x).host = x := rfl
@[simp] theorem setHost_link (s : State) (x : HostPort) : (s.setHost x).link = s.link := rfl
@[simp] theorem setHost_events (s : State) (x : HostPort) : (s.setHost x).events = s.events := rfl
@[simp] theorem setHost_alarms (s : State) (x : HostPort) : (s.setHost x).alarms = s.alarms := rfl
@[simp] theorem setHost_pending (s : State) (x : HostPort) : (s.setHost x).pending = s.pending := rfl

@[simp] theorem setLink_pins (s : State) (x : ManagementLink) : (s.setLink x).pins = s.pins := rfl
@[simp] theorem setLink_mem (s : State) (x : ManagementLink) : (s.setLink x).mem = s.mem := rfl
@[simp] theorem setLink_dec (s : State) (x : ManagementLink) : (s.setLink x).dec = s.dec := rfl
@[simp] theorem setLink_capture (s : State) (x : ManagementLink) : (s.setLink x).capture = s.capture := rfl
@[simp] theorem setLink_table (s : State) (x : ManagementLink) : (s.setLink x).table = s.table := rfl
@[simp] theorem setLink_queue (s : State) (x : ManagementLink) : (s.setLink x).queue = s.queue := rfl
@[simp] theorem setLink_ctl (s : State) (x : ManagementLink) : (s.setLink x).ctl = s.ctl := rfl
@[simp] theorem setLink_engine (s : State) (x : ManagementLink) : (s.setLink x).engine = s.engine := rfl
@[simp] theorem setLink_header (s : State) (x : ManagementLink) : (s.setLink x).header = s.header := rfl
@[simp] theorem setLink_port (s : State) (x : ManagementLink) : (s.setLink x).port = s.port := rfl
@[simp] theorem setLink_host (s : State) (x : ManagementLink) : (s.setLink x).host = s.host := rfl
@[simp] theorem setLink_link (s : State) (x : ManagementLink) : (s.setLink x).link = x := rfl
@[simp] theorem setLink_events (s : State) (x : ManagementLink) : (s.setLink x).events = s.events := rfl
@[simp] theorem setLink_alarms (s : State) (x : ManagementLink) : (s.setLink x).alarms = s.alarms := rfl
@[simp] theorem setLink_pending (s : State) (x : ManagementLink) : (s.setLink x).pending = s.pending := rfl

@[simp] theorem setEvents_pins (s : State) (x : EventQueue) : (s.setEvents x).pins = s.pins := rfl
@[simp] theorem setEvents_mem (s : State) (x : EventQueue) : (s.setEvents x).mem = s.mem := rfl
@[simp] theorem setEvents_dec (s : State) (x : EventQueue) : (s.setEvents x).dec = s.dec := rfl
@[simp] theorem setEvents_capture (s : State) (x : EventQueue) : (s.setEvents x).capture = s.capture := rfl
@[simp] theorem setEvents_table (s : State) (x : EventQueue) : (s.setEvents x).table = s.table := rfl
@[simp] theorem setEvents_queue (s : State) (x : EventQueue) : (s.setEvents x).queue = s.queue := rfl
@[simp] theorem setEvents_ctl (s : State) (x : EventQueue) : (s.setEvents x).ctl = s.ctl := rfl
@[simp] theorem setEvents_engine (s : State) (x : EventQueue) : (s.setEvents x).engine = s.engine := rfl
@[simp] theorem setEvents_header (s : State) (x : EventQueue) : (s.setEvents x).header = s.header := rfl
@[simp] theorem setEvents_port (s : State) (x : EventQueue) : (s.setEvents x).port = s.port := rfl
@[simp] theorem setEvents_host (s : State) (x : EventQueue) : (s.setEvents x).host = s.host := rfl
@[simp] theorem setEvents_link (s : State) (x : EventQueue) : (s.setEvents x).link = s.link := rfl
@[simp] theorem setEvents_events (s : State) (x : EventQueue) : (s.setEvents x).events = x := rfl
@[simp] theorem setEvents_alarms (s : State) (x : EventQueue) : (s.setEvents x).alarms = s.alarms := rfl
@[simp] theorem setEvents_pending (s : State) (x : EventQueue) : (s.setEvents x).pending = s.pending := rfl

@[simp] theorem setAlarms_pins (s : State) (x : Alarms) : (s.setAlarms x).pins = s.pins := rfl
@[simp] theorem setAlarms_mem (s : State) (x : Alarms) : (s.setAlarms x).mem = s.mem := rfl
@[simp] theorem setAlarms_dec (s : State) (x : Alarms) : (s.setAlarms x).dec = s.dec := rfl
@[simp] theorem setAlarms_capture (s : State) (x : Alarms) : (s.setAlarms x).capture = s.capture := rfl
@[simp] theorem setAlarms_table (s : State) (x : Alarms) : (s.setAlarms x).table = s.table := rfl
@[simp] theorem setAlarms_queue (s : State) (x : Alarms) : (s.setAlarms x).queue = s.queue := rfl
@[simp] theorem setAlarms_ctl (s : State) (x : Alarms) : (s.setAlarms x).ctl = s.ctl := rfl
@[simp] theorem setAlarms_engine (s : State) (x : Alarms) : (s.setAlarms x).engine = s.engine := rfl
@[simp] theorem setAlarms_header (s : State) (x : Alarms) : (s.setAlarms x).header = s.header := rfl
@[simp] theorem setAlarms_port (s : State) (x : Alarms) : (s.setAlarms x).port = s.port := rfl
@[simp] theorem setAlarms_host (s : State) (x : Alarms) : (s.setAlarms x).host = s.host := rfl
@[simp] theorem setAlarms_link (s : State) (x : Alarms) : (s.setAlarms x).link = s.link := rfl
@[simp] theorem setAlarms_events (s : State) (x : Alarms) : (s.setAlarms x).events = s.events := rfl
@[simp] theorem setAlarms_alarms (s : State) (x : Alarms) : (s.setAlarms x).alarms = x := rfl
@[simp] theorem setAlarms_pending (s : State) (x : Alarms) : (s.setAlarms x).pending = s.pending := rfl

@[simp] theorem setPending_pins (s : State) (x : List Instr) : (s.setPending x).pins = s.pins := rfl
@[simp] theorem setPending_mem (s : State) (x : List Instr) : (s.setPending x).mem = s.mem := rfl
@[simp] theorem setPending_dec (s : State) (x : List Instr) : (s.setPending x).dec = s.dec := rfl
@[simp] theorem setPending_capture (s : State) (x : List Instr) : (s.setPending x).capture = s.capture := rfl
@[simp] theorem setPending_table (s : State) (x : List Instr) : (s.setPending x).table = s.table := rfl
@[simp] theorem setPending_queue (s : State) (x : List Instr) : (s.setPending x).queue = s.queue := rfl
@[simp] theorem setPending_ctl (s : State) (x : List Instr) : (s.setPending x).ctl = s.ctl := rfl
@[simp] theorem setPending_engine (s : State) (x : List Instr) : (s.setPending x).engine = s.engine := rfl
@[simp] theorem setPending_header (s : State) (x : List Instr) : (s.setPending x).header = s.header := rfl
@[simp] theorem setPending_port (s : State) (x : List Instr) : (s.setPending x).port = s.port := rfl
@[simp] theorem setPending_host (s : State) (x : List Instr) : (s.setPending x).host = s.host := rfl
@[simp] theorem setPending_link (s : State) (x : List Instr) : (s.setPending x).link = s.link := rfl
@[simp] theorem setPending_events (s : State) (x : List Instr) : (s.setPending x).events = s.events := rfl
@[simp] theorem setPending_alarms (s : State) (x : List Instr) : (s.setPending x).alarms = s.alarms := rfl
@[simp] theorem setPending_pending (s : State) (x : List Instr) : (s.setPending x).pending = x := rfl

end Sys2Proof.Machine
end

