-- ==== Sys2Proof/Laws/Host.lean ====
section
/-! SUPPORT. The host port's and the epoch port's shared operations, each said once in the words the statements use. -/

namespace Sys2Proof.Machine

/-! ### Ending and answering beats -/

/-- The end of a cycle by a final response (R138, R150). -/
theorem closeBeat_eq (s : State) (r : HostResponse) (d : LaneData) : s.closeBeat r d = s.closed r d := rfl

/-- A host read left twice is left once (R150). -/
theorem leftRead_leftRead (h : HostPort) : HostPort.leftRead { h with read := h.leftRead } = h.leftRead := by
  unfold HostPort.leftRead
  cases hr : h.read with
  | none => rfl
  | some r => cases hg : r.granted <;> simp [hg]

/-- A response that ends the cycle ends a truncated one no differently (R140). -/
theorem truncate_closeBeat (s : State) (r : HostResponse) (d : LaneData) : s.truncate.closeBeat r d = s.closed r d := by
  rw [closeBeat_eq]
  unfold State.truncate
  split
  · cases hr : s.host.read with
    | none => simp [State.closed, State.endCycle, State.setHost, HostPort.leftRead, hr]
    | some r => cases hg : r.granted <;> simp [State.closed, State.endCycle, State.setHost, HostPort.leftRead, hr, hg]
  · rfl

/-- A response in OPEN's middle of a cycle (R138, R141). -/
theorem finishBeat_eq {s : State} {c : Cycle} (d : LaneData) (h : s.host.cycle = some c) :
    s.finishBeat d = s.answered c d := by
  unfold State.finishBeat State.answered
  rw [h]
  rfl

/-- WAIT (R138). -/
theorem holdBeat_eq (s : State) (b : Beat) (r : WaitReason) : s.holdBeat b r = s.held { b with reason := r } := rfl

/-- A first beat accepted (R139, R140). -/
theorem beginCycle_eq (s : State) (c : Cycle) (p : Portion) : s.truncate.beginCycle c p = s.began c p := by
  unfold State.truncate State.began
  split <;> rfl

@[simp] theorem began_cycle (s : State) (c : Cycle) (p : Portion) : (s.began c p).host.cycle = some c := rfl
@[simp] theorem began_portion (s : State) (c : Cycle) (p : Portion) : (s.began c p).host.portion = some p := rfl
@[simp] theorem began_gate (s : State) (c : Cycle) (p : Portion) : (s.began c p).host.gate = none := rfl
@[simp] theorem began_beat (s : State) (c : Cycle) (p : Portion) : (s.began c p).host.beat = none := rfl
@[simp] theorem began_buffer (s : State) (c : Cycle) (p : Portion) : (s.began c p).host.buffer = [] := rfl
@[simp] theorem began_queue (s : State) (c : Cycle) (p : Portion) : (s.began c p).queue = s.queue := by
  unfold State.began; split <;> rfl
@[simp] theorem began_table (s : State) (c : Cycle) (p : Portion) : (s.began c p).table = s.table := by
  unfold State.began; split <;> rfl
@[simp] theorem began_ctl (s : State) (c : Cycle) (p : Portion) : (s.began c p).ctl = s.ctl := by
  unfold State.began; split <;> rfl
@[simp] theorem began_dec (s : State) (c : Cycle) (p : Portion) : (s.began c p).dec = s.dec := by
  unfold State.began; split <;> rfl
@[simp] theorem began_capture (s : State) (c : Cycle) (p : Portion) : (s.began c p).capture = s.capture := by
  unfold State.began; split <;> rfl
@[simp] theorem began_header (s : State) (c : Cycle) (p : Portion) : (s.began c p).header = s.header := by
  unfold State.began; split <;> rfl

/-- The bytes of a beat into the queue (R43, R145). -/
theorem post_eq (s : State) (word : Nat) (b : Beat) (cls : DecodeClass) (gate : Gate) :
    s.post word b cls gate = s.posted word b.lanes b.data cls gate := rfl

/-- After a final response no beat is presented, so nothing of the host port stirs. -/
theorem closed_rests (s : State) (r : HostResponse) (d : LaneData) : (s.closed r d).rests := by
  intro c hc
  simp [State.closed] at hc

theorem answered_rests (s : State) (c : Cycle) (d : LaneData) : (s.answered c d).rests := by
  unfold State.answered
  split
  · exact closed_rests _ _ _
  · split
    · exact closed_rests _ _ _
    · intro _ _ b hb
      simp at hb

/-! ### The operation in progress -/

/-- A command that names an operation's event has its effect where that operation is underway. -/
theorem onOperation_underway {s : State} {k : OpKind} {o : MemOp} (f : MemOp → State)
    (h : s.completing k = .underway o) : s.onOperation k f = .next (f o) := by
  simp [State.onOperation, h]

/-- What it is for an operation to be underway: it is in progress, of the kind, its owner waits for it, and it lies inside
the memory (R2, R152). -/
theorem completing_underway {s : State} {k : OpKind} {o : MemOp} :
    s.completing k = .underway o ↔
      s.port.op = some o ∧ o.kind = k ∧ s.ownerWaits k = true ∧ o.inside s.size = true := by
  unfold State.completing State.size
  cases h : s.port.op with
  | none => simp
  | some p =>
    dsimp only
    by_cases hp : p.kind = k ∧ s.ownerWaits k = true
    · rw [if_pos hp]
      by_cases hi : p.inside (s.dec.memorySize.getD 0) = true
      · rw [if_pos hi]
        simp only [Completion.underway.injEq, Option.some.injEq]
        constructor
        · rintro rfl; exact ⟨rfl, hp.1, hp.2, hi⟩
        · rintro ⟨rfl, -⟩; rfl
      · rw [if_neg hi]
        simp only [reduceCtorEq, Option.some.injEq, false_iff]
        rintro ⟨rfl, -, -, h⟩
        exact hi h
    · rw [if_neg hp]
      simp only [reduceCtorEq, Option.some.injEq, false_iff]
      rintro ⟨rfl, hk, hw, -⟩
      exact hp ⟨hk, hw⟩

/-- The port's part of a completion (R152, R156). -/
theorem finishOp_eq (s : State) (o : MemOp) : s.finishOp o = s.ended o := rfl

/-- A completion outside PARKING is followed by the event's tests. -/
theorem afterCompletion_settle {s t : State} (h : t.ctl.state ≠ .parking) :
    State.afterCompletion s t = State.settle s t := if_neg h

/-- One in PARKING parks the device (R130, R132). -/
theorem afterCompletion_parking {s t : State} (h : t.ctl.state = .parking) :
    State.afterCompletion s t = t.enterParked := if_pos h

/-- A drain write's entries gone (R67, R160). -/
theorem keepEntries_eq (s : State) (o : MemOp) :
    (s.finishOp o).keepEntries (fun e => !e.draining) = s.drained o := by
  unfold State.keepEntries State.drained State.ended State.finishOp
  simp [List.isEmpty_iff]

/-! ### The epoch control port -/

/-- An answer driven (R79). -/
theorem driveAnswer_eq (s : State) (op : Operation) (r : EpochResult) : s.driveAnswer op r = s.answers op r := rfl

/-- An abandoned request's result recorded (R80). -/
theorem recordResult_eq (s : State) (a : Answer) : s.recordResult a = s.recorded a.op a.result := by
  unfold State.recordResult State.recorded detail4
  simp [State.raise]
  split <;> rfl

/-- A rising edge settles what the port makes of it (R76, R78). -/
theorem requestEdge_eq {s : State} {op : Operation} (hr : s.pins.resetLow = false) (he : s.pins.ereq = false) :
    s.requestEdge op = State.settle s ((s.edge op).risingEdge op) := by
  unfold State.requestEdge
  rw [if_neg (by simp [hr, he])]
  rfl

/-! ### Gates -/

/-- Gates change in the queue and on the portion gate alike (R49, R63). -/
theorem mapGates_eq (s : State) (f : Gate → Gate) : s.mapGates f = s.turned f := rfl

/-- The gates TIED to one granule turn, and no others (R63). -/
theorem retied_one (g : Nat) (turned : Gate) (gate : Gate) :
    Gate.retied [g] turned gate = if gate = .tied g then turned else gate := by
  cases gate with
  | opened => simp [Gate.retied]
  | waitMark => simp [Gate.retied]
  | tied k => by_cases h : k = g <;> simp [Gate.retied, h]

/-- The WAIT_MARK gates open, and no others change (R63). -/
theorem afterMark_eq (gate : Gate) : Gate.afterMark gate = if gate = .waitMark then .opened else gate := by
  cases gate <;> simp [Gate.afterMark]

end Sys2Proof.Machine
end

