-- ==== Sys2Proof/Laws/Settle.lean ====
section
/-! SUPPORT. What ends an event (Settle.lean): which blocks each test leaves alone, and one lemma that says all that the
tests and the grant can change where the presented beat does not stir. -/

namespace Sys2Proof.Machine

/-! ### Raising an event and the watermark test -/

/-- Raising an event touches the event queue alone (R172). -/
@[simp] theorem raise_keeps (s : State) (k : EventKind) (e : BitVec 48) (d : BitVec 32) :
    (s.raise k e d).pins = s.pins ∧ (s.raise k e d).mem = s.mem ∧ (s.raise k e d).dec = s.dec
      ∧ (s.raise k e d).capture = s.capture ∧ (s.raise k e d).table = s.table ∧ (s.raise k e d).queue = s.queue
      ∧ (s.raise k e d).ctl = s.ctl ∧ (s.raise k e d).engine = s.engine ∧ (s.raise k e d).header = s.header
      ∧ (s.raise k e d).port = s.port ∧ (s.raise k e d).host = s.host ∧ (s.raise k e d).link = s.link
      ∧ (s.raise k e d).alarms = s.alarms ∧ (s.raise k e d).pending = s.pending := by
  unfold State.raise; split <;> and_intros <;> rfl

/-- Where fewer than 16 records stand, the event joins behind them (R172). -/
theorem raise_joins {s : State} {k : EventKind} {e : BitVec 48} {d : BitVec 32} (h : s.events.records.length < 16) :
    s.raise k e d = s.setEvents { s.events with records := s.events.records ++ [⟨k, e, d⟩] } := if_pos h

/-- Where 16 stand, it is lost (R172). -/
theorem raise_lost {s : State} {k : EventKind} {e : BitVec 48} {d : BitVec 32} (h : 16 ≤ s.events.records.length) :
    s.raise k e d = s.setEvents { s.events with lost := true } := if_neg (Nat.not_lt.2 h)

/-- The watermark test touches the alarm conditions alone (R35). -/
@[simp] theorem watermarkTest_keeps (s : State) :
    s.watermarkTest.pins = s.pins ∧ s.watermarkTest.mem = s.mem ∧ s.watermarkTest.dec = s.dec
      ∧ s.watermarkTest.capture = s.capture ∧ s.watermarkTest.table = s.table ∧ s.watermarkTest.queue = s.queue
      ∧ s.watermarkTest.ctl = s.ctl ∧ s.watermarkTest.engine = s.engine ∧ s.watermarkTest.header = s.header
      ∧ s.watermarkTest.port = s.port ∧ s.watermarkTest.host = s.host ∧ s.watermarkTest.link = s.link
      ∧ s.watermarkTest.events = s.events ∧ s.watermarkTest.pending = s.pending := by
  unfold State.watermarkTest
  split
  · split <;> and_intros <;> rfl
  · and_intros <;> rfl

/-- The watermark test sets WATERMARK or changes nothing (R35). -/
theorem watermarkTest_cases (s : State) :
    s.watermarkTest = s ∨ s.watermarkTest = s.setAlarms { s.alarms with watermark := true } := by
  unfold State.watermarkTest
  split
  · split
    · exact .inr rfl
    · exact .inl rfl
  · exact .inl rfl

/-! ### Taking a capture -/

/-- Taking a capture touches the capture unit alone, and not the tail (R26). -/
@[simp] theorem takeCapture_keeps (s : State) :
    s.takeCapture.pins = s.pins ∧ s.takeCapture.mem = s.mem ∧ s.takeCapture.dec = s.dec
      ∧ s.takeCapture.table = s.table ∧ s.takeCapture.queue = s.queue ∧ s.takeCapture.ctl = s.ctl
      ∧ s.takeCapture.engine = s.engine ∧ s.takeCapture.header = s.header ∧ s.takeCapture.port = s.port
      ∧ s.takeCapture.host = s.host ∧ s.takeCapture.link = s.link ∧ s.takeCapture.events = s.events
      ∧ s.takeCapture.alarms = s.alarms ∧ s.takeCapture.pending = s.pending
      ∧ s.takeCapture.capture.tail = s.capture.tail := by
  unfold State.takeCapture
  split
  · split <;> and_intros <;> rfl
  · and_intros <;> rfl

/-- A unit that is not IDLE takes no capture (R26). -/
theorem takeCapture_busy {s : State} (h : s.capture.phase ≠ .idle) : s.takeCapture = s := if_neg fun c => h c.1

/-- What taking a capture does (R26): the oldest CAPTURING entry is read for, where the unit is IDLE, in OPEN or DRAINING
under INTACT. -/
theorem takeCapture_takes {s : State} {e : TableEntry} (hp : s.capture.phase = .idle)
    (hd : s.ctl.state = .opened ∨ s.ctl.state = .draining) (hs : s.table.status = some .intact)
    (he : s.table.oldestCapturing = some e) :
    s.takeCapture = s.setCapture { s.capture with
      phase := .reading, granule := some e.granule, granted := false, stop := false } := by
  unfold State.takeCapture
  rw [if_pos ⟨hp, hd, hs⟩, he]

/-! ### The commit's wait and the rollback's tests -/

/-- Requesting a seal touches the device state and the header unit alone (R87, R104). -/
@[simp] theorem requestSeal_keeps (s : State) :
    s.requestSeal.pins = s.pins ∧ s.requestSeal.mem = s.mem ∧ s.requestSeal.dec = s.dec
      ∧ s.requestSeal.capture = s.capture ∧ s.requestSeal.table = s.table ∧ s.requestSeal.queue = s.queue
      ∧ s.requestSeal.engine = s.engine ∧ s.requestSeal.port = s.port ∧ s.requestSeal.host = s.host
      ∧ s.requestSeal.link = s.link ∧ s.requestSeal.events = s.events ∧ s.requestSeal.alarms = s.alarms
      ∧ s.requestSeal.pending = s.pending := by
  and_intros <;> rfl

/-- The commit's test touches what the request of the seal touches (R86). -/
@[simp] theorem commitTest_keeps (s : State) :
    s.commitTest.pins = s.pins ∧ s.commitTest.mem = s.mem ∧ s.commitTest.dec = s.dec
      ∧ s.commitTest.capture = s.capture ∧ s.commitTest.table = s.table ∧ s.commitTest.queue = s.queue
      ∧ s.commitTest.engine = s.engine ∧ s.commitTest.port = s.port ∧ s.commitTest.host = s.host
      ∧ s.commitTest.link = s.link ∧ s.commitTest.events = s.events ∧ s.commitTest.alarms = s.alarms
      ∧ s.commitTest.pending = s.pending := by
  unfold State.commitTest
  split <;> and_intros <;> rfl

/-- The commit's test enters SEALING with its seal requested, from DRAINING alone, or changes nothing (R86, R87). -/
theorem commitTest_cases (s : State) :
    s.commitTest = s ∨ (s.ctl.state = .draining ∧ s.commitTest = s.requestSeal) := by
  unfold State.commitTest
  split
  · rename_i h
    refine .inr ⟨?_, rfl⟩
    simp only [State.commitReady, Bool.and_eq_true, beq_iff_eq] at h
    exact h.1.1.1.1
  · exact .inl rfl

/-- The beginning of a walk touches the rollback engine alone (R97, R99). -/
@[simp] theorem beginWalk_keeps (s : State) :
    s.beginWalk.pins = s.pins ∧ s.beginWalk.mem = s.mem ∧ s.beginWalk.dec = s.dec ∧ s.beginWalk.capture = s.capture
      ∧ s.beginWalk.table = s.table ∧ s.beginWalk.queue = s.queue ∧ s.beginWalk.ctl = s.ctl
      ∧ s.beginWalk.header = s.header ∧ s.beginWalk.port = s.port ∧ s.beginWalk.host = s.host
      ∧ s.beginWalk.link = s.link ∧ s.beginWalk.events = s.events ∧ s.beginWalk.alarms = s.alarms
      ∧ s.beginWalk.pending = s.pending := by
  unfold State.beginWalk
  dsimp only
  split
  · simp [State.finishWalk]
  · and_intros <;> rfl

/-- The rollback's tests touch the engine, the device state and the header unit alone (R97, R104). -/
@[simp] theorem rollbackTest_keeps (s : State) :
    s.rollbackTest.pins = s.pins ∧ s.rollbackTest.mem = s.mem ∧ s.rollbackTest.dec = s.dec
      ∧ s.rollbackTest.capture = s.capture ∧ s.rollbackTest.table = s.table ∧ s.rollbackTest.queue = s.queue
      ∧ s.rollbackTest.port = s.port ∧ s.rollbackTest.host = s.host ∧ s.rollbackTest.link = s.link
      ∧ s.rollbackTest.events = s.events ∧ s.rollbackTest.alarms = s.alarms ∧ s.rollbackTest.pending = s.pending := by
  unfold State.rollbackTest
  dsimp only
  split <;> split <;> simp

/-- The rollback's tests touch nothing outside ROLLING_BACK (R97, R104). -/
theorem rollbackTest_elsewhere {s : State} (h : s.ctl.state ≠ .rollingBack) : s.rollbackTest = s := by
  have hs : s.settled = false := by simp [State.settled, h]
  simp [State.rollbackTest, hs, h]

/-- In ROLLING_BACK they begin the walk, or request the seal and enter SEALING, or both, or neither (R97, R104). -/
theorem rollbackTest_cases (s : State) :
    s.rollbackTest = s ∨ s.rollbackTest = s.beginWalk ∨ s.rollbackTest = s.requestSeal
      ∨ s.rollbackTest = s.beginWalk.requestSeal := by
  unfold State.rollbackTest
  dsimp only
  split <;> split <;> simp

/-! ### The arbiter -/

/-- The news of a grant touches the requesters alone (R157). -/
@[simp] theorem tellGranted_keeps (s : State) (r : Requester) :
    (s.tellGranted r).pins = s.pins ∧ (s.tellGranted r).mem = s.mem ∧ (s.tellGranted r).dec = s.dec
      ∧ (s.tellGranted r).table = s.table ∧ (s.tellGranted r).ctl = s.ctl ∧ (s.tellGranted r).port = s.port
      ∧ (s.tellGranted r).link = s.link ∧ (s.tellGranted r).events = s.events ∧ (s.tellGranted r).alarms = s.alarms
      ∧ (s.tellGranted r).pending = s.pending := by
  cases r <;> simp only [State.tellGranted] <;> (repeat' split) <;> and_intros <;> rfl

/-- A grant touches the port and the requesters alone (R159). -/
@[simp] theorem grant_keeps (s : State) (r : Requester) (o : MemOp) :
    (s.grant r o).pins = s.pins ∧ (s.grant r o).mem = s.mem ∧ (s.grant r o).dec = s.dec
      ∧ (s.grant r o).table = s.table ∧ (s.grant r o).ctl = s.ctl ∧ (s.grant r o).link = s.link
      ∧ (s.grant r o).events = s.events ∧ (s.grant r o).alarms = s.alarms ∧ (s.grant r o).pending = s.pending := by
  simp [State.grant]

/-- The arbiter grants one standing request on an IDLE port, outside PARKING and PARKED, or does nothing (R128, R159). -/
theorem arbitrate_cases (s : State) :
    s.arbitrate = s ∨ ∃ r o, s.port.op = none ∧ s.ctl.state ≠ .parking ∧ s.ctl.state ≠ .parked ∧ s.choice = some r
      ∧ s.standing r = some o ∧ s.arbitrate = s.grant r o := by
  unfold State.arbitrate
  split
  · exact .inl rfl
  · rename_i h
    push Not at h
    split
    · exact .inl rfl
    · rename_i r hr
      split
      · exact .inl rfl
      · rename_i o ho
        refine .inr ⟨r, o, ?_, h.2.1, h.2.2, hr, ho, rfl⟩
        simpa using h.1

/-- The arbiter leaves a port that operates alone (R161). -/
theorem arbitrate_busy {s : State} (h : s.port.op.isSome) : s.arbitrate = s := if_pos (.inl h)

/-- So does the arbiter (R159). -/
@[simp] theorem arbitrate_keeps (s : State) :
    s.arbitrate.pins = s.pins ∧ s.arbitrate.mem = s.mem ∧ s.arbitrate.dec = s.dec ∧ s.arbitrate.table = s.table
      ∧ s.arbitrate.ctl = s.ctl ∧ s.arbitrate.link = s.link ∧ s.arbitrate.events = s.events
      ∧ s.arbitrate.alarms = s.alarms ∧ s.arbitrate.pending = s.pending := by
  rcases arbitrate_cases s with h | ⟨r, o, -, -, -, -, -, h⟩ <;> simp [h]

/-- Taking entries into a drain write moves only their draining marks (R66). -/
theorem markDraining_undrained (n : Nat) (es : List QueueEntry) :
    (markDraining n es).map QueueEntry.undrained = es.map QueueEntry.undrained := by
  have h : QueueEntry.undrained ∘ (fun e : QueueEntry => { e with draining := true }) = QueueEntry.undrained := rfl
  rw [markDraining, List.map_append, List.map_map, h, ← List.map_append, List.take_append_drop]

theorem grant_capture (s : State) (r : Requester) (o : MemOp) :
    (s.grant r o).capture = { s.capture with granted := (s.grant r o).capture.granted } := by
  cases r <;> simp only [State.grant, State.tellGranted] <;> (repeat' split) <;> rfl

theorem grant_engine (s : State) (r : Requester) (o : MemOp) :
    (s.grant r o).engine = { s.engine with granted := (s.grant r o).engine.granted } := by
  cases r <;> simp only [State.grant, State.tellGranted] <;> (repeat' split) <;> rfl

theorem grant_header (s : State) (r : Requester) (o : MemOp) :
    (s.grant r o).header = { s.header with
      writeRequest := (s.grant r o).header.writeRequest, readRequest := (s.grant r o).header.readRequest } := by
  cases r <;> simp only [State.grant, State.tellGranted] <;> (repeat' split) <;> rfl

theorem grant_host (s : State) (r : Requester) (o : MemOp) :
    (s.grant r o).host = { s.host with read := (s.grant r o).host.read } := by
  cases r <;> simp only [State.grant, State.tellGranted] <;> (repeat' split) <;> rfl

theorem grant_queue (s : State) (r : Requester) (o : MemOp) :
    (s.grant r o).queue = { s.queue with entries := (s.grant r o).queue.entries }
      ∧ (s.grant r o).queue.entries.map QueueEntry.undrained = s.queue.entries.map QueueEntry.undrained := by
  cases r <;> simp only [State.grant, State.tellGranted] <;> (repeat' split) <;>
    first | exact ⟨rfl, rfl⟩ | exact ⟨rfl, markDraining_undrained _ _⟩

/-! ### The beat that does not stir -/

/-- A presented beat that does not stir is not offered again (R62). -/
theorem reoffer_rests {u t : State} (h : t.rests) : State.reoffer u t = t := by
  unfold State.reoffer
  split
  · rename_i c p b hc hp hb
    rw [if_neg]
    rintro ⟨-, hw, -⟩
    have := (h c (by simp [hc]) b (by simp [hb])).1
    simp [hw] at this
  · rfl

/-- Nor is it released from the queue (R69). -/
theorem releaseRead_rests {u : State} (h : u.rests) : u.releaseRead = u := by
  unfold State.releaseRead
  split
  · rename_i c b hc hb
    rw [if_neg]
    rintro ⟨-, hr, hm⟩
    have := (h c (by simp [hc]) b (by simp [hb])).2 hr
    simp [List.isEmpty_iff] at hm
    exact this hm
  · rfl

/-- Whether a read beat rests turns only on the words of the queue and on the beat. -/
theorem rests_of_eq {u t : State} (h : u.rests) (hc : t.host.cycle = u.host.cycle) (hb : t.host.beat = u.host.beat)
    (hq : t.queue.entries.map QueueEntry.undrained = u.queue.entries.map QueueEntry.undrained) : t.rests := by
  intro c hc' b hb'
  rw [hc] at hc'
  rw [hb] at hb'
  refine ⟨(h c hc' b hb').1, fun hr hm => (h c hc' b hb').2 hr ?_⟩
  have key : ∀ q : PostingQueue, (q.matching c.word).map QueueEntry.undrained
      = (q.entries.map QueueEntry.undrained).filter (fun e => e.word == c.word) := by
    intro q
    simp [PostingQueue.matching, List.filter_map, Function.comp_def, QueueEntry.undrained]
  have := key u.queue
  rw [← hq, ← key t.queue, hm] at this
  simpa using this

/-! ### The end of an event -/

/-- All that the tests and the grant that end an event can change, where the presented beat does not stir (R26, R86, R97,
R104, R159). -/
theorem settle_endsIn (before : State) {u : State} (hu : u.rests) : u.endsIn (State.settle before u) := by
  have h1 : State.settle before u = u.takeCapture.commitTest.rollbackTest.grantAndOffer := by
    rw [State.settle, reoffer_rests hu, releaseRead_rests hu]
  rw [h1, State.grantAndOffer]
  generalize hc : u.takeCapture.commitTest.rollbackTest = c
  -- the state before the grant
  have cq : c.queue = u.queue := by rw [← hc]; simp
  have chost : c.host = u.host := by rw [← hc]; simp
  have cport : c.port = u.port := by rw [← hc]; simp
  have ccap : c.capture = u.takeCapture.capture := by rw [← hc]; simp
  have cctl : c.ctl = { u.ctl with state := c.ctl.state }
      ∧ (c.ctl.state = u.ctl.state
        ∨ ((u.ctl.state = .draining ∨ u.ctl.state = .rollingBack) ∧ c.ctl.state = .sealing)) := by
    rw [← hc]
    rcases commitTest_cases u.takeCapture with h | ⟨hd, h⟩ <;> rw [h]
    · rcases rollbackTest_cases u.takeCapture with h | h | h | h <;> rw [h]
      · simp
      · simp
      · by_cases hr : u.takeCapture.ctl.state = .rollingBack
        · simp only [takeCapture_keeps] at hr
          refine ⟨?_, .inr ⟨.inr hr, ?_⟩⟩ <;> simp [State.requestSeal, State.requestWrite]
        · rw [rollbackTest_elsewhere hr] at h; rw [← h]; simp
      · by_cases hr : u.takeCapture.ctl.state = .rollingBack
        · simp only [takeCapture_keeps] at hr
          refine ⟨?_, .inr ⟨.inr hr, ?_⟩⟩ <;> simp [State.requestSeal, State.requestWrite]
        · rw [rollbackTest_elsewhere hr] at h; rw [← h]; simp
    · rw [rollbackTest_elsewhere (by simp [State.requestSeal, State.requestWrite])]
      simp only [takeCapture_keeps] at hd
      refine ⟨?_, .inr ⟨.inl hd, ?_⟩⟩ <;> simp [State.requestSeal, State.requestWrite]
  have chead : c.header = { u.header with writeRequest := c.header.writeRequest, readRequest := c.header.readRequest } := by
    rw [← hc]
    have hb : ∀ s : State, s.requestSeal.header
        = { s.header with writeRequest := s.requestSeal.header.writeRequest } := fun _ => rfl
    rcases commitTest_cases u.takeCapture with h | ⟨hd, h⟩ <;> rw [h]
    · rcases rollbackTest_cases u.takeCapture with h | h | h | h <;> rw [h]
      · simp
      · simp
      · rw [hb]; simp
      · rw [hb]; simp
    · rw [rollbackTest_elsewhere (by simp [State.requestSeal, State.requestWrite]), hb]; simp
  have ceng : u.ctl.state ≠ .rollingBack → c.engine = u.engine := by
    intro hr
    rw [← hc, rollbackTest_elsewhere]
    · simp
    · rcases commitTest_cases u.takeCapture with h | ⟨hd, h⟩ <;> rw [h]
      · simpa using hr
      · simp [State.requestSeal, State.requestWrite]
  have cframe : c.pins = u.pins ∧ c.mem = u.mem ∧ c.dec = u.dec ∧ c.table = u.table ∧ c.link = u.link
      ∧ c.events = u.events ∧ c.alarms = u.alarms ∧ c.pending = u.pending := by
    rw [← hc]; simp
  -- the grant
  have ga : c.arbitrate.capture = { c.capture with granted := c.arbitrate.capture.granted }
      ∧ c.arbitrate.engine = { c.engine with granted := c.arbitrate.engine.granted }
      ∧ c.arbitrate.header = { c.header with
          writeRequest := c.arbitrate.header.writeRequest, readRequest := c.arbitrate.header.readRequest }
      ∧ c.arbitrate.host = { c.host with read := c.arbitrate.host.read }
      ∧ c.arbitrate.queue = { c.queue with entries := c.arbitrate.queue.entries }
      ∧ c.arbitrate.queue.entries.map QueueEntry.undrained = c.queue.entries.map QueueEntry.undrained := by
    rcases arbitrate_cases c with h | ⟨r, o, -, -, -, -, -, h⟩ <;> rw [h]
    · exact ⟨rfl, rfl, rfl, rfl, rfl, rfl⟩
    · exact ⟨grant_capture .., grant_engine .., grant_header .., grant_host .., (grant_queue ..).1, (grant_queue ..).2⟩
  obtain ⟨gcap, geng, ghead, ghost, gq, gqe⟩ := ga
  have hrest : c.arbitrate.rests :=
    rests_of_eq hu (by rw [ghost, chost]) (by rw [ghost, chost]) (by rw [gqe, cq])
  rw [reoffer_rests hrest]
  obtain ⟨-, -, -, -, kqueue, kctl, kengine, kheader, -, khost, -, -, -, -, ktail⟩ := takeCapture_keeps c.arbitrate
  have actl : c.arbitrate.ctl = c.ctl := by simp
  obtain ⟨f1, f2, f3, f4, f5, f6, f7, f8⟩ := cframe
  refine ⟨by simp [f1], by simp [f2], by simp [f3], by simp [f4], by simp [f5], by simp [f6], by simp [f7], by simp [f8],
    ?_, ?_, ?_, ?_, ?_, ?_, ?_, ?_, ?_, ?_⟩
  · rw [kqueue, gq, cq]
  · rw [kqueue, gqe, cq]
  · rw [kctl, actl]; exact cctl.1
  · rw [kctl, actl]; exact cctl.2
  · rw [kheader, ghead, chead]
  · rw [khost, ghost, chost]
  · rw [ktail, gcap, ccap]; simp
  · intro hp
    have hcu : c.capture = u.capture := by rw [ccap, takeCapture_busy hp]
    have : c.arbitrate.takeCapture = c.arbitrate := takeCapture_busy (by rw [gcap, hcu]; exact hp)
    rw [this, gcap, hcu]
  · intro hr
    rw [kengine, geng, ceng hr]
  · intro hp
    have : c.arbitrate = c := arbitrate_busy (by rw [cport]; exact hp)
    rw [this]
    simp [cport, cq]

end Sys2Proof.Machine
end

