-- ==== Sys2Proof/Laws/Link.lean ====
section
/-! SUPPORT. What the link's, the start-up's and the output lines' shared operations do. -/

namespace Sys2Proof.Machine

/-! ### A link command's event -/

/-- A command whose bytes select it is taken in a frame being received (R163, R165). -/
theorem onLink_taken {s : State} {i : Instr} {sent : List Byte} (effect : List Byte → State) (hb : linkBytes i = some sent)
    (hc : linkCommand sent = some i) (hr : s.linkReceiving = true) : s.onLink i effect = .next (effect sent) := by
  simp [State.onLink, hb, hc, hr]

/-- Elsewhere nothing happens (log 5). -/
theorem onLink_elsewhere {s : State} (i : Instr) (effect : List Byte → State) (h : s.linkReceiving = false) :
    s.onLink i effect = .next s := by
  unfold State.onLink
  split <;> simp [h]

/-- A byte R165 names is no unknown command's (R165). -/
theorem onLink_named {s : State} {i j : Instr} {sent : List Byte} (effect : List Byte → State)
    (hb : linkBytes i = some sent) (hc : linkCommand sent = some j) (hn : j ≠ i) : s.onLink i effect = .next s := by
  simp [State.onLink, hb, hc, hn]

theorem respond_eq (s : State) (sent : List Byte) (result : Byte) (data : List Byte) :
    s.respond sent result data = s.responds sent (result :: data) := rfl

/-! ### The start of a start-up -/

/-- The strap's code is legal unless it is 7 (R1). -/
theorem memorySizeOf_eq (msz : BitVec 3) : memorySizeOf msz = if msz = 7#3 then none else some (2 ^ (20 + msz.toNat)) := by
  revert msz
  decide

/-- With a legal code the strap sample sets the memory size and requests the read of slot A, and touches nothing else (R1,
R115). -/
theorem sampleStrap_legal {s : State} (h : s.pins.msz ≠ 7#3) :
    s.sampleStrap = (s.setDec { s.dec with memorySize := some (2 ^ (20 + s.pins.msz.toNat)) }).setHeader
      { s.header with readRequest := some ⟨.a, false⟩ } := by
  simp [State.sampleStrap, memorySizeOf_eq, h]

/-- With code 7 the device enters FAULT with reason STRAP and the start-up ends (R1, R81). -/
theorem sampleStrap_illegal {s : State} (h : s.pins.msz = 7#3) : s.sampleStrap = (s.enterFault .strap).endStartUp := by
  simp [State.sampleStrap, memorySizeOf_eq, h]

/-- With PFW taken before the strap sample nothing is requested (R127). -/
theorem parkAtStart_pfwFirst (s : State) : s.parkAtStart .pfwFirst = s.enterParking.noteParked := rfl

/-! ### Entering PARKED and restarting -/

/-- PARKED is entered with POWER_PARKED (R132). -/
theorem noteParked_eq (s : State) : s.noteParked = s.parked := rfl

/-- Under an asserted PFW the device stays PARKED (R132). -/
theorem enterParked_held {s : State} (h : s.pins.pfw = true) : s.enterParked = s.parked := if_pos h

/-- With PFW released meanwhile it restarts at once (R133). -/
theorem enterParked_released {s : State} (h : s.pins.pfw = false) (ha : s.ctl.again = none) :
    s.enterParked = s.parked.volatileReset.startUp := by
  simp [State.enterParked, h, ha, State.beginRestart, noteParked_eq]

/-- And PFW may be there again on its first sample (R127). -/
theorem enterParked_again {s : State} {order : StartOrder} (h : s.pins.pfw = false) (ha : s.ctl.again = some order) :
    s.enterParked = (s.parked.volatileReset.setPins { s.parked.pins with pfw := true }).parkAtStart order := by
  simp [State.enterParked, h, ha, State.beginRestart, noteParked_eq]

/-- What the status record shows of the device state (R94, R171). -/
theorem shows_iff (s : State) (d : DeviceState) : s.shows d ↔ d = s.shownState := by
  unfold State.shows State.shownState
  split <;> rfl

/-! ### The memory port's lines -/

/-- The inactive levels stand with the port IDLE, as in PARKED (R132, R152). -/
theorem memoryLines_idle {s : State} (p : Period) (hr : s.pins.resetLow = false) (ho : s.port.op = none) :
    s.memoryLines p = .inactive s.port.address := by
  simp [State.memoryLines, hr, ho]

/-- They stand under RESETN with MA at 0 (R134). -/
theorem memoryLines_reset {s : State} (p : Period) (hr : s.pins.resetLow = true) : s.memoryLines p = .inactive 0#24 := by
  simp [State.memoryLines, hr]

/-- Else the lines are those of the operation in progress (R152). -/
theorem memoryLines_operation {s : State} {o : MemOp} (p : Period) (hr : s.pins.resetLow = false)
    (ho : s.port.op = some o) : s.memoryLines p = o.lines p := by
  simp [State.memoryLines, hr, ho]

/-- A strobe is low in a beat period alone, MRDN's for a read and MWRN's for a write (R152). -/
theorem lines_strobes (o : MemOp) (k : Nat) :
    (o.lines .address).mrdn = true ∧ (o.lines .address).mwrn = true ∧ (o.lines .turnaround).mrdn = true
      ∧ (o.lines .turnaround).mwrn = true ∧ (o.lines (.beat k)).mrdn = o.kind.isWrite
      ∧ (o.lines (.beat k)).mwrn = !o.kind.isWrite :=
  ⟨rfl, rfl, rfl, rfl, rfl, rfl⟩

end Sys2Proof.Machine
end

