-- ==== Sys2Proof/Laws/Memory.lean ====
section
/-! SUPPORT. The laws of the persistent memory: reading back what is written, what a write leaves alone, and the canonical
form, which every memory operation keeps. -/

namespace Sys2Proof.Machine

/-! ### One byte -/

/-- A memory in canonical form, taken apart at its first entry. -/
theorem Memory.wf_cons {k : Nat} {v : Byte} {rest : Memory} :
    Memory.wf ((k, v) :: rest) = true ↔ v ≠ Config.freshByte ∧ (∀ c ∈ rest, k < c.1) ∧ Memory.wf rest = true := by
  simp [Memory.wf, Bool.and_eq_true, and_assoc]

/-- An address below every listed one reads as an unlisted address does. -/
theorem Memory.read_below {m : Memory} {a : Nat} (h : ∀ c ∈ m, a < c.1) : m.read a = Config.freshByte := by
  induction m with
  | nil => rfl
  | cons c rest ih =>
    obtain ⟨k, v⟩ := c
    have : k ≠ a := by have := h (k, v) (by simp); simp at this; omega
    simp only [Memory.read, if_neg this]
    exact ih fun c hc => h c (by simp [hc])

/-- Writing lists no address but those listed and the one written. -/
theorem Memory.mem_write {m : Memory} {a : Nat} {b : Byte} {c : Host.Cell} (h : c ∈ m.write a b) :
    c ∈ m ∨ c.1 = a := by
  induction m with
  | nil =>
    simp only [Memory.write] at h
    split at h <;> simp_all
  | cons d rest ih =>
    obtain ⟨k, v⟩ := d
    simp only [Memory.write] at h
    split at h
    · split at h
      · exact .inl h
      · rcases List.mem_cons.1 h with rfl | h
        · exact .inr rfl
        · exact .inl h
    · split at h
      · split at h
        · exact .inl (List.mem_cons_of_mem _ h)
        · rcases List.mem_cons.1 h with rfl | h
          · exact .inr rfl
          · exact .inl (List.mem_cons_of_mem _ h)
      · rcases List.mem_cons.1 h with rfl | h
        · exact .inl (by simp)
        · rcases ih h with h | h
          · exact .inl (List.mem_cons_of_mem _ h)
          · exact .inr h

/-- A write keeps the canonical form. -/
theorem Memory.wf_write {m : Memory} (a : Nat) (b : Byte) (h : m.wf = true) : (m.write a b).wf = true := by
  induction m with
  | nil =>
    simp only [Memory.write]
    split
    · rfl
    · exact Memory.wf_cons.2 ⟨‹_›, by simp, rfl⟩
  | cons d rest ih =>
    obtain ⟨k, v⟩ := d
    obtain ⟨hv, hlt, hrest⟩ := Memory.wf_cons.1 h
    simp only [Memory.write]
    split
    · split
      · exact h
      · refine Memory.wf_cons.2 ⟨‹_›, ?_, h⟩
        intro c hc
        rcases List.mem_cons.1 hc with rfl | hc
        · assumption
        · exact Nat.lt_trans ‹_› (hlt c hc)
    · split
      · subst_vars
        split
        · exact hrest
        · exact Memory.wf_cons.2 ⟨‹_›, hlt, hrest⟩
      · refine Memory.wf_cons.2 ⟨hv, ?_, ih hrest⟩
        intro c hc
        rcases Memory.mem_write hc with hc | hc
        · exact hlt c hc
        · omega

/-- Reading a memory at its first entry. -/
theorem Memory.read_cons (k : Nat) (v : Byte) (rest : Memory) (x : Nat) :
    Memory.read ((k, v) :: rest) x = if x = k then v else Memory.read rest x := by
  simp only [Memory.read]
  by_cases h : k = x
  · subst h; simp
  · rw [if_neg h, if_neg (Ne.symm h)]

/-- What one byte written reads as, and that every other byte is as it was: in canonical form. -/
theorem Memory.read_write {m : Memory} (a : Nat) (b : Byte) (x : Nat) (h : m.wf = true) :
    (m.write a b).read x = if x = a then b else m.read x := by
  induction m with
  | nil =>
    simp only [Memory.write]
    split
    · simp_all [Memory.read]
    · rw [Memory.read_cons]
  | cons d rest ih =>
    obtain ⟨k, v⟩ := d
    obtain ⟨_, hlt, hrest⟩ := Memory.wf_cons.1 h
    simp only [Memory.write]
    split
    · rename_i hak
      split
      · rename_i hb
        split
        · rename_i hx
          rw [hb, hx]
          refine Memory.read_below fun c hc => ?_
          rcases List.mem_cons.1 hc with rfl | hc
          · exact hak
          · exact Nat.lt_trans hak (hlt c hc)
        · rfl
      · rw [Memory.read_cons]
    · split
      · rename_i hak
        rw [hak, Memory.read_cons]
        split
        · rename_i hb
          split
          · rename_i hx; rw [hx, hb, Memory.read_below hlt]
          · rfl
        · rw [Memory.read_cons]; split <;> rfl
      · rename_i hne
        rw [Memory.read_cons, Memory.read_cons, ih hrest]
        by_cases hk : x = k
        · rw [if_pos hk, if_neg (by omega), if_pos hk]
        · rw [if_neg hk, if_neg hk]

/-! ### Words and operations -/

/-- A lane written keeps the canonical form. -/
theorem Memory.wf_writeLane {m : Memory} (a : Nat) (b : Option Byte) (h : m.wf = true) : (m.writeLane a b).wf = true := by
  cases b
  · exact h
  · exact Memory.wf_write _ _ h

/-- What a lane written reads as. -/
theorem Memory.read_writeLane {m : Memory} (a : Nat) (b : Option Byte) (x : Nat) (h : m.wf = true) :
    (m.writeLane a b).read x = if x = a then b.getD (m.read x) else m.read x := by
  cases b
  · simp [Memory.writeLane]
  · simpa [Memory.writeLane] using Memory.read_write a _ x h

/-- A beat written keeps the canonical form. -/
theorem Memory.wf_writeWord {m : Memory} (w : Nat) (d : LaneData) (h : m.wf = true) : (m.writeWord w d).wf = true :=
  Memory.wf_writeLane _ _ (Memory.wf_writeLane _ _ (Memory.wf_writeLane _ _ (Memory.wf_writeLane _ _ h)))


/-- The byte a beat writes in a lane, where it writes it. -/
def laneByte (d : LaneData) : Nat → Option Byte
  | 0 => d.b0
  | 1 => d.b1
  | 2 => d.b2
  | _ => d.b3

/-- What a beat written reads as: its strobed lanes at their four bytes, every other byte as it was (R154). -/
theorem Memory.read_writeWord {m : Memory} (w : Nat) (d : LaneData) (x : Nat) (h : m.wf = true) :
    (m.writeWord w d).read x = if x / 4 = w then (laneByte d (x % 4)).getD (m.read x) else m.read x := by
  have h0 := Memory.wf_writeLane (4 * w) d.b0 h
  have h1 := Memory.wf_writeLane (4 * w + 1) d.b1 h0
  have h2 := Memory.wf_writeLane (4 * w + 2) d.b2 h1
  simp only [Memory.writeWord, Memory.read_writeLane _ _ _ h2, Memory.read_writeLane _ _ _ h1,
    Memory.read_writeLane _ _ _ h0, Memory.read_writeLane _ _ _ h]
  obtain h4 | h4 | h4 | h4 : x % 4 = 0 ∨ x % 4 = 1 ∨ x % 4 = 2 ∨ x % 4 = 3 := by omega
  all_goals
    rw [h4]
    by_cases hw : x / 4 = w
    · have : x = 4 * w + x % 4 := by omega
      rw [h4] at this
      rw [if_pos hw, this]
      simp [laneByte]
    · rw [if_neg hw, if_neg (by omega), if_neg (by omega), if_neg (by omega), if_neg (by omega)]

/-- The beats of a write keep the canonical form. -/
theorem Memory.wf_writeBeats {m : Memory} (w : Nat) (ds : List LaneData) (h : m.wf = true) :
    (m.writeBeats w ds).wf = true := by
  induction ds generalizing m w with
  | nil => exact h
  | cons d rest ih => exact ih _ (Memory.wf_writeWord w d h)

/-- What the beats of a write read as: each word its beat's strobed lanes, every word outside them as it was
(R152, R154). -/
theorem Memory.read_writeBeats {m : Memory} (w : Nat) (ds : List LaneData) (x : Nat) (h : m.wf = true) :
    (m.writeBeats w ds).read x =
      if w ≤ x / 4 then ((ds[x / 4 - w]?).bind fun d => laneByte d (x % 4)).getD (m.read x) else m.read x := by
  induction ds generalizing m w with
  | nil => simp [Memory.writeBeats]
  | cons d rest ih =>
    rw [Memory.writeBeats, ih _ (Memory.wf_writeWord w d h), Memory.read_writeWord w d x h]
    by_cases h1 : x / 4 = w
    · subst h1; simp
    · by_cases h2 : w ≤ x / 4
      · obtain ⟨k, hk⟩ : ∃ k, x / 4 = w + 1 + k := ⟨x / 4 - w - 1, by omega⟩
        rw [if_pos (show w + 1 ≤ x / 4 by omega), if_neg h1, if_pos h2, hk, show w + 1 + k - (w + 1) = k by omega,
          show w + 1 + k - w = k + 1 by omega, List.getElem?_cons_succ]
      · rw [if_neg h1, if_neg (by omega), if_neg h2]

/-- A byte outside the words of a write is as it was; so a read's stores change nothing. -/
theorem Memory.read_writeBeats_outside {m : Memory} {w x : Nat} {ds : List LaneData} (h : m.wf = true)
    (hx : x < 4 * w ∨ 4 * (w + ds.length) ≤ x) : (m.writeBeats w ds).read x = m.read x := by
  rw [Memory.read_writeBeats w ds x h]
  split
  · rw [List.getElem?_eq_none (by omega)]; rfl
  · rfl

/-! ### The block's memory -/

/-- A completed operation leaves the memory in canonical form (R156). -/
theorem finishOp_wf {s : State} (o : MemOp) (h : s.mem.wf = true) : (s.finishOp o).mem.wf = true :=
  Memory.wf_writeBeats _ _ h

/-- A cut-off leaves the memory in canonical form (R136). -/
theorem tornMemory_wf {s : State} {tear : List Lanes} {m : Memory} (h : s.mem.wf = true)
    (ht : s.tornMemory tear = some m) : m.wf = true := by
  unfold State.tornMemory at ht
  split at ht
  · cases ht; exact h
  · split at ht
    · cases ht; exact h
    · split at ht
      · cases ht; exact Memory.wf_writeBeats _ _ h
      · cases ht

/-- The memory right after reset is in canonical form. -/
theorem reset_mem_wf : State.reset.mem.wf = true := rfl

end Sys2Proof.Machine
end

