-- ==== Sys2Proof/Laws/PerInstr.lean ====
section
/-! SUPPORT. The per-command family LinkFrame: a command's bytes on the management link are a command byte and as many
argument bytes as R165 gives that byte. One lemma per constructor. -/

namespace Sys2Proof.Laws.LinkFrame

/-- What travels on the link for a well-formed command is its command byte and the argument bytes that byte takes. -/
def Statement (i : Instr) : Prop :=
  i.wf = true → ∀ code args, linkBytes i = some (code :: args) → args.length = argumentCount code

theorem resetnAssert (tear : List Lanes) : Statement (.resetnAssert tear) := by
  intro _ c args h
  cases h

theorem resetnRelease (sample : ReleaseSample) : Statement (.resetnRelease sample) := by
  intro _ c args h
  cases h

theorem supplyCollapse (tear : List Lanes) : Statement (.supplyCollapse tear) := by
  intro _ c args h
  cases h

theorem pfwTaken : Statement .pfwTaken := by
  intro _ c args h
  cases h

theorem restart (sample : RestartSample) : Statement (.restart sample) := by
  intro _ c args h
  cases h

theorem hostWriteFirstBeat (word : BitVec 24) (hlen : BitVec 3) (lanes : Lanes) (data : MWord) : Statement (.hostWriteFirstBeat word hlen lanes data) := by
  intro _ c args h
  cases h

theorem hostWriteLaterBeat (lanes : Lanes) (data : MWord) : Statement (.hostWriteLaterBeat lanes data) := by
  intro _ c args h
  cases h

theorem hostReadFirstBeat (word : BitVec 24) (hlen : BitVec 3) (lanes : Lanes) : Statement (.hostReadFirstBeat word hlen lanes) := by
  intro _ c args h
  cases h

theorem hostReadLaterBeat (lanes : Lanes) : Statement (.hostReadLaterBeat lanes) := by
  intro _ c args h
  cases h

theorem hostReadWordArrival (merr : Option MWord) : Statement (.hostReadWordArrival merr) := by
  intro _ c args h
  cases h

theorem hostReadComplete : Statement .hostReadComplete := by
  intro _ c args h
  cases h

theorem commit : Statement .commit := by
  intro _ c args h
  cases h

theorem rollback : Statement .rollback := by
  intro _ c args h
  cases h

theorem flush : Statement .flush := by
  intro _ c args h
  cases h

theorem illegalOperation : Statement .illegalOperation := by
  intro _ c args h
  cases h

theorem answerAck (ereq : Bool) : Statement (.answerAck ereq) := by
  intro _ c args h
  cases h

theorem ereqFall : Statement .ereqFall := by
  intro _ c args h
  cases h

theorem drainWriteComplete : Statement .drainWriteComplete := by
  intro _ c args h
  cases h

theorem preImageReadComplete (merr : List BadBeat) : Statement (.preImageReadComplete merr) := by
  intro _ c args h
  cases h

theorem recordWriteComplete : Statement .recordWriteComplete := by
  intro _ c args h
  cases h

theorem markWriteComplete : Statement .markWriteComplete := by
  intro _ c args h
  cases h

theorem sealComplete : Statement .sealComplete := by
  intro _ c args h
  cases h

theorem recordReadComplete (merr : List BadBeat) : Statement (.recordReadComplete merr) := by
  intro _ c args h
  cases h

theorem restoreWriteComplete : Statement .restoreWriteComplete := by
  intro _ c args h
  cases h

theorem headerReadComplete (merr : List BadBeat) : Statement (.headerReadComplete merr) := by
  intro _ c args h
  cases h

theorem recoverySealComplete : Statement .recoverySealComplete := by
  intro _ c args h
  cases h

theorem getStatus : Statement .getStatus := by
  intro _ c args h
  obtain ⟨rfl, rfl⟩ := List.cons.inj (Option.some.inj h)
  rfl

theorem popEvent : Statement .popEvent := by
  intro _ c args h
  obtain ⟨rfl, rfl⟩ := List.cons.inj (Option.some.inj h)
  rfl

theorem popEventRemoval : Statement .popEventRemoval := by
  intro _ c args h
  cases h

theorem getActive : Statement .getActive := by
  intro _ c args h
  obtain ⟨rfl, rfl⟩ := List.cons.inj (Option.some.inj h)
  rfl

theorem getStaged : Statement .getStaged := by
  intro _ c args h
  obtain ⟨rfl, rfl⟩ := List.cons.inj (Option.some.inj h)
  rfl

theorem stageRegion (index : Byte) (present : Byte) (cls : Byte) (base : BitVec 16) (length : BitVec 16) : Statement (.stageRegion index present cls base length) := by
  intro _ c args h
  obtain ⟨rfl, rfl⟩ := List.cons.inj (Option.some.inj h)
  rfl

theorem stageLog (capacity : BitVec 16) (policy : Byte) (watermark : Byte) : Statement (.stageLog capacity policy watermark) := by
  intro _ c args h
  obtain ⟨rfl, rfl⟩ := List.cons.inj (Option.some.inj h)
  rfl

theorem apply : Statement .apply := by
  intro _ c args h
  obtain ⟨rfl, rfl⟩ := List.cons.inj (Option.some.inj h)
  rfl

theorem unstage : Statement .unstage := by
  intro _ c args h
  obtain ⟨rfl, rfl⟩ := List.cons.inj (Option.some.inj h)
  rfl

theorem format (number : BitVec 32) : Statement (.format number) := by
  intro _ c args h
  obtain ⟨rfl, rfl⟩ := List.cons.inj (Option.some.inj h)
  rfl

theorem unknownCommand (code : Byte) : Statement (.unknownCommand code) := by
  intro hw c args h
  obtain ⟨hc, rfl⟩ := List.cons.inj (Option.some.inj h)
  rw [← hc]
  have hn : code ∉ namedCommandBytes := by simpa [Instr.wf] using hw
  have h1 : code ≠ 0x10#8 := fun he => hn (by rw [he]; decide)
  have h2 : code ≠ 0x11#8 := fun he => hn (by rw [he]; decide)
  have h3 : code ≠ 0x30#8 := fun he => hn (by rw [he]; decide)
  rw [argumentCount, if_neg h1, if_neg h2, if_neg h3, List.length_nil]

theorem frameEnd : Statement .frameEnd := by
  intro _ c args h
  cases h

theorem clearingWriteComplete : Statement .clearingWriteComplete := by
  intro _ c args h
  cases h

theorem formatWriteComplete : Statement .formatWriteComplete := by
  intro _ c args h
  cases h

theorem frameStart : Statement .frameStart := by
  intro _ c args h
  cases h

end Sys2Proof.Laws.LinkFrame
end

