-- ==== Sys2Proof/Laws/Tables.lean ====
section
/-! SUPPORT. The granule table's and the posting queue's operations: what each keeps of the laws in Safety.lean. -/

namespace Sys2Proof.Machine

/-! ### Counting CAPTURING entries -/

/-- The CAPTURING entries of a table, parted by any test. -/
theorem capturingCount_filter (p : TableEntry → Bool) (es : List TableEntry) :
    capturingCount (es.filter p) + capturingCount (es.filter fun e => !p e) = capturingCount es := by
  induction es with
  | nil => rfl
  | cons e rest ih =>
    simp only [capturingCount] at ih ⊢
    cases hp : p e <;> simp only [List.filter_cons, hp, List.countP_cons, Bool.not_true, Bool.not_false, if_true,
      Bool.false_eq_true, if_false] <;> omega

theorem capturingCount_append (es fs : List TableEntry) :
    capturingCount (es ++ fs) = capturingCount es + capturingCount fs := List.countP_append

theorem capturingCount_le_length (es : List TableEntry) : capturingCount es ≤ es.length := List.countP_le_length

/-- Where no entry is CAPTURING none is found (R26). -/
theorem capturingCount_eq_zero {es : List TableEntry} :
    capturingCount es = 0 ↔ ∀ e ∈ es, e.state = .logged := by
  unfold capturingCount
  rw [List.countP_eq_zero]
  constructor <;> intro h e he <;> have := h e he <;> cases hs : e.state <;> simp_all

/-! ### The table's operations keep its law (R39, R42) -/

/-- Entries removed, with their reservations. -/
theorem drop_lawful {t : GranuleTable} (gone : TableEntry → Bool) (h : t.lawful) : (t.drop gone).lawful := by
  obtain ⟨h1, h2, h3, h4⟩ := h
  have hc := capturingCount_filter gone t.entries
  refine ⟨Nat.le_trans (List.length_filter_le _ _) h1, ?_, ?_, ?_⟩
  · exact h2.sublist (List.Sublist.map _ List.filter_sublist)
  · show capturingCount (t.entries.filter fun e => !gone e) ≤ 8
    omega
  · show t.reservations - capturingCount (t.entries.filter gone) = capturingCount (t.entries.filter fun e => !gone e)
    omega

/-- Eviction removes one LOGGED entry or, where none is, nothing; and no CAPTURING one (R41). -/
theorem evictOldest_sublist (es : List TableEntry) : (evictOldest es).Sublist es := by
  induction es with
  | nil => exact .slnil
  | cons e rest ih =>
    unfold evictOldest
    split
    · exact List.sublist_cons_self _ _
    · exact ih.cons_cons e

theorem evictOldest_capturing (es : List TableEntry) : capturingCount (evictOldest es) = capturingCount es := by
  induction es with
  | nil => rfl
  | cons e rest ih =>
    unfold evictOldest
    unfold capturingCount at ih ⊢
    split
    · rename_i h; simp [h]
    · rw [List.countP_cons, List.countP_cons, ih]

theorem evictOldest_length {es : List TableEntry} (h : ∃ e ∈ es, e.state = .logged) :
    (evictOldest es).length + 1 = es.length := by
  induction es with
  | nil => simp at h
  | cons e rest ih =>
    unfold evictOldest
    split
    · rfl
    · rename_i hs
      obtain ⟨f, hf, hl⟩ := h
      rcases List.mem_cons.1 hf with rfl | hf
      · exact absurd hl hs
      · simp [ih ⟨f, hf, hl⟩]

/-- A granule not looked up has no entry (R44). -/
theorem lookup_none {t : GranuleTable} {g : Nat} (h : t.lookup g = none) : g ∉ t.entries.map TableEntry.granule := by
  simp only [GranuleTable.lookup, List.find?_eq_none, beq_iff_eq] at h
  rw [List.mem_map]
  rintro ⟨e, he, rfl⟩
  exact h e he rfl

/-- An admission of an absent granule under the limit of 8 (R39, R41, R45). -/
theorem enrol_lawful {t : GranuleTable} {g : Nat} (h : t.lawful) (hl : t.lookup g = none)
    (hc : capturingCount t.entries < 8) : (t.enrol g).lawful := by
  obtain ⟨h1, h2, h3, h4⟩ := h
  have hg := lookup_none hl
  have hsub : (if Config.tableDepth ≤ t.entries.length then evictOldest t.entries else t.entries).Sublist t.entries := by
    split
    · exact evictOldest_sublist _
    · exact List.Sublist.refl _
  have hcc : capturingCount (if Config.tableDepth ≤ t.entries.length then evictOldest t.entries else t.entries)
      = capturingCount t.entries := by
    split
    · exact evictOldest_capturing _
    · rfl
  refine ⟨?_, ?_, ?_, ?_⟩
  · show (List.length (_ ++ _)) ≤ 256
    rw [List.length_append]
    split
    · rename_i hd
      have : ∃ e ∈ t.entries, e.state = .logged := by
        by_contra hno
        push Not at hno
        have : capturingCount t.entries = t.entries.length := by
          unfold capturingCount
          rw [List.countP_eq_length]
          intro e he
          have := hno e he
          cases hs : e.state <;> simp_all
        simp only [Config.tableDepth] at hd
        omega
      have := evictOldest_length this
      simp; omega
    · rename_i hd
      simp only [Config.tableDepth] at hd
      simp; omega
  · show (List.map _ (_ ++ _)).Nodup
    rw [List.map_append, List.nodup_append]
    refine ⟨h2.sublist (hsub.map _), by simp, ?_⟩
    intro a ha b hb hab
    simp only [List.map_cons, List.map_nil, List.mem_singleton] at hb
    subst hb
    subst hab
    exact hg ((hsub.map TableEntry.granule).subset ha)
  · show capturingCount (_ ++ _) ≤ 8
    rw [capturingCount_append, hcc]
    simp [capturingCount] at hc ⊢
    omega
  · show t.reservations + 1 = capturingCount (_ ++ _)
    rw [capturingCount_append, hcc, h4]
    simp [capturingCount]

/-! ### The posting queue -/

/-- A merge changes no entry but the newest, and no entry's word, class, gate or age (R60). -/
theorem mergeNewest_length (d : LaneData) (es : List QueueEntry) : (mergeNewest d es).length = es.length := by
  induction es with
  | nil => rfl
  | cons e rest ih =>
    cases rest with
    | nil => rfl
    | cons f rest => simp only [mergeNewest, List.length_cons] at ih ⊢; omega

/-- A beat taken where the queue can take it keeps the queue within 8 entries (R58, R59). -/
theorem enqueue_length {q : PostingQueue} {word : Nat} {gate : Gate} (d : LaneData) (cls : DecodeClass)
    (h : q.entries.length ≤ 8) (ha : q.accepts word gate = true) :
    (q.enqueue word d cls gate).entries.length ≤ 8 := by
  unfold PostingQueue.enqueue
  split
  · simpa [mergeNewest_length] using h
  · rename_i hm
    rw [PostingQueue.accepts, Bool.eq_false_iff.2 hm, Bool.false_or] at ha
    have : q.entries.length < 8 := of_decide_eq_true ha
    simp; omega

/-- The newest matching entry gives its bytes, older ones those it lacks (R68). -/
theorem forwarded_append (q : PostingQueue) (es : List QueueEntry) (e : QueueEntry) (word : Nat)
    (h : q.entries = es ++ [e]) :
    q.forwarded word = if e.word = word then LaneData.over e.lanes (PostingQueue.forwarded { q with entries := es } word)
      else PostingQueue.forwarded { q with entries := es } word := by
  unfold PostingQueue.forwarded PostingQueue.matching
  rw [h, List.filter_append, List.foldl_append]
  by_cases hw : e.word = word <;> simp [hw]

/-! ### The drain burst -/

/-- What the burst takes beyond the head stands in queue order, right behind it (R66). -/
theorem burstTail_prefix (h : QueueEntry) (last room : Nat) (es : List QueueEntry) :
    burstTail h last room es <+: es := by
  induction room generalizing last es with
  | zero => cases es <;> simp [burstTail]
  | succ n ih =>
    cases es with
    | nil => simp [burstTail]
    | cons e rest =>
      unfold burstTail
      split
      · exact List.cons_prefix_cons.2 ⟨rfl, ih _ _⟩
      · exact List.nil_prefix

theorem burstTail_length (h : QueueEntry) (last room : Nat) (es : List QueueEntry) :
    (burstTail h last room es).length ≤ room := by
  induction room generalizing last es with
  | zero => cases es <;> simp [burstTail]
  | succ n ih =>
    cases es with
    | nil => simp [burstTail]
    | cons e rest =>
      unfold burstTail
      split
      · simpa using ih _ _
      · simp

theorem burstTail_opened (h : QueueEntry) (last room : Nat) (es : List QueueEntry) :
    ∀ e ∈ burstTail h last room es, e.gate = .opened := by
  induction room generalizing last es with
  | zero => cases es <;> simp [burstTail]
  | succ n ih =>
    cases es with
    | nil => simp [burstTail]
    | cons e rest =>
      unfold burstTail
      split
      · rename_i hc
        intro x hx
        rcases List.mem_cons.1 hx with rfl | hx
        · exact hc.2.1
        · exact ih _ _ x hx
      · simp

/-- The burst is the front of the queue, at most 16 entries (R66). -/
theorem drainBurst_prefix (es : List QueueEntry) : drainBurst es <+: es := by
  cases es with
  | nil => exact List.nil_prefix
  | cons h rest => exact List.cons_prefix_cons.2 ⟨rfl, burstTail_prefix ..⟩

theorem drainBurst_length (es : List QueueEntry) : (drainBurst es).length ≤ 16 := by
  cases es with
  | nil => simp [drainBurst]
  | cons h rest =>
    have := burstTail_length h h.word 15 rest
    simp [drainBurst, Config.burstLimit]; omega

/-- Every entry of a burst whose head is OPEN is OPEN (R64, R66). -/
theorem drainBurst_opened {es : List QueueEntry} (h : ∀ e ∈ es.head?, e.gate = .opened) :
    ∀ e ∈ drainBurst es, e.gate = .opened := by
  cases es with
  | nil => simp [drainBurst]
  | cons x rest =>
    intro e he
    rcases List.mem_cons.1 he with rfl | he
    · exact h _ rfl
    · exact burstTail_opened _ _ _ _ e he

end Sys2Proof.Machine
end

