-- ==== Sys2Proof/Tests/Slice0.lean ====
section
/-! SUPPORT. The model's own tests: the form of the commands, small steps on the boards of the spec's examples, and, for
every statement with hypotheses, a state that meets them. -/

namespace Sys2Proof.Tests.Slice0

open Sys2Proof Sys2Proof.Machine

set_option Elab.async false
set_option synthInstance.maxSize 4000
set_option synthInstance.maxHeartbeats 400000

/-! ### Well-formedness -/

theorem test_wf_tear_too_long : (Instr.resetnAssert (List.replicate 65 15#4)).wf = false := by decide
theorem test_wf_collapse_too_long : (Instr.supplyCollapse (List.replicate 65 15#4)).wf = false := by decide
theorem test_wf_tear_at_limit : (Instr.resetnAssert (List.replicate 64 15#4)).wf = true := by decide
theorem test_wf_pre_image_beat : (Instr.preImageReadComplete [⟨16, MWord.zero⟩]).wf = false := by decide
theorem test_wf_record_beat : (Instr.recordReadComplete [⟨20, MWord.zero⟩]).wf = false := by decide
theorem test_wf_header_beat : (Instr.headerReadComplete [⟨64, MWord.zero⟩]).wf = false := by decide
theorem test_wf_beats_out_of_order :
    (Instr.preImageReadComplete [⟨3, MWord.zero⟩, ⟨2, MWord.zero⟩]).wf = false := by decide
theorem test_wf_beats_in_order :
    (Instr.preImageReadComplete [⟨2, MWord.zero⟩, ⟨15, MWord.zero⟩]).wf = true := by decide
theorem test_wf_unknown_but_named : (Instr.unknownCommand 0x30#8).wf = false := by decide

/-! ### The bytes of the link's commands (R165, R176), written out -/

theorem test_link_stage_region :
    linkCommand [0x10#8, 0x01#8, 0x01#8, 0x03#8, 0x00#8, 0x10#8, 0x00#8, 0x04#8]
      = some (.stageRegion 1 1 3 16 4) := by decide
theorem test_link_stage_log :
    linkCommand [0x11#8, 0x04#8, 0x4C#8, 0x01#8, 0x0C#8] = some (.stageLog 1100 1 12) := by decide
theorem test_link_format :
    linkCommand [0x30#8, 0x12#8, 0x34#8, 0x56#8, 0x78#8] = some (.format 0x12345678#32) := by decide
theorem test_link_plain_commands :
    [0x01#8, 0x02#8, 0x03#8, 0x04#8, 0x20#8, 0x21#8, 0x7F#8].map (fun b => linkCommand [b])
      = [some .getStatus, some .popEvent, some .getActive, some .getStaged, some .apply, some .unstage,
        some (.unknownCommand 0x7F#8)] := by decide
theorem test_link_arguments_missing : linkCommand [0x10#8, 0x01#8, 0x01#8] = none := by decide
/-- GET_ACTIVE's code sampled most significant bit first (R163), with a bit of the gap behind it; STAGE_LOG one bit short. -/
theorem test_sdi_samples :
    sdiCommand [false, false, false, false, false, false, true, true, true] = some .getActive
      ∧ sdiCommand ([false, false, false, true, false, false, false, true] ++ List.replicate 31 false) = none
      ∧ sdiCommand ([false, false, false, true, false, false, false, true] ++ List.replicate 32 false)
        = some (.stageLog 0 0 0) := by decide
/-- A word's least significant byte comes first (log 1): 0x01, STAGE_LOG's five bytes, FORMAT's with one byte of the gap. -/
theorem test_table_words :
    decodeTableWord 8 0x01 = some .getStatus ∧ decodeTableWord 40 0x0C014C0411 = some (.stageLog 1100 1 12)
      ∧ decodeTableWord 48 0x007856341230 = some (.format 0x12345678#32) ∧ decodeTableWord 0 0x01 = none
      ∧ decodeTableWord 32 0x014C0411 = none := by decide

/-! ### The board of the spec's examples: 4 MiB, N = 1024, the region table of section 1.6 -/

/-- The region table of section 1.6. -/
def regions : RegionTable :=
  ⟨⟨1, 1, 0, 16⟩, ⟨1, 3, 16, 4⟩, ⟨1, 2, 20, 8⟩, .absent, ⟨1, 1, 40, 22⟩, .absent, .absent, .absent⟩

/-- Its configuration with a policy and a log capacity, watermark 12. -/
def config (policy : Byte) (n : BitVec 16) : Configuration := ⟨policy, 12, n, regions⟩

/-- The board OPEN in epoch 12 under generation 40 in slot A, as in the example of section 5.4, with an empty queue. -/
def boardWith (c : Configuration) : State :=
  { State.reset with
    pins := ⟨false, 2#3, false, false, 0#2, false⟩
    dec := ⟨some 4194304, some (geometryOf 4194304 c.capacity.toNat), some c.regions⟩
    table := ⟨[], 0, some .intact, false⟩
    ctl := { EpochController.reset with state := .opened, epoch := some 12#48, lowSeen := true }
    header := { HeaderUnit.reset with
      selected := some .a, generation := some 40, formatNumber := some 3, active := some c
      surveyA := some ⟨.valid, some 3⟩, surveyB := some ⟨.absent, none⟩ }
    link := { ManagementLink.reset with staged := c } }

/-- N = 1024, policy HOLD. -/
def board : State := boardWith (config 1 1024)

/-- N = 16, policy BREAK, the log full, as in section 3.6 after its step 1 but with nothing captured. -/
def fullLog (policy : Byte) : State := { boardWith (config policy 16) with capture := { CaptureUnit.reset with tail := 16 } }

/-- An operation in progress. -/
def operating (s : State) (kind : OpKind) (start length : Nat) (data : List LaneData) : State :=
  { s with port := { s.port with op := some ⟨kind, start, length, data, 0⟩ } }

/-- A device state, with the request it has in hand. -/
def inState (s : State) (d : DeviceState) (op : Option Operation) : State :=
  { s with ctl := { s.ctl with
      state := d, phase := if op.isSome then .working else .idle, pendingRequest := op.map fun o => ⟨o, false⟩ }
           pins := { s.pins with ereq := op.isSome } }

/-- One granule in the table. -/
def withEntry (s : State) (g : Nat) (e : EntryState) : State :=
  { s with table := { s.table with entries := [⟨g, e⟩], reservations := if e = .capturing then 1 else 0 } }

/-- Queue entries, the append counter one past the newest. -/
def queued (s : State) (es : List QueueEntry) : State :=
  { s with queue := ⟨es, (es.getLast?.map fun e => e.age + 1).getD 20, none⟩ }

/-- A word's four bytes. -/
def ones : MWord := ⟨1, 2, 3, 4⟩

/-- An entry of a full word. -/
def entry (word : Nat) (cls : DecodeClass) (gate : Gate) (age : BitVec 16) (draining : Bool) : QueueEntry :=
  ⟨word, LaneData.full ones, cls, gate, age, draining⟩

/-- What a command answers meets a test. -/
def after (c : Instr) (s : State) (p : State → Bool) : Bool :=
  match exec c s with
  | .next t => p t
  | .fault _ => false
  | .refused _ => false

theorem test_board_consistent : board.consistent := by decide +kernel
theorem test_board_table_lawful : board.table.lawful := by decide +kernel
theorem test_board_logFits : board.logFits := by decide +kernel
theorem test_board_configured : board.configured := by decide +kernel
theorem test_board_addressed : board.addressed := by decide +kernel
theorem test_board_handshakeLawful : board.handshakeLawful := by decide +kernel
theorem test_board_requestAgrees : board.requestAgrees := by decide +kernel
theorem test_board_nothingDue : board.nothingDue := by decide +kernel
theorem test_board_workConserving : board.workConserving := by decide +kernel
theorem test_board_contentAgrees : board.contentAgrees := by decide +kernel

/-! ### Geometry, decode and thresholds: the tables of 00_scope, section 1.6 and R35 -/

theorem test_geometry : geometryOf 4194304 1024 = ⟨4194304, 1024, 4111872, 4111872, 4111872, 62⟩ := by decide
theorem test_header_slots : slotWord 4194304 .a * 4 = 4193792 ∧ slotWord 4194304 .b * 4 = 4194048 := by decide
theorem test_log_slot : (geometryOf 4194304 1024).logWord 5 = 1028068 := by decide
theorem test_decode_table :
    [256, 1200000, 2000000, 3000000, 4080000, 4150000, 4194100, 5000000].map (board.dec.decode ·)
      = [(.guarded, some 0), (.fixed, some 1), (.plain, none), (.guarded, some 4), (.plain, none), (.reserved, none),
        (.reserved, none), (.outside, none)] := by decide +kernel
theorem test_thresholds :
    [(16, 1), (16, 15), (1024, 12), (65535, 15)].map (fun (n, w) =>
      (Configuration.mk 1 (BitVec.ofNat 8 w) (BitVec.ofNat 16 n) regions).threshold) = [1, 15, 768, 61439] := by decide
theorem test_region_table_valid : (config 1 1024).valid 4194304 = true := by decide +kernel
theorem test_region_above_ceiling : (Configuration.mk 1 12 1024 { regions with e4 := ⟨1, 1, 40, 23⟩ }).valid 4194304
    = false := by decide +kernel
theorem test_regions_overlap : (Configuration.mk 1 12 1024 { regions with e2 := ⟨1, 2, 19, 8⟩ }).valid 4194304
    = false := by decide +kernel

/-! ### One step at a time through the spec's own examples -/

/-- A board of another epoch with the log at a tail. -/
def inEpoch (s : State) (epoch : BitVec 48) (tail : Nat) : State :=
  { s with ctl := { s.ctl with epoch := some epoch }, capture := { s.capture with tail := tail } }

/-- Some table entries, in order, with a reservation for each CAPTURING one. -/
def withEntries (s : State) (es : List TableEntry) : State :=
  { s with table := { s.table with entries := es, reservations := capturingCount es } }

/-- A capture in flight. -/
def capturing (s : State) (phase : CapturePhase) (granule : Nat) (granted : Bool) : State :=
  { s with capture := { s.capture with
      phase := phase, granule := some granule, granted := granted
      slot := if phase = .writing then some s.capture.tail else none } }

/-- The capture's own operation in progress. -/
def capturePort (s : State) (granule : Nat) : State :=
  match s.capture.phase with
  | .writing => operating s .recordWrite (s.logWord s.capture.tail) 20 []
  | _ => operating s .preImageRead (16 * granule) 16 []

/-- The engine's walk at a slot. -/
def walking (s : State) (purpose : Purpose) (phase : EnginePhase) (cursor restored damaged : Nat) (granted : Bool) : State :=
  { s with engine := { s.engine with
      phase := phase, purpose := some purpose, cursor := some cursor, granted := granted, pass := .walk
      restored := restored, damaged := damaged } }

/-- A header write in progress. -/
def headerWriting (s : State) (kind : WriteKind) (target : Slot) (content : Option HeaderRecord) (pending : Bool) : State :=
  operating { s with header := { s.header with
    writeRequest := some ⟨kind, target, true, content, pending, false⟩ } } .headerWrite (slotWord s.size target) 64 []

/-- A frame being received. -/
def receiving (s : State) : State :=
  { s with link := { s.link with phase := .receiving }, pins := { s.pins with ssnLow := true } }

/-- Section 2.5 ("A capture traced"): tail 5, epoch 7, granules 40 and 41 CAPTURING. -/
def traced : State :=
  queued (withEntries (inEpoch board 7 5) [⟨40, .capturing⟩, ⟨41, .capturing⟩])
    [entry 640 .guarded (.tied 40) 18 false, entry 656 .guarded (.tied 41) 19 false]

/-- Step 1: the write to byte 2,560 is admitted, its capture taken and its read requested at word 640. -/
theorem test_write_starts_capture :
    after (.hostWriteFirstBeat 640 0 15 ones) (inEpoch board 7 5) (fun t =>
      t.host.response == .ready && t.capture.phase == .reading && t.capture.granule == some 40 && t.table.reservations == 1
        && t.queue.entries.map QueueEntry.gate == [.tied 40]
        && t.port.op.map (fun o => (o.kind, o.start, o.length)) == some (.preImageRead, 640, 16)) = true := by
  decide +kernel

/-- Step 3: the record of granule 40 goes to slot 5, at word 1,028,068. -/
theorem test_capture_read_completes :
    after (.preImageReadComplete []) (capturePort (capturing traced .reading 40 true) 40) (fun t =>
      t.capture.phase == .writing && t.capture.slot == some 5 && t.capture.tail == 5 && t.table.reservations == 2
        && t.port.op.map (fun o => (o.kind, o.start, o.length)) == some (.recordWrite, 1028068, 20)) = true := by
  decide +kernel

/-- Step 5: the record write completes, tail 6, and granule 41 is taken. -/
theorem test_capture_write_completes :
    after .recordWriteComplete (capturePort (capturing traced .writing 40 true) 40) (fun t =>
      t.capture.tail == 6 && t.table.entries == [⟨40, .logged⟩, ⟨41, .capturing⟩] && t.table.reservations == 1
        && t.queue.entries.map QueueEntry.gate == [.opened, .tied 41]
        && t.port.op.map (fun o => (o.kind, o.start)) == some (.preImageRead, 656)) = true := by
  decide +kernel

/-- Step 6: the read of granule 41 fails on its fourth beat. -/
theorem test_capture_fails :
    after (.preImageReadComplete [⟨3, MWord.zero⟩])
        (capturePort (capturing (withEntries (inEpoch (queued board [entry 656 .guarded (.tied 41) 19 false]) 7 6)
          [⟨40, .logged⟩, ⟨41, .capturing⟩]) .reading 41 true) 41) (fun t =>
      t.events.records == [⟨.captureFailed, 7, 41⟩] && t.table.status == some .breaking
        && t.table.entries == [⟨40, .logged⟩] && t.table.reservations == 0 && t.capture.tail == 6
        && t.queue.entries.map QueueEntry.gate == [.waitMark]
        && t.header.writeRequest.map WriteRequest.kind == some .mark) = true := by
  decide +kernel

/-- Section 3.6 before step 2: 14 LOGGED entries, 70 CAPTURING in flight and its read granted, 71 CAPTURING. -/
def exhausted (policy : Byte) : State :=
  queued (capturePort (capturing (withEntries (inEpoch (boardWith (config policy 16)) 9 14)
    ((List.range 14).map (fun k => ⟨k, .logged⟩) ++ [⟨70, .capturing⟩, ⟨71, .capturing⟩])) .reading 70 true) 70)
    [entry 1120 .guarded (.tied 70) 18 false, entry 1136 .guarded (.tied 71) 19 false]

/-- Step 2 under BREAK. -/
theorem test_exhaustion_breaks :
    after (.hostWriteFirstBeat 1152 0 15 ones) (exhausted 2) (fun t =>
      t.table.status == some .breaking && t.capture.tail == 14 && t.table.reservations == 1 && t.table.entries.length == 15
        && t.queue.entries.map QueueEntry.gate == [.tied 70, .waitMark, .waitMark] && t.alarms.exhausted
        && t.events.records == [⟨.logExhausted, 9, 72⟩] && t.host.response == .ready) = true := by
  decide +kernel

/-- Steps 4 and 5: the stopped capture ends, and the mark write completes. -/
theorem test_mark_completes :
    after .markWriteComplete (headerWriting (queued { (inEpoch (boardWith (config 2 16)) 9 14) with
        table := ⟨(List.range 14).map fun k => ⟨k, .logged⟩, 0, some .breaking, true⟩ }
        [entry 1120 .guarded .waitMark 18 false, entry 80 .guarded .waitMark 19 false])
        .mark .b (some ⟨true, 41, 9, 3, config 2 16⟩) false) (fun t =>
      t.table.status == some .broken && t.table.entries == [] && t.table.reservations == 0
        && t.queue.entries.map QueueEntry.gate == [.opened, .opened] && t.events.records == [⟨.epochBroken, 9, 14⟩]
        && t.alarms.broken && t.header.selected == some .b) = true := by
  decide +kernel

/-- Section 4.9 after step 6. -/
def merged : State :=
  queued (capturePort (capturing (withEntries board [⟨40, .logged⟩, ⟨41, .capturing⟩]) .reading 41 true) 41)
    [entry 640 .guarded .opened 20 true, entry 641 .guarded .opened 21 true, entry 642 .guarded .opened 22 true,
      entry 643 .guarded .opened 23 true, { entry 643 .guarded .opened 24 false with lanes := ⟨none, none, some 9, none⟩ },
      entry 656 .guarded (.tied 41) 25 false, entry 327680 .plain .opened 26 false]

/-- Step 7: lane 2 from Q24, the others from Q23. -/
theorem test_read_forwarded :
    after (.hostReadFirstBeat 643 0 15) merged (fun t =>
      t.host.response == .ready && t.host.data == ⟨some 1, some 2, some 9, some 4⟩ && t.host.cycle == none) = true := by
  decide +kernel

/-- Step 11: the mark holds 26. -/
theorem test_flush_marks :
    after .flush merged (fun t => t.queue.mark == some 26 && t.ctl.phase == .working && t.ctl.eres == .ok
      && t.ctl.answer == none) = true := by
  decide +kernel

/-- Step 16: the last entry leaves, the mark is satisfied and OK is driven. -/
theorem test_drain_satisfies_flush :
    after .drainWriteComplete (operating { board with
        queue := ⟨[entry 327680 .plain .opened 26 true], 27, some 26⟩, port := { board.port with aging := 3 }
        ctl := { board.ctl with phase := .working, pendingRequest := some ⟨.flush, false⟩ }
        pins := { board.pins with ereq := true } } .drainWrite 327680 1 [LaneData.full ones]) (fun t =>
      t.queue.entries == [] && t.queue.mark == none && t.ctl.answer == some ⟨.flush, .ok⟩ && t.port.aging == 0
        && t.mem == [(1310720, 1), (1310721, 2), (1310722, 3), (1310723, 4)]) = true := by
  decide +kernel

/-- Section 5.4: before step 1, tail 3, granule 40 in flight. -/
def committing : State :=
  queued (capturePort (capturing (withEntries (inEpoch board 12 3) [⟨40, .capturing⟩]) .reading 40 true) 40)
    [entry 640 .guarded (.tied 40) 18 false, entry 327680 .plain .opened 19 false]

/-- Step 1. -/
theorem test_commit_drains :
    after .commit committing (fun t => t.ctl.state == .draining && t.ctl.phase == .working && t.table.reservations == 1
      && t.queue.entries.length == 2) = true := by
  decide +kernel

/-- Step 7: Q2 drains, and the seal is requested; the grant of step 8 fixes epoch 13 and generation 41 for slot B. -/
def lastDrain : State :=
  operating (queued (inState (withEntries (inEpoch board 12 4) [⟨40, .logged⟩]) .draining (some .commit))
    [entry 327680 .plain .opened 19 true]) .drainWrite 327680 1 [LaneData.full ones]

theorem test_commit_seals :
    after .drainWriteComplete lastDrain (fun t => t.ctl.state == .sealing && t.queue.entries == []
      && t.header.writeRequest == some ⟨.commitSeal, .b, true, some ⟨false, 41, 13, 3, config 1 1024⟩, false, false⟩
      && t.port.op.map (fun o => (o.kind, o.start)) == some (.headerWrite, 1048512)) = true := by
  decide +kernel

/-- The seal of step 9 in progress, with a configuration or without. -/
def sealing (c : Configuration) (pending : Option Configuration) : State :=
  headerWriting { (inState (withEntries (inEpoch board 12 4) [⟨40, .logged⟩]) .sealing (some .commit)) with
    header := { board.header with pendingConfig := pending } } .commitSeal .b (some ⟨false, 41, 13, 3, c⟩) pending.isSome

/-- Step 9. -/
theorem test_seal_opens :
    after .sealComplete (sealing (config 1 1024) none) (fun t => t.ctl.state == .opened && t.ctl.epoch == some 13
      && t.header.generation == some 41 && t.header.selected == some .b && t.capture.tail == 0 && t.table.entries == []
      && t.ctl.answer == some ⟨.commit, .ok⟩ && t.ctl.eack == false && t.events.records == []) = true := by
  decide +kernel

/-- Section 11's example, step 4: CONFIG_APPLIED with epoch 13 and detail 1100. -/
theorem test_seal_applies :
    after .sealComplete (sealing (config 1 1100) (some (config 1 1100))) (fun t =>
      t.header.active == some (config 1 1100) && t.header.pendingConfig == none
        && t.events.records == [⟨.configApplied, 13, 1100⟩]
        && t.dec.geometry == some (geometryOf 4194304 1100)) = true := by
  decide +kernel

/-- Step 9's EACK, and step 10. -/
theorem test_answer_acknowledged :
    after (.answerAck true) { board with
        pins := { board.pins with ereq := true }
        ctl := { board.ctl with phase := .working, pendingRequest := some ⟨.commit, false⟩, answer := some ⟨.commit, .ok⟩ } }
      (fun t => t.ctl.eack && t.ctl.phase == .answered && t.ctl.lastResult == some ⟨.commit, .ok⟩) = true := by
  decide +kernel
theorem test_ereq_falls :
    after .ereqFall { board with
        pins := { board.pins with ereq := true }, ctl := { board.ctl with phase := .answered, eack := true } }
      (fun t => !t.ctl.eack && t.ctl.phase == .idle) = true := by
  decide +kernel

/-- The same section: had EREQ dropped, REQUEST_ABANDONED with COMMIT (1) and OK (0) at the seal's completion. -/
theorem test_abandoned_commit_recorded :
    after .sealComplete { sealing (config 1 1024) none with
        ctl := { (sealing (config 1 1024) none).ctl with phase := .idle, pendingRequest := some ⟨.commit, true⟩ } }
      (fun t => t.events.records == [⟨.requestAbandoned, 13, 0x100⟩] && t.ctl.answer == none && !t.ctl.eack
        && t.ctl.lastResult == some ⟨.commit, .ok⟩) = true := by
  decide +kernel

/-- Section 6.6, step 1: Q2 and Q4 leave, 61 leaves, 60 stays in WRITING. -/
theorem test_rollback_settles :
    after .rollback (queued (operating { (capturing (withEntries (inEpoch board 30 259)
        [⟨40, .logged⟩, ⟨55, .logged⟩, ⟨60, .capturing⟩, ⟨61, .capturing⟩]) .writing 60 false) with ctl :=
          { board.ctl with epoch := some 30 } } .drainWrite 880 1 [LaneData.full ones])
        [entry 880 .guarded .opened 18 true, entry 960 .guarded (.tied 60) 19 false, entry 327680 .plain .opened 20 false,
          entry 976 .guarded (.tied 61) 21 false]) (fun t =>
      t.ctl.state == .rollingBack && t.queue.entries.map QueueEntry.word == [880, 327680] && t.table.reservations == 1
        && t.table.entries.map TableEntry.granule == [40, 55, 60] && t.capture.phase == .writing
        && t.capture.tail == 259 && t.engine.phase == .idle) = true := by
  decide +kernel

/-- Section 9's example, step 3: the boundary beat at word 655 is answered SPLIT. -/
theorem test_write_split :
    after (.hostWriteLaterBeat 15 ones) { withEntries board [⟨40, .logged⟩] with
        host := { board.host with cycle := some ⟨true, 655, 5, false⟩, portion := some ⟨.guarded, some 0, 40⟩
                                  gate := some .opened } }
      (fun t => t.host.response == .split && t.host.cycle == none && t.queue.entries.map QueueEntry.word == [655])
      = true := by
  decide +kernel

/-- Step 7: the boundary beat of a read. -/
theorem test_read_split :
    after (.hostReadLaterBeat 15) (queued { withEntries board [⟨40, .logged⟩] with
        host := { board.host with cycle := some ⟨false, 655, 3, false⟩, portion := some ⟨.guarded, some 0, 40⟩ } }
        [entry 655 .guarded .opened 103 false])
      (fun t => t.host.response == .split && t.host.data == LaneData.full ones && t.host.read == none) = true := by
  decide +kernel

/-- Before steps 9 and 10: a two-word host read at word 640 in progress, the beat at `word` waiting. -/
def hostReading (beat : Nat) (waiting : Bool) : State :=
  { (operating board .hostRead 640 2 []) with
    port := { board.port with op := some ⟨.hostRead, 640, 2, [], beat⟩ }
    host := { board.host with
      cycle := some ⟨false, 640 + beat, 2 - beat, false⟩, portion := some ⟨.guarded, some 0, 40⟩
      beat := if waiting then some ⟨15, LaneData.empty, beat = 0, .wordPending⟩ else none
      buffer := [(640, if beat = 0 then .requested else .arrived ones false), (641, .requested)]
      read := some ⟨640, 2, true, false⟩ } }

/-- Step 10: word 641 arrives with MERR; READ_FAILED, detail 40, and the buffer is emptied. -/
theorem test_read_fails :
    after (.hostReadWordArrival (some ones)) (hostReading 1 true) (fun t =>
      t.host.response == .error && t.events.records == [⟨.readFailed, 12, 40⟩] && t.host.buffer == []
        && t.host.cycle == none) = true := by
  decide +kernel

/-- Step 14: a write that decodes FIXED. -/
theorem test_write_refused :
    after (.hostWriteFirstBeat 300000 0 15 ones) (inEpoch board 50 0) (fun t =>
      t.host.response == .error && t.events.records == [⟨.writeRefused, 50, 0x1100493E⟩]) = true := by
  decide +kernel

/-- Section 10.5, step 7: at a count of 4 the drain is granted before the waiting host read. -/
theorem test_drain_ages :
    after .hostReadComplete (queued { board with
        port := ⟨some ⟨.hostRead, 700, 1, [], 1⟩, 700, 4⟩
        host := { board.host with
          cycle := some ⟨false, 701, 1, false⟩, portion := some ⟨.guarded, some 0, 43⟩
          beat := some ⟨15, LaneData.empty, true, .readPending⟩, read := some ⟨700, 1, true, true⟩ } }
        [entry 640 .guarded .opened 18 false]) (fun t =>
      t.port.op.map MemOp.kind == some .drainWrite && t.port.aging == 0 && t.host.read == some ⟨701, 1, false, false⟩)
      = true := by
  decide +kernel

/-- Section 12.3, step 1: PFW in SEALING with the seal not granted. -/
theorem test_pfw_parks :
    after .pfwTaken { inState (inEpoch board 70 3) .sealing (some .commit) with
        header := { board.header with writeRequest := some ⟨.commitSeal, .b, false, none, false, false⟩ } } (fun t =>
      t.ctl.state == .parked && t.header.writeRequest == none && t.events.records == [⟨.powerParked, 70, 9⟩]) = true := by
  decide +kernel

/-- Step 2: the restart; the event queue is kept. -/
theorem test_restart :
    after (.restart ⟨2, none⟩) { (inState board .parked none) with events := ⟨[⟨.powerParked, 70, 9⟩], false⟩ } (fun t =>
      t.ctl.state == .starting && t.events.records == [⟨.powerParked, 70, 9⟩] && t.dec.memorySize == some 4194304
        && t.port.op.map (fun o => (o.kind, o.start, o.length)) == some (.headerRead, 1048448, 64)) = true := by
  decide +kernel

/-- A header. -/
def header (generation : BitVec 64) (epoch : BitVec 48) (c : Configuration) : HeaderRecord :=
  ⟨false, generation, epoch, 3, c⟩

/-- The start-up read of a slot in progress. -/
def reading (slot : Slot) (surveyA : Option SlotSurvey) (readA : Option HeaderRecord) : State :=
  operating { State.reset with
    pins := board.pins
    dec := ⟨some 4194304, none, none⟩
    header := { HeaderUnit.reset with readRequest := some ⟨slot, true⟩, surveyA := surveyA, readA := readA } }
    .headerRead (slotWord 4194304 slot) 64 []

/-- Section 12.3, step 3, with slot B absent: slot A VALID at generation 100 and epoch 70 is selected. -/
theorem test_slot_a_selected :
    after (.headerReadComplete []) (reading .b (some ⟨.valid, some 3⟩) (some (header 100 70 (config 1 1024)))) (fun t =>
      t.header.surveyB == some ⟨.absent, none⟩ && t.header.selected == some .a && t.header.generation == some 100
        && t.ctl.epoch == some 70 && t.ctl.state == .recovering && t.table.status == some .intact
        && t.port.op.map (fun o => (o.kind, o.start, o.length)) == some (.recordRead, 1027968, 20)) = true := by
  decide +kernel

/-- Section 12.4, step 6: slot 2 is skipped in the walk. -/
theorem test_record_skipped :
    after (.recordReadComplete [⟨0, MWord.zero⟩]) (operating (walking (inState (inEpoch board 90 0) .recovering none) .recovery
        .reading 2 2 0 true) .recordRead 1028008 20 []) (fun t =>
      t.events.records == [⟨.recordDamaged, 90, 2⟩] && t.engine.damaged == 1 && t.engine.cursor == some 1
        && t.port.op.map (fun o => (o.kind, o.start)) == some (.recordRead, 1027988)) = true := by
  decide +kernel

/-- Step 7's last restore, and the seal of step 8: granule 40 restored, slot B unselected, epoch 91, generation 211. -/
theorem test_last_restore :
    after .restoreWriteComplete (operating { (walking (inState (inEpoch board 90 0) .recovering none) .recovery .restoring 0 3 1
        true) with header := { board.header with selected := some .b, generation := some 210 } } .restoreWrite 640 16
        (fullBeats (List.replicate 16 ones))) (fun t =>
      t.engine.restored == 4 && t.engine.phase == .idle && t.mem.length == 64
        && t.header.writeRequest == some ⟨.recoverySeal, .a, true, some ⟨false, 211, 91, 3, config 1 1024⟩, false, false⟩)
      = true := by
  decide +kernel
theorem test_recovery_done :
    after .recoverySealComplete (headerWriting { (inState (inEpoch board 90 0) .recovering none) with
        engine := { board.engine with restored := 4, damaged := 1 } } .recoverySeal .a
        (some ⟨false, 211, 91, 3, config 1 1024⟩) false) (fun t =>
      t.ctl.state == .opened && t.ctl.epoch == some 91 && t.events.records == [⟨.recoveryDone, 91, 4⟩]) = true := by
  decide +kernel

/-- The check code of the nine bytes "123456789", computed apart from the model by the steps of R110. -/
theorem test_check_code : headerCode [0x31, 0x32, 0x33, 0x34, 0x35, 0x36, 0x37, 0x38, 0x39] = 0x5440F15#32 := by
  decide +kernel

/-! ### The link (the example of chapter 11) and FORMAT -/

theorem test_stage_log :
    after (.stageLog 1100 1 12) (receiving board) (fun t => t.link.response == [0x01] && t.link.staged == config 1 1100)
      = true := by decide +kernel
theorem test_apply :
    after .apply { receiving board with link := { (receiving board).link with staged := config 1 1100 } } (fun t =>
      t.link.response == [0x01] && t.header.pendingConfig == some (config 1 1100)) = true := by decide +kernel
theorem test_apply_invalid :
    after .apply { receiving board with link := { (receiving board).link with staged := config 1 2000 } } (fun t =>
      t.link.response == [0x03] && t.header.pendingConfig == none) = true := by decide +kernel
theorem test_status :
    after .getStatus { receiving board with header := { board.header with pendingConfig := some (config 1 1100) } } (fun t =>
      t.link.response == [0x01, 6, 0, 1, 1, 0, 0, 0, 0, 0, 0, 0, 12, 0, 0, 0x04, 0x00, 0, 0, 0, 0, 0, 0, 0, 0]) = true := by
  decide +kernel
/-- A ROLLBACK's seal shows ROLLING_BACK (R94; log 34), a COMMIT's SEALING. -/
theorem test_status_of_seal :
    after .getStatus (receiving (inState board .sealing (some .rollback))) (fun t => t.link.response[1]? == some 8) = true
      ∧ after .getStatus (receiving (inState board .sealing (some .commit))) (fun t => t.link.response[1]? == some 9)
        = true := by decide +kernel
theorem test_pop_event :
    after .popEvent { receiving board with events := ⟨[⟨.configApplied, 13, 1100⟩], true⟩ } (fun t =>
      t.link.response == [0x01, 1, 0, 0, 0, 0, 0, 0, 13, 0, 0, 0x04, 0x4C] && t.events.records.length == 1
        && t.link.pendingRemoval) = true := by decide +kernel
theorem test_pop_empty :
    after .popEvent { receiving board with events := ⟨[], true⟩ } (fun t =>
      t.link.response == 0x01 :: List.replicate 12 0 && !t.events.lost) = true := by decide +kernel
theorem test_pop_removal :
    after .popEventRemoval { board with
        events := ⟨[⟨.configApplied, 13, 1100⟩], false⟩
        link := { board.link with phase := .responding, command := [0x02], pendingRemoval := true } } (fun t =>
      t.events.records == [] && t.link.phase == .spent) = true := by decide +kernel
theorem test_get_active :
    after .getActive (receiving board) (fun t => t.link.response.take 13
      == [0x01, 0x01, 12, 0x04, 0x00, 1, 1, 0, 0, 0, 16, 0, 0] && t.link.response.length == 69) = true := by decide +kernel
theorem test_get_staged :
    after .getStaged (receiving board) (fun t => t.link.response.take 5 == [0x01, 0x01, 12, 0x04, 0x00]) = true := by
  decide +kernel
theorem test_stage_region :
    after (.stageRegion 7 1 2 1023 65535) (receiving board) (fun t =>
      t.link.response == [0x01] && t.link.staged.regions.e7 == ⟨1, 2, 1023, 65535⟩) = true := by decide +kernel
theorem test_stage_region_above :
    after (.stageRegion 8 1 2 1023 65535) (receiving board) (fun t =>
      t.link.response == [0x03] && t.link.staged == board.link.staged) = true := by decide +kernel
theorem test_unstage :
    after .unstage { receiving board with
        link := { (receiving board).link with staged := config 1 1100 }
        header := { board.header with pendingConfig := some (config 1 1100) } } (fun t =>
      t.link.staged == config 1 1024 && t.header.pendingConfig == none) = true := by decide +kernel
theorem test_unknown_command :
    after (.unknownCommand 0x31) (receiving board) (fun t => t.link.response == [0x04]) = true := by decide +kernel
theorem test_frame_start :
    after .frameStart board (fun t => t.link.phase == .receiving && t.pins.ssnLow) = true := by decide +kernel
theorem test_frame_end :
    after .frameEnd (receiving board) (fun t => t.link.phase == .idle && !t.pins.ssnLow) = true := by decide +kernel

/-- A blank memory's device: UNFORMATTED, with the configuration of section 1.6 staged. -/
def blank : State :=
  { State.reset with
    pins := board.pins, dec := ⟨some 4194304, none, none⟩, ctl := { EpochController.reset with state := .unformatted }
    header := { HeaderUnit.reset with surveyA := some ⟨.absent, none⟩, surveyB := some ⟨.absent, none⟩ }
    link := { board.link with phase := .receiving } }

theorem test_format_begins :
    after (.format 5) blank (fun t => t.ctl.state == .formatting && t.link.response == [0x01]
      && t.port.op.map (fun o => (o.kind, o.start, o.length)) == some (.headerWrite, 1048512, 64)) = true := by decide +kernel
theorem test_format_not_now :
    after (.format 5) (receiving board) (fun t => t.link.response == [0x02] && t.ctl.state == .opened) = true := by
  decide +kernel

/-- A write of FORMAT in progress. -/
def formatting (kind : WriteKind) (target : Slot) (content : Option HeaderRecord) : State :=
  headerWriting { blank with ctl := { blank.ctl with state := .formatting } } kind target content false

theorem test_clearing_completes :
    after .clearingWriteComplete (formatting (.clearing 5) .b none) (fun t =>
      t.header.surveyB == some ⟨.absent, none⟩
        && t.port.op.map (fun o => (o.kind, o.start, o.length)) == some (.headerWrite, 1048448, 64)
        && t.header.writeRequest.bind WriteRequest.content == some ⟨false, 1, 1, 5, config 1 1024⟩) = true := by decide +kernel
theorem test_format_completes :
    after .formatWriteComplete (formatting (.formatWrite 5) .a (some ⟨false, 1, 1, 5, config 1 1024⟩)) (fun t =>
      t.ctl.state == .opened && t.ctl.epoch == some 1 && t.header.generation == some 1 && t.table.status == some .intact
        && t.header.active == some (config 1 1024) && t.header.formatNumber == some 5) = true := by decide +kernel

/-! ### Reset, and the port's last operation -/

theorem test_release_strap :
    after (.resetnRelease ⟨7, .strapFirst⟩) State.reset (fun t => t.ctl.state == .fault && t.ctl.faultReason == some .strap && t.alarm)
      = true := by decide +kernel
theorem test_release_reads_slot_a :
    after (.resetnRelease ⟨0, .strapFirst⟩) State.reset (fun t => t.dec.memorySize == some 1048576
      && t.port.op.map (fun o => (o.kind, o.start)) == some (.headerRead, 262016)) = true := by decide +kernel
theorem test_reset_tears :
    after (.resetnAssert [5]) (operating board .drainWrite 640 2 [LaneData.full ones, LaneData.full ones]) (fun t =>
      t.mem == [(2560, 1), (2562, 3)] && t.ctl.state == .starting && t.pins.resetLow) = true := by decide +kernel
theorem test_collapse_empties_events :
    after (.supplyCollapse []) { (inState board .parked none) with events := ⟨[⟨.powerParked, 12, 6⟩], true⟩ } (fun t =>
      t.events == ⟨[], false⟩ && t.mem == []) = true := by decide +kernel
theorem test_illegal_operation :
    after .illegalOperation board (fun t => t.ctl.answer == some ⟨.illegal, .refused⟩ && t.ctl.eres == .refused) = true := by
  decide +kernel

/-- PFW standing asserted at the release (R127): PARKED at once, from STARTING with the strap sampled or not yet, or from the
FAULT of code 7; POWER_PARKED tells which (R176: STARTING 1, FAULT 4). -/
def releasedUnderPfw (msz : BitVec 3) (order : StartOrder) (p : State → Bool) : Bool :=
  after (.resetnRelease ⟨msz, order⟩) { State.reset with pins := { State.reset.pins with pfw := true } } fun t =>
    t.ctl.state == .parked && t.port.op == none && t.header.readRequest == none && p t

theorem test_release_under_pfw :
    releasedUnderPfw 0 .strapFirst (fun t => t.dec.memorySize == some 1048576 && t.events.records == [⟨.powerParked, 0, 1⟩])
        = true
      ∧ releasedUnderPfw 0 .pfwFirst (fun t => t.dec.memorySize == none && t.events.records == [⟨.powerParked, 0, 1⟩]) = true
      ∧ releasedUnderPfw 7 .strapFirst (fun t => t.events.records == [⟨.powerParked, 0, 4⟩]) = true := by decide +kernel
theorem test_restart_into_pfw :
    after (.restart ⟨2, some .strapFirst⟩) (inState board .parked none) (fun t =>
      t.ctl.state == .parked && t.pins.pfw && t.header.active == none && t.events.records == [⟨.powerParked, 0, 1⟩]) = true := by
  decide +kernel

/-! ### The output lines -/

/-- The table of R152 over a drain write of two words, and over a read; the inactive levels of PARKED (R132) and
RESETN (R134). -/
theorem test_write_lines :
    let s := operating board .drainWrite 640 2 [LaneData.full ones, ⟨none, none, some 9, none⟩];
    s.memoryLines .address = ⟨640, true, true, 0, false, LaneData.empty⟩
      ∧ s.memoryLines (.beat 0) = ⟨640, true, false, 15, true, LaneData.full ones⟩
      ∧ s.memoryLines (.beat 1) = ⟨641, true, false, 4, true, ⟨none, none, some 9, none⟩⟩
      ∧ s.memoryLines .turnaround = ⟨641, true, true, 0, false, LaneData.empty⟩ := by decide +kernel
theorem test_read_lines :
    let s := operating board .headerRead 1048448 64 [];
    s.memoryLines (.beat 63) = ⟨1048511, false, true, 15, false, LaneData.empty⟩ ∧ s.readStrobe (.beat 63) = true
      ∧ s.writeStrobe (.beat 63) = false := by decide +kernel
theorem test_idle_lines :
    { inState board .parked none with port := ⟨none, 1048511, 0⟩ }.memoryLines .address
        = ⟨1048511, true, true, 0, false, LaneData.empty⟩
      ∧ State.reset.memoryLines (.beat 0) = ⟨0, true, true, 0, false, LaneData.empty⟩ := by decide +kernel

/-- READY on the edge after the beat's and 000 from then on (R137, R151); WAIT while a beat is held. -/
theorem test_response_lines :
    after (.hostReadFirstBeat 643 0 15) merged (fun t => t.hrsp 1 == 1 && t.hd 1 == ⟨some 1, some 2, some 9, some 4⟩
      && t.hrsp 2 == 0 && t.hd 2 == LaneData.empty) = true
      ∧ (hostReading 0 true).hrsp 1 = 2 ∧ (hostReading 0 true).hrsp 7 = 2 := by decide +kernel

/-- GET_ACTIVE answered in a frame (R163): 0x00 for the command and the gap, DONE (0x01) as byte 2, policy 1 and watermark
12 behind it, each byte's most significant bit first; no byte after the last; SPENT with its last bit (R164). -/
theorem test_sdo :
    after .getActive (receiving board) (fun t =>
      (List.range 8).map t.link.sdoByte == [0, 0, 1, 1, 12, 4, 0, 1] && t.link.sdoByte 71 == 0
        && (List.range 8).map (fun k => t.sdo (8 + k)) == (List.replicate 7 (some false) ++ [some true])
        && (t.link.clocked (8 * 70 - 1)).phase == .responding && (t.link.clocked (8 * 70)).phase == .spent) = true := by
  decide +kernel
theorem test_sdo_undriven : board.sdo 3 = none := by decide
theorem test_named_byte_is_no_unknown_command :
    after (.unknownCommand 0x30) (receiving board) (fun t => t == receiving board) = true := by decide +kernel

/-! ### A header and a record, written out from R109, R110, R21 and R23 -/

/-- Bytes standing in memory from an address on. -/
def cells (address : Nat) (bytes : List Byte) : Memory :=
  (bytes.zipIdx.filter (fun b => b.1 != 0)).map fun b => (address + b.2, b.1)

/-- The header of generation 101 and epoch 71, format number 3, the configuration of section 1.6; its check code was
computed apart from the model. -/
def headerBytes : List Byte :=
  [0x56, 0x43, 0x46, 0x31, 0x01, 0x01, 0x01, 0x0C, 0, 0, 0, 0, 0, 0, 0, 0x65, 0, 0, 0, 0, 0, 0x47, 0x04, 0x00, 0, 0, 0, 3,
    0, 0, 0, 0]
  ++ [1, 1, 0, 0, 0, 16, 0, 0] ++ [1, 3, 0, 16, 0, 4, 0, 0] ++ [1, 2, 0, 20, 0, 8, 0, 0] ++ [0, 1, 0, 0, 0, 1, 0, 0]
  ++ [1, 1, 0, 40, 0, 22, 0, 0] ++ [0, 1, 0, 0, 0, 1, 0, 0] ++ [0, 1, 0, 0, 0, 1, 0, 0] ++ [0, 1, 0, 0, 0, 1, 0, 0]
  ++ List.replicate 156 0 ++ [0x2D, 0x6B, 0x7D, 0x48]

/-- The record of slot 15, granule 40, epoch 90, format number 3, with an image of the bytes 1 to 4 over and over; its
check code was computed apart from the model. -/
def recordBytes : List Byte :=
  [0xA7, 0x00, 0x0F, 0x00, 0x00, 0x28, 0, 0, 0, 0, 0, 0x5A, 0x1E, 0x5D, 0xD7, 0x93]
    ++ (List.replicate 16 [1, 2, 3, 4]).flatten

/-- The check register run over bytes with its value brought to a numeral at every byte. -/
def clocked : List Byte → BitVec 32 → BitVec 32
  | [], r => r
  | b :: rest, r => match (crcByte r b).toNat with
    | 0 => clocked rest 0
    | n + 1 => clocked rest (BitVec.ofNat 32 (n + 1))

theorem clocked_eq (bytes : List Byte) (r : BitVec 32) : clocked bytes r = bytes.foldl crcByte r := by
  induction bytes generalizing r with
  | nil => rfl
  | cons b rest ih =>
    simp only [clocked, List.foldl_cons]
    split <;> rename_i h <;> rw [ih]
    · exact congrArg (fun x => rest.foldl crcByte x) (BitVec.eq_of_toNat_eq h.symm)
    · rename_i n
      have e : BitVec.ofNat 32 (n + 1) = crcByte r b := by
        rw [← Nat.succ_eq_add_one, ← h, BitVec.ofNat_toNat, BitVec.setWidth_eq]
      rw [e]

theorem test_header_code : headerCode (headerBytes.take 252) = 0x2D6B7D48#32 := by
  unfold headerCode checkCode; rw [← clocked_eq]; decide +kernel
theorem test_header_valid : judgeSlot 4194304 false headerBytes = .valid := by
  unfold judgeSlot; rw [test_header_code]; decide +kernel
theorem test_header_fields :
    HeaderRecord.ofBytes headerBytes = ⟨false, 101, 71, 3, config 1 1024⟩ := by decide +kernel
theorem test_header_written : bytesOf (HeaderRecord.words ⟨false, 101, 71, 3, config 1 1024⟩) = headerBytes := by
  have h : HeaderRecord.covered ⟨false, 101, 71, 3, config 1 1024⟩ = headerBytes.take 252 := by decide +kernel
  unfold HeaderRecord.words; rw [h, test_header_code]; decide +kernel

theorem test_record_code :
    recordCode 3 (recordBytes.take 12 ++ (recordBytes.drop 16).take 64) = 0x1E5DD793#32 := by
  unfold recordCode checkCode; rw [← clocked_eq]; decide +kernel
theorem test_record_written :
    bytesOf (recordWords 3 15 40 90 (List.replicate 16 ones)) = recordBytes := by
  have h : recordHead 15 40 90 ++ bytesOf (List.replicate 16 ones)
      = recordBytes.take 12 ++ (recordBytes.drop 16).take 64 := by decide +kernel
  unfold recordWords; simp only []; rw [h, test_record_code]; decide +kernel
theorem test_record_passes : recordPasses 3 (wordsOf recordBytes) = true := by
  have h : bytesOf (wordsOf recordBytes) = recordBytes := by decide +kernel
  unfold recordPasses; simp only []; rw [h, test_record_code]; decide +kernel
theorem test_record_of_other_format : recordPasses 4 (wordsOf recordBytes) = false := by
  have h : bytesOf (wordsOf recordBytes) = recordBytes := by decide +kernel
  unfold recordPasses recordCode checkCode; simp only []; rw [h, ← clocked_eq]; decide +kernel

/-! ### For every statement with hypotheses, states that meet them, clause by clause -/

/-- A word of the FIXED, the PLAIN, the RESERVED region of section 1.6. -/
def fixedWord : BitVec 24 := 327679#24
def plainWord : BitVec 24 := 327680#24
def reservedWord : BitVec 24 := 1027968#24

/-- Eight PLAIN entries, which no beat of another word merges into. -/
def eight : List QueueEntry := (List.range 8).map fun k => entry (327680 + 2 * k) .plain .opened (BitVec.ofNat 16 k) false

/-- Some CAPTURING entries of granules 100 on, none in flight; the unit is held by `busy` where it must be. -/
def waitingCaptures (n : Nat) : List TableEntry := (List.range n).map fun k => ⟨100 + k, .capturing⟩

/-- An epoch status. -/
def withStatus (s : State) (v : EpochStatus) : State := { s with table := { s.table with status := some v } }

/-- A cycle with its portion. -/
def cycling (s : State) (c : Cycle) (p : Portion) (gate : Option Gate) (b : Option Beat) : State :=
  { s with host := { s.host with cycle := some c, portion := some p, gate := gate, beat := b } }

/-- A write beat held, of a one-beat cycle. -/
def holding (s : State) (word : Nat) (p : Portion) (first : Bool) (gate : Option Gate) (reason : WaitReason) : State :=
  let s := cycling s ⟨true, word, 1, false⟩ p gate (some ⟨15, LaneData.full ones, first, reason⟩)
  { s with host := { s.host with response := .wait } }

/-- A PLAIN write beat held on a full queue. -/
def heldWrite (s : State) : State := holding (queued s eight) 1027967 ⟨.plain, none, 64247⟩ true none .queueFull

/-- Behind a host read that a truncated cycle left, with some of its two words handed over. -/
def behindRead (s : State) (beat : Nat) : State :=
  { s with
    port := ⟨some ⟨.hostRead, 640, 2, [], beat⟩, 640, 0⟩
    host := { s.host with read := some ⟨640, 2, true, true⟩ } }

/-- The drain write of the oldest of eight entries in progress. -/
def drainingEight (s : State) : State :=
  operating (queued s (entry 327680 .plain .opened 0 true :: eight.drop 1)) .drainWrite 327680 1 [LaneData.full ones]

/-- Events in the queue. -/
def withEvents (s : State) (n : Nat) : State := { s with events := ⟨List.replicate n ⟨.configApplied, 12, 1⟩, false⟩ }

theorem meets_StepRunsFrontCommand :
    { board with pending := [.commit, .flush] }.pending = .commit :: [.flush] ∧ board.pending = [] := by decide +kernel

theorem meets_ExecKeepsWaitingCommands :
    after .commit { board with pending := [.flush] } (fun t => t.pending == [.flush]) = true := by decide +kernel

theorem meets_ExecStopsOnlyBeyondMemory :
    (match exec .drainWriteComplete (operating board .drainWrite 1048575 2 [LaneData.full ones, LaneData.full ones]) with
      | .fault .beyondMemory => true
      | .next _ => false
      | .refused _ => false) = true
    ∧ after .drainWriteComplete (operating board .drainWrite 1048575 1 [LaneData.full ones]) (fun _ => true) = true := by
  decide +kernel

theorem meets_LinkCommandsReadBack :
    (Instr.stageRegion 255 0 3 65535 0).wf = true
      ∧ linkBytes (.stageRegion 255 0 3 65535 0) = some [0x10, 0xFF, 0, 3, 0xFF, 0xFF, 0, 0]
      ∧ linkCommand [0x10, 0xFF, 0, 3, 0xFF, 0xFF, 0, 0] = some (.stageRegion 255 0 3 65535 0)
      ∧ bytesWord [0x10, 0xFF, 0, 3, 0xFF, 0xFF, 0, 0] = 0x0000FFFF0300FF10 := by decide +kernel

/-- A command waiting. -/
def commanded (s : State) (c : Instr) : State := { s with pending := [c] }

/-- One step of a machine meets a test. -/
def steps (s : State) (p : State → Bool) : Bool :=
  match step s with
  | .next t => p t
  | .fault _ => false
  | .refused _ => false

/-- A word's command is put in front of the queue and runs. -/
theorem test_fetch_word :
    ((receiving board).withFetchWord 8 0x7F).pending = [.unknownCommand 0x7F]
      ∧ steps ((receiving board).withFetchWord 8 0x01) (fun t => t.link.response.length == 25 && t.pending == []) = true
      ∧ board.withFetchWord 0 0 = board := by
  and_intros <;> decide +kernel

/-- Lawful states in each of which a step does what some clause of the invariants speaks of: a commit taken, a drain ending
in DRAINING and in PARKING, a capture's read ending clean, stopped and failed with gates TIED to it, an answer given, a
start-up read and a record read ending, a frame begun. -/
theorem meets_Lawful_commit : (commanded board .commit).Lawful := by constructor <;> decide +kernel
theorem meets_Lawful_drain : (commanded lastDrain .drainWriteComplete).Lawful := by constructor <;> decide +kernel
theorem meets_Lawful_capture : (commanded (exhausted 1) (.preImageReadComplete [])).Lawful := by
  constructor <;> decide +kernel
theorem meets_Lawful_failure : (commanded (exhausted 2) (.preImageReadComplete [⟨15, MWord.zero⟩])).Lawful := by
  constructor <;> decide +kernel
theorem meets_Lawful_first_beat : (commanded (exhausted 2) (.hostWriteFirstBeat 1152 0 15 ones)).Lawful := by
  constructor <;> decide +kernel
theorem meets_Lawful_start : (commanded (reading .a none none) (.headerReadComplete [])).Lawful := by
  constructor <;> decide +kernel
theorem meets_Lawful_held : (behindRead (heldWrite board) 0).Lawful := by constructor <;> decide +kernel
theorem meets_Lawful_held_end : (behindRead (heldWrite board) 2).Lawful := by constructor <;> decide +kernel
theorem meets_Lawful_held_drain :
    (holding (drainingEight board) 1027967 ⟨.plain, none, 64247⟩ true none .queueFull).Lawful := by
  constructor <;> decide +kernel
theorem meets_Lawful_frame : (commanded board .frameStart).Lawful := by constructor <;> decide +kernel

theorem meets_StepKeepsBlocksConsistent :
    steps (commanded board .commit) (fun t => t.ctl.state == .sealing && t.ctl.phase == .working) = true
      ∧ steps (commanded board .frameStart) (fun t => t.link.phase == .receiving) = true
      ∧ steps (commanded (reading .a none none) (.headerReadComplete [])) (fun t => t.header.readRequest == some ⟨.b, true⟩)
        = true := by
  and_intros <;> decide +kernel
theorem meets_StepKeepsQueueAndPort :
    steps (commanded lastDrain .drainWriteComplete) (fun t => t.port.op.map MemOp.kind == some .headerWrite) = true
      ∧ steps (commanded (exhausted 2) (.preImageReadComplete [⟨15, MWord.zero⟩]))
        (fun t => t.queue.entries.map QueueEntry.gate == [.waitMark, .waitMark] && t.table.status == some .breaking) = true := by
  and_intros <;> decide +kernel
theorem meets_StepPostsWritesOnlyInOpen :
    lastDrain.ctl.state ≠ .opened ∧ steps (commanded lastDrain .drainWriteComplete) (fun t => t.queue.entries == []) = true
      ∧ steps (commanded (exhausted 2) (.hostWriteFirstBeat 1152 0 15 ones)) (fun t => t.queue.entries.length == 3) = true := by
  and_intros <;> decide +kernel
theorem meets_StepLeavesNothingDue :
    lastDrain.consistent ∧ lastDrain.workConserving ∧ lastDrain.handshakeLawful ∧ lastDrain.requestAgrees
      ∧ lastDrain.nothingDue := by
  and_intros <;> decide +kernel
theorem meets_step_bounds :
    lastDrain.mem.wf = true ∧ lastDrain.bounded ∧ lastDrain.table.lawful ∧ (∀ e ∈ lastDrain.queue.entries, e.lawful)
      ∧ lastDrain.cycleLawful := by
  and_intros <;> decide +kernel
theorem meets_StepStaysInMemory :
    steps (commanded (exhausted 1) (.preImageReadComplete []))
      (fun t => t.capture.slot == some 14 && t.port.op.map (fun o => (o.kind, o.length)) == some (.recordWrite, 20)) = true := by
  decide +kernel

/-- The seal of `sealing` with its own data in progress: the generation that rises (R113). -/
def sealed : HeaderRecord := ⟨false, 41, 13, 3, config 1 1024⟩
def sealingWhole : State :=
  { sealing (config 1 1024) none with
    pending := [.sealComplete]
    port := { board.port with op := some ⟨.headerWrite, slotWord 4194304 .b, 64, fullBeats (headerWords (some sealed)), 0⟩ } }

theorem meets_Lawful_seal : sealingWhole.Lawful := by
  constructor
  case port =>
    refine ⟨fun o h => ?_, by decide +kernel⟩
    cases h
    exact ⟨rfl, rfl, by decide, fun _ => rfl⟩
  all_goals decide +kernel
theorem meets_StepKeepsUnitContents :
    sealingWhole.header.generation = some 40
      ∧ steps sealingWhole (fun t => t.header.generation == some 41 && t.header.writeRequest == none) = true := by
  and_intros <;> decide +kernel

/-- A board in PARKING, entered from a state, with an operation in progress and PFW asserted or not. -/
def parkingWith (pfw : Bool) (source : DeviceState) (kind : OpKind) (s : State) : State :=
  let t := operating { s with
    ctl := { s.ctl with
      state := .parking, parkedFrom := some source, phase := .idle, pendingRequest := none, lowSeen := true }
    pins := { s.pins with pfw := pfw, ereq := false } } kind 640 1 []
  { t with
    port := { t.port with op := some ⟨kind, 640, 1, [], if kind = .hostRead then 1 else 0⟩ }
    host := { t.host with beat := none } }

/-- PFW seen deasserted in PARKING and back on the first sample of the restart that follows (R127). -/
def restartingIntoPfw : State :=
  let s := parkingWith false .opened .drainWrite board
  { s with ctl := { s.ctl with again := some .strapFirst } }

theorem meets_ActiveConfigurationChangesOnlyAsStated :
    after .sealComplete (sealing (config 1 1100) (some (config 1 1100))) (fun t => t.header.active != some (config 1 1024))
      = true ∧ after .formatWriteComplete (formatting (.formatWrite 5) .a (some ⟨false, 1, 1, 5, config 1 1024⟩))
        (fun t => t.header.active != none) = true
      ∧ after (.restart ⟨2, some .pfwFirst⟩) (inState board .parked none)
        (fun t => t.header.active == none && t.ctl.state == .parked) = true
      ∧ after .drainWriteComplete restartingIntoPfw (fun t => t.header.active == none && t.ctl.state == .parked) = true := by
  decide +kernel
theorem meets_MemoryChangesOnlyByWritesInProgress :
    after .drainWriteComplete lastDrain (fun t => t.mem.read 1310723 != lastDrain.mem.read 1310723) = true := by
  decide +kernel

theorem meets_CutOffResetsEverything :
    (operating board .drainWrite 1048575 1 [LaneData.full ones]).tornMemory [8] = some [(4194303, 4)]
      ∧ board.tornMemory [] = some [] := by decide +kernel
theorem meets_CutOffTearsOnlyTheWrite :
    (operating board .headerRead 1048448 64 []).tornMemory [15] = some []
      ∧ (operating board .drainWrite 640 1 [LaneData.full ones]).tornMemory [1] = some [(2560, 1)] := by decide +kernel

theorem meets_ReleaseStartsUp :
    State.reset.pins.resetLow = true ∧ State.reset.heldInReset
      ∧ { State.reset with pins := { State.reset.pins with ereq := true, eop := 3 } }.heldInReset
      ∧ State.reset.pins.pfw = false ∧ { State.reset with pins := { State.reset.pins with pfw := true } }.heldInReset
      ∧ { State.reset with pins := { State.reset.pins with pfw := true } }.pins.resetLow = true
      ∧ (6#3).toNat < 7 ∧ 67108864 = 2 ^ (20 + (6#3).toNat) ∧ 1048576 = 2 ^ (20 + (0#3).toNat) := by decide +kernel

theorem meets_RestartBeginsInParkedOnly :
    board.pins.resetLow = false ∧ board.ctl.state ≠ .parked ∧ (inState board .parked none).pins.resetLow = false
      ∧ (inState board .parked none).ctl.state = .parked ∧ (6#3).toNat < 7 ∧ board.ctl.state ≠ .parking
      ∧ restartingIntoPfw.pins.resetLow = false ∧ restartingIntoPfw.ctl.state = .parking := by decide +kernel

/-- A host read in progress, a waiting beat of no granted read, a granted and an ungranted engine; 15 and 16 events. -/
theorem meets_PfwParksTheDevice :
    (hostReading 0 true).pins.resetLow = false ∧ (hostReading 0 true).ctl.state ≠ .parking
      ∧ (hostReading 0 true).ctl.state ≠ .parked ∧ (hostReading 0 true).port.op.isSome
      ∧ (hostReading 0 true).host.beat.isSome ∧ (hostReading 0 false).host.beat = none
      ∧ (withEvents board 15).port.op = none ∧ (withEvents board 15).events.records.length < 16
      ∧ (withEvents board 16).pins.resetLow = false ∧ (withEvents board 16).ctl.state ≠ .parking
      ∧ (withEvents board 16).ctl.state ≠ .parked ∧ 16 ≤ (withEvents board 16).events.records.length
      ∧ (walking board .rollback .reading 0 0 0 true).engine.granted = true
      ∧ restartingIntoPfw.pins.resetLow = false ∧ restartingIntoPfw.ctl.state = .parking
      ∧ (inState board .parked none).ctl.state = .parked := by decide +kernel

/-- A pre-image read in progress. -/
def preImageOf (s : State) : State := capturePort (capturing (withEntries s [⟨40, .capturing⟩]) .reading 40 true) 40

/-- The mark write in progress with a capture in flight in WRITING (the last but one paragraph of section 3.6). -/
def marking : State :=
  headerWriting (withStatus (capturing (withEntries (inEpoch board 9 14) [⟨5, .logged⟩, ⟨70, .capturing⟩]) .writing 70 false)
    .breaking) .mark .b (some ⟨true, 41, 9, 3, config 1 1024⟩) false

/-- The recovery seal in progress, with EREQ low and standing high since before the start-up. -/
def recoverySealing (ereq : Bool) : State :=
  let s := headerWriting (inState (inEpoch board 90 0) .recovering none) .recoverySeal .b
    (some ⟨false, 41, 91, 3, config 1 1024⟩) false
  { s with pins := { s.pins with ereq := ereq, eop := 1 }, ctl := { s.ctl with lowSeen := !ereq } }

/-- The premises of a completion in PARKING. -/
abbrev completesParking (s : State) (kind : OpKind) : Prop :=
  s.ctl.state = .parking ∧ s.consistent ∧ s.table.lawful
    ∧ s.completing kind = .underway ⟨kind, 640, 1, [], if kind = .hostRead then 1 else 0⟩

theorem meets_CompletionInParkingParks :
    completesParking (parkingWith true .opened .drainWrite board) .drainWrite
      ∧ completesParking restartingIntoPfw .drainWrite ∧ restartingIntoPfw.ctl.again = some .strapFirst
      ∧ completesParking (parkingWith true .opened .hostRead (hostReading 1 false)) .hostRead
      ∧ completesParking (parkingWith true .opened .preImageRead (preImageOf board)) .preImageRead
      ∧ (preImageOf board).capture.granule = some 40
      ∧ completesParking (parkingWith true .opened .recordWrite (queued (capturing traced .writing 40 true) [])) .recordWrite
      ∧ completesParking (withStatus (parkingWith true .opened .recordWrite
          (capturing (withEntries board [⟨40, .capturing⟩]) .writing 40 true)) .broken) .recordWrite
      ∧ completesParking (parkingWith false .rollingBack .recordRead (walking board .rollback .reading 0 0 0 true)) .recordRead
      ∧ completesParking (parkingWith false .rollingBack .restoreWrite (walking board .rollback .restoring 0 0 0 true))
        .restoreWrite
      ∧ completesParking (parkingWith false .starting .headerRead (reading .a none none)) .headerRead
      ∧ (reading .a none none).header.readRequest.map ReadRequest.slot = some .a
      ∧ completesParking (parkingWith true .starting .headerRead (reading .b (some ⟨.absent, none⟩) none)) .headerRead := by
  and_intros <;> decide +kernel

/-- The header writes: a mark beside a capture in WRITING, a seal with and without a pending configuration, FORMAT's two. -/
theorem meets_CompletionInParkingParks_writes :
    completesParking (parkingWith true .opened .headerWrite { marking with queue := .reset }) .headerWrite
      ∧ (marking.header.writeRequest.map WriteRequest.kind = some .mark)
      ∧ completesParking (parkingWith true .sealing .headerWrite (sealing (config 1 1024) none)) .headerWrite
      ∧ completesParking (parkingWith false .sealing .headerWrite (sealing (config 1 1100) (some (config 1 1100)))) .headerWrite
      ∧ completesParking (parkingWith true .recovering .headerWrite (recoverySealing false)) .headerWrite
      ∧ completesParking (parkingWith true .formatting .headerWrite (formatting (.clearing 5) .b none)) .headerWrite
      ∧ completesParking (parkingWith true .formatting .headerWrite
          (formatting (.formatWrite 5) .a (some ⟨false, 1, 1, 5, config 1 1024⟩))) .headerWrite
      ∧ (formatting (.clearing 5) .b none).header.writeRequest = some ⟨.clearing 5, .b, true, none, false, false⟩ := by
  and_intros <;> decide +kernel

/-- With PFW seen deasserted meanwhile, PARKED is passed through and the restart begins; with it asserted it is kept. -/
theorem test_parking_restarts :
    after .drainWriteComplete (parkingWith false .opened .drainWrite board) (fun t =>
      t.ctl.state == .starting && t.events.records == [⟨.powerParked, 12, 6⟩]) = true := by decide +kernel
theorem test_parking_parks :
    after .drainWriteComplete (parkingWith true .opened .drainWrite board) (fun t =>
      t.ctl.state == .parked && t.events.records == [⟨.powerParked, 12, 6⟩]) = true := by decide +kernel

/-- PFW back on the restart's first sample: the device is PARKED again from STARTING, and no read was granted (R127, R132);
PFW_TAKEN in PARKING leaves no trace of the release. -/
theorem test_parking_restarts_into_pfw :
    after .drainWriteComplete restartingIntoPfw (fun t =>
      t.ctl.state == .parked && t.events.records == [⟨.powerParked, 12, 6⟩, ⟨.powerParked, 0, 1⟩] && t.port.op == none
        && t.header.readRequest == none && t.dec.memorySize == some 4194304 && t.pins.pfw) = true
      ∧ after .pfwTaken restartingIntoPfw (fun t => t.ctl.again == none && t.pins.pfw) = true
      ∧ after (.restart ⟨2, some .pfwFirst⟩) (parkingWith true .opened .drainWrite board) (fun t =>
        t.ctl.state == .parking && t.ctl.again == some .pfwFirst && !t.pins.pfw) = true := by decide +kernel

/-- Requests that stand on an IDLE port: a drain write, and a host read beside it at an aging count. -/
def standingDrain (aging : Nat) (read : Bool) : State :=
  let s := queued board [entry 640 .guarded .opened 18 false]
  { s with
    port := ⟨none, 0, aging⟩
    host := { s.host with
      read := if read then some ⟨701, 1, false, false⟩ else none } }

/-- With an operation, with nothing standing, in PARKED; a drain alone, a read at a count of 3, the drain before it at 4. -/
theorem meets_GrantsByRankAndDrivesLines :
    lastDrain.port.op.isSome ∧ (inState board .parked none).ctl.state = .parked
      ∧ (∀ r ∈ [Requester.header, .engine, .capture, .hostRead, .drain], board.standing r = none)
      ∧ (standingDrain 0 false).port.op = none ∧ (standingDrain 0 false).ctl.state ≠ .parking
      ∧ (standingDrain 0 false).ctl.state ≠ .parked
      ∧ (standingDrain 0 false).standing .drain = some ⟨.drainWrite, 640, 1, [LaneData.full ones], 0⟩
      ∧ (standingDrain 0 false).wins .drain
      ∧ (standingDrain 3 true).standing .hostRead = some ⟨.hostRead, 701, 1, [], 0⟩ ∧ (standingDrain 3 true).wins .hostRead
      ∧ (standingDrain 4 true).wins .drain := by
  and_intros <;> decide +kernel
/-- A step that grants below the highest rank, and the lines' clauses: RESETN, IDLE, a write and a read, a held beat, an
answered one, a response in the frame. -/
theorem meets_GrantsByRankAndDrivesLines_step :
    (commanded (exhausted 1) (.preImageReadComplete [])).port.op.map MemOp.kind = some .preImageRead
      ∧ steps (commanded (exhausted 1) (.preImageReadComplete [])) (fun t =>
        t.port.op.map (fun o => (o.kind, o.beat)) == some (.recordWrite, 0)
          && t.standing .header == none && t.standing .engine == none) = true
      ∧ OpKind.requester .recordWrite = .capture ∧ Requester.header ∈ Requester.capture.above := by
  and_intros <;> decide +kernel
/-- A write beat held on a full queue, as the drain write is granted (`meets_Lawful_held_end`). -/
theorem meets_GrantsByRankAndDrivesLines_held :
    (commanded (behindRead (heldWrite board) 2) .hostReadComplete).port.op.map MemOp.kind = some .hostRead
      ∧ steps (commanded (behindRead (heldWrite board) 2) .hostReadComplete) (fun t =>
        t.port.op.map (fun o => (o.kind, o.beat)) == some (.drainWrite, 0) && t.standing .capture == none) = true := by
  and_intros <;> decide +kernel
theorem meets_GrantsByRankAndDrivesLines_lines :
    State.reset.pins.resetLow = true ∧ board.pins.resetLow = false ∧ board.port.op = none
      ∧ lastDrain.port.op = some ⟨.drainWrite, 327680, 1, [LaneData.full ones], 0⟩
      ∧ [LaneData.full ones][0]? = some (LaneData.full ones)
      ∧ (hostReading 0 true).port.op = some ⟨.hostRead, 640, 2, [], 0⟩ ∧ (hostReading 0 true).host.beat.isSome
      ∧ board.host.beat = none ∧ board.link.phase = .idle
      ∧ after .getActive (receiving board) (fun t => t.link.phase == .responding && t.link.bitCount == 0
        && t.link.byteCount == t.link.command.length && t.link.response[0]? == some 0x01) = true := by
  and_intros <;> decide +kernel

/-- The first and the last byte of region 1 (base 16, length 4) and of region 4 (base 40, length 22), FIXED and GUARDED; the
first byte of no region behind region 2, and the last below the granule floor; the first RESERVED, the last of the memory. -/
theorem meets_AddressesDecodeInOrder :
    board.dec.geometry = some (geometryOf 4194304 1024) ∧ board.dec.table = some regions
      ∧ regions.toList[1]? = some ⟨1, 3, 16, 4⟩ ∧ (RegionEntry.mk 1 3 16 4).holds 1048576
      ∧ (RegionEntry.mk 1 3 16 4).holds 1310719 ∧ ¬(RegionEntry.mk 1 3 16 4).holds 1310720
      ∧ (∀ f ∈ regions.toList.take 1, ¬f.holds 1048576) ∧ (0x03#8, DecodeClass.fixed) ∈ [(0x01#8, DecodeClass.guarded),
        (0x02#8, .plain), (0x03#8, .fixed)]
      ∧ regions.toList[4]? = some ⟨1, 1, 40, 22⟩ ∧ (RegionEntry.mk 1 1 40 22).holds 2621440
      ∧ (RegionEntry.mk 1 1 40 22).holds 4063231
      ∧ (∀ f ∈ regions.toList, ¬f.holds 1835008) ∧ (∀ f ∈ regions.toList, ¬f.holds 4111871)
      ∧ 64 * ((4194304 - (512 + 80 * 1024)) / 64) = 4111872 := by
  and_intros <;> decide +kernel
theorem test_decode_boundaries :
    [1048575, 1048576, 1310719, 1310720, 2621440, 4063231, 1835008, 4111871, 4111872, 4194303, 4194304].map
        (board.dec.decode ·)
      = [(.guarded, some 0), (.fixed, some 1), (.fixed, some 1), (.plain, some 2), (.guarded, some 4), (.guarded, some 4),
        (.plain, none), (.plain, none), (.reserved, none), (.reserved, none), (.outside, none)] := by decide +kernel

/-- A header and records at the ends of their fields' ranges; the record of a capture in WRITING, in a lawful state. -/
def writingWhole : State :=
  let record := recordWords 3 5 40 7 (List.replicate 16 ones)
  { operating traced .recordWrite ((geometryOf 4194304 1024).logWord 5) 20 (fullBeats record) with
    capture := ⟨5, .writing, some 40, true, false, List.replicate 16 ones, some 5, record⟩ }

theorem meets_Lawful_writing : writingWhole.Lawful := by
  constructor
  case port =>
    refine ⟨fun o h => ?_, by decide +kernel⟩
    cases h
    exact ⟨rfl, rfl, by decide, fun _ => rfl⟩
  case capture =>
    refine ⟨by decide +kernel, ?_, ?_, fun _ => ⟨rfl, rfl, by decide +kernel, rfl⟩⟩ <;> decide +kernel
  all_goals decide +kernel
theorem meets_WrittenLayoutsJudgedGood :
    (config 1 1024).valid 4194304 = true ∧ (71#48) ≠ 0 ∧ (18446744073709551615#64) ≠ 0 ∧ (65535 : Nat) < 65536
      ∧ (16777215 : Nat) < 16777216 ∧ (List.replicate 16 ones).length = 16 ∧ (40 : Nat) < 4111872 / 64 ∧ (4#32) ≠ 3#32
      ∧ writingWhole.capture.phase = .writing := by
  and_intros <;> decide +kernel

theorem meets_FirstBeatAnsweredByState :
    board.pins.resetLow = false ∧ board.host.beat = none ∧ board.ctl.state = .opened ∧ 5 ≤ (5#3).toNat
      ∧ (inState board .sealing (some .commit)).ctl.state = .sealing
      ∧ (inState board .formatting none).ctl.state = .formatting
      ∧ (inState board .rollingBack (some .rollback)).ctl.state.servesReads = true := by decide +kernel

/-- The last word of region 1, the first of the reserved area, the first above the memory; a cycle truncated. -/
theorem meets_WriteRefusedByClass :
    board.presents 4 ∧ board.classOf fixedWord = .fixed ∧ board.classOf reservedWord = .reserved
      ∧ board.classOf 1048576 = .outside
      ∧ (cycling board ⟨true, 640, 3, false⟩ ⟨.guarded, some 0, 40⟩ (some .opened) none).presents 0 := by decide +kernel

theorem meets_PlainWritePostedOrHeld :
    board.presents 4 ∧ board.ctl.state = .opened ∧ board.classOf plainWord = .plain ∧ board.classOf 1027967 = .plain
      ∧ (queued board (eight.take 7)).queue.accepts 1027967 .opened = true ∧ (queued board eight).presents 0
      ∧ (queued board eight).queue.accepts 1027967 .opened = false
      ∧ (queued board eight).queue.accepts 327694 .opened = true := by decide +kernel

theorem meets_QueueMergesOrAppends :
    board.queue.entries = [] ∧ (queued board eight).queue.entries = eight.take 7 ++ [entry 327694 .plain .opened 7 false]
      ∧ ((327694 : Nat) = 327694 ∧ false = false ∧ Gate.opened = Gate.opened) := by decide +kernel

/-- First words and last words of granules, each gate, a full queue. -/
theorem meets_GuardedWriteWithoutCapture :
    (withEntries board [⟨40, .logged⟩, ⟨41, .capturing⟩]).presents 4 ∧ board.ctl.state = .opened
      ∧ board.classOf 640 = .guarded ∧ board.classOf 671 = .guarded
      ∧ (withEntries board [⟨40, .logged⟩, ⟨41, .capturing⟩]).table.status = some .intact
      ∧ (withEntries board [⟨40, .logged⟩, ⟨41, .capturing⟩]).table.lookup ((640#24).toNat / 16) = some ⟨40, .logged⟩
      ∧ (withEntries board [⟨40, .logged⟩, ⟨41, .capturing⟩]).table.lookup ((671#24).toNat / 16) = some ⟨41, .capturing⟩
      ∧ (withStatus board .breaking).table.status = some .breaking ∧ (withStatus board .broken).table.status = some .broken
      ∧ board.queue.accepts 640 .opened = true ∧ board.queue.accepts 671 (.tied 41) = true
      ∧ (queued board eight).queue.accepts 640 .waitMark = false := by decide +kernel

/-- 7 and 8 entries CAPTURING; the last free slot. -/
theorem meets_GuardedWriteStartsCapture :
    (withEntries board (waitingCaptures 7)).presents 4 ∧ board.classOf 655 = .guarded
      ∧ (withEntries board (waitingCaptures 7)).table.status = some .intact
      ∧ (withEntries board (waitingCaptures 7)).table.lookup ((655#24).toNat / 16) = none
      ∧ 1 ≤ (withEntries (inEpoch board 12 1016) (waitingCaptures 7)).freeSlots
      ∧ capturingCount (withEntries board (waitingCaptures 7)).table.entries < 8
      ∧ (withEntries board (waitingCaptures 7)).queue.accepts 655 (.tied 40) = true
      ∧ (queued (withEntries board (waitingCaptures 7)) eight).queue.accepts 655 (.tied 40) = false
      ∧ 8 ≤ capturingCount (withEntries board (waitingCaptures 8)).table.entries
      ∧ 1 ≤ (withEntries board (waitingCaptures 8)).freeSlots
      ∧ (withEntries board (waitingCaptures 8)).table.lookup ((655#24).toNat / 16) = none
      ∧ board.capture.phase = .idle ∧ capturingCount board.table.entries = 0 := by decide +kernel

/-- LOGGED entries. -/
def loggedEntries (n : Nat) : List TableEntry := (List.range n).map fun k => ⟨k, .logged⟩

/-- 255 entries, and 256 of which the second is the oldest LOGGED one. -/
theorem meets_AdmissionAppendsAndEvicts :
    (loggedEntries 255).length < 256
      ∧ 256 ≤ (⟨900, .capturing⟩ :: ⟨901, .logged⟩ :: loggedEntries 254).length
      ∧ ⟨900, .capturing⟩ :: ⟨901, .logged⟩ :: loggedEntries 254
        = [⟨900, .capturing⟩] ++ ⟨901, .logged⟩ :: loggedEntries 254
      ∧ ∀ e ∈ [TableEntry.mk 900 .capturing], e.state = .capturing := by decide +kernel

theorem meets_GuardedWriteRefusedOnFullLog :
    (fullLog 1).presents 4 ∧ (fullLog 1).ctl.state = .opened ∧ (fullLog 1).classOf 655 = .guarded
      ∧ (fullLog 1).table.status = some .intact ∧ (fullLog 1).table.lookup ((655#24).toNat / 16) = none
      ∧ (fullLog 1).freeSlots = 0 ∧ (fullLog 1).header.active.map Configuration.policy = some 0x01#8
      ∧ (fullLog 1).table.exhaustionNoted = false
      ∧ { fullLog 1 with table := { (fullLog 1).table with exhaustionNoted := true } }.table.exhaustionNoted = true
      ∧ { fullLog 1 with table := { (fullLog 1).table with exhaustionNoted := true } }.freeSlots = 0 := by decide +kernel

/-- The full log under BREAK, with a capture in each phase, and with a full queue. -/
theorem meets_GuardedWriteBreaksEpoch :
    (exhausted 2).presents 4 ∧ (exhausted 2).ctl.state = .opened ∧ (exhausted 2).classOf 1152 = .guarded
      ∧ (exhausted 2).table.status = some .intact ∧ (exhausted 2).table.lookup ((1152#24).toNat / 16) = none
      ∧ (exhausted 2).freeSlots = 0 ∧ (exhausted 2).header.active.map Configuration.policy = some 0x02#8
      ∧ (exhausted 2).table.lawful ∧ (exhausted 2).queue.accepts 1152 .waitMark = true
      ∧ (queued (exhausted 2) eight).queue.accepts 1152 .waitMark = false
      ∧ (exhausted 2).capture.phase = .reading ∧ (exhausted 2).capture.granted = true := by decide +kernel
theorem meets_GuardedWriteBreaksEpoch_consistent :
    (exhausted 2).consistent ∧ (queued (exhausted 2) eight).consistent
      ∧ (capturing (exhausted 2) .writing 70 false).consistent ∧ (capturing (exhausted 2) .reading 70 false).consistent := by
  and_intros <;> decide +kernel

/-- A later beat of a cycle can be presented. -/
abbrev awaits (s : State) (c : Cycle) (p : Portion) : Prop :=
  s.pins.resetLow = false ∧ s.host.cycle = some c ∧ s.host.portion = some p ∧ s.host.beat = none

/-- A cycle at the last word of granule 40, and its portion. -/
def lastWord (write : Bool) : Cycle := ⟨write, 655, 1, false⟩
def inGranule : Portion := ⟨.guarded, some 0, 40⟩

/-- The last beat of a granule, GUARDED, and the second of a PLAIN one under a full queue; outside OPEN. -/
theorem meets_LaterWriteBeatOffered :
    (let s := cycling board (lastWord true) inGranule (some (.tied 40)) none;
      awaits s (lastWord true) inGranule ∧ s.host.gate = some (.tied 40) ∧ s.ctl.state = .opened
        ∧ s.queue.accepts 655 (.tied 40) = true)
    ∧ (let s := cycling (queued board eight) ⟨true, 327681, 15, false⟩ ⟨.plain, some 2, 20480⟩ none none;
      awaits s ⟨true, 327681, 15, false⟩ ⟨.plain, some 2, 20480⟩ ∧ s.ctl.state = .opened
        ∧ s.queue.accepts 327681 .opened = false)
    ∧ (let s := cycling (inState board .parked none) (lastWord true) inGranule (some .waitMark) none;
      awaits s (lastWord true) inGranule ∧ s.host.gate = some .waitMark ∧ s.ctl.state ≠ .opened) := by decide +kernel

theorem meets_FirstReadBeatServed :
    board.presents 4 ∧ board.ctl.state.servesReads = true ∧ board.classOf reservedWord = .reserved
      ∧ board.classOf 1048576 = .outside ∧ (inState board .rollingBack (some .rollback)).classOf 640 = .guarded
      ∧ (inState board .rollingBack (some .rollback)).presents 0 ∧ board.classOf fixedWord = .fixed
      ∧ merged.presents 4 ∧ merged.queue.matching 643 ≠ [] ∧ LaneData.covers 15 (merged.queue.forwarded 643) = true
      ∧ (queued board [{ entry 643 .guarded .opened 24 false with lanes := ⟨none, none, some 9, none⟩ }]).queue.matching 643
        ≠ []
      ∧ LaneData.covers 15 ((queued board [{ entry 643 .guarded .opened 24 false with
          lanes := ⟨none, none, some 9, none⟩ }]).queue.forwarded 643) = false
      ∧ board.queue.matching 640 = []
      ∧ (board.began (firstCycle false 640 4) (board.firstPortion 640)).host.read = none
      ∧ (hostReading 1 false).presents 4 ∧ (hostReading 1 false).queue.matching 700 = []
      ∧ ((hostReading 1 false).began (firstCycle false 700 4) ((hostReading 1 false).firstPortion 700)).host.read
        = some ⟨640, 2, true, true⟩ := by decide +kernel

/-- A place REQUESTED and ARRIVED clean and with MERR; matching entries that cover and do not; none, with and without a
host read outstanding; PARKING. -/
theorem meets_LaterReadBeatServed :
    (awaits (hostReading 1 false) ⟨false, 641, 1, false⟩ inGranule ∧ (hostReading 1 false).ctl.state.servesReads = true
      ∧ (hostReading 1 false).host.place 641 = some .requested)
    ∧ (let s := cycling (hostReading 1 false) ⟨false, 640, 2, false⟩ inGranule none none;
      awaits s ⟨false, 640, 2, false⟩ inGranule ∧ s.ctl.state.servesReads = true
        ∧ s.host.place 640 = some (.arrived ones false) ∧ (Place.arrived ones false).wordOf false = some ones)
    ∧ (let s := { cycling board (lastWord false) inGranule none none with
          host := { (cycling board (lastWord false) inGranule none none).host with buffer := [(655, .arrived ones true)] } };
      awaits s (lastWord false) inGranule ∧ s.host.place 655 = some (.arrived ones true)
        ∧ (Place.arrived ones true).wordOf true = some ones)
    ∧ (let s := cycling merged ⟨false, 643, 1, false⟩ inGranule none none;
      awaits s ⟨false, 643, 1, false⟩ inGranule ∧ s.host.place 643 = none ∧ s.queue.matching 643 ≠ []
        ∧ LaneData.covers 15 (s.queue.forwarded 643) = true)
    ∧ (let s := cycling (queued board [{ entry 655 .guarded .opened 24 false with lanes := ⟨none, none, some 9, none⟩ }])
          (lastWord false) inGranule none none;
      awaits s (lastWord false) inGranule ∧ s.host.place 655 = none ∧ s.queue.matching 655 ≠ []
        ∧ LaneData.covers 1 (s.queue.forwarded 655) = false)
    ∧ (let s := cycling (hostReading 0 false) (lastWord false) inGranule none none;
      awaits s (lastWord false) inGranule ∧ s.host.place 655 = none ∧ s.queue.matching 655 = [] ∧ s.host.read.isSome)
    ∧ (let s := cycling board (lastWord false) inGranule none none;
      awaits s (lastWord false) inGranule ∧ s.host.place 655 = none ∧ s.queue.matching 655 = [] ∧ s.host.read = none)
    ∧ (let s := cycling (inState board .parking none) (lastWord false) inGranule none none;
      awaits s (lastWord false) inGranule ∧ s.ctl.state = .parking) := by decide +kernel

theorem meets_HostReadStopsAtQueuedWord :
    (queued board [entry 643 .guarded .opened 24 false]).queue.freeRun 641 15 = 2
      ∧ 1 < (queued board [entry 643 .guarded .opened 24 false]).queue.freeRun 641 15
      ∧ (queued board [entry 643 .guarded .opened 24 false]).queue.freeRun 641 15 < 15 := by decide +kernel

/-- The first and the last word of a read, a stale one, and one whose beat waits. -/
theorem meets_HostReadWordTaken :
    (hostReading 1 true).completing .hostRead = .underway ⟨.hostRead, 640, 2, [], 1⟩ ∧ 1 < 2
      ∧ (hostReading 1 true).host.read = some ⟨640, 2, true, false⟩
      ∧ (hostReading 1 true).host.cycle = some ⟨false, 641, 1, false⟩
      ∧ (hostReading 1 true).host.beat = some ⟨15, LaneData.empty, false, .wordPending⟩
      ∧ (hostReading 0 false).completing .hostRead = .underway ⟨.hostRead, 640, 2, [], 0⟩
      ∧ (hostReading 0 false).host.beat = none
      ∧ { operating board .hostRead 640 2 [] with host := { board.host with read := some ⟨640, 2, true, true⟩ } }.completing
        .hostRead = .underway ⟨.hostRead, 640, 2, [], 0⟩ := by decide +kernel

/-- A host read with all its words handed over, another read's beat waiting for its end. -/
def readEnding (waiting : Bool) : State :=
  { cycling board ⟨false, 701, 1, false⟩ ⟨.guarded, some 0, 43⟩ none
      (if waiting then some ⟨15, LaneData.empty, true, .readPending⟩ else none) with
    port := ⟨some ⟨.hostRead, 700, 1, [], 1⟩, 700, 0⟩
    host := { (cycling board ⟨false, 701, 1, false⟩ ⟨.guarded, some 0, 43⟩ none
      (if waiting then some ⟨15, LaneData.empty, true, .readPending⟩ else none)).host with
        read := some ⟨700, 1, true, true⟩ } }

/-- A stale read's word and its end, with a read beat of the new cycle waiting and with a held write beat. -/
theorem meets_HostReadWordTaken_stale :
    (let s := { readEnding true with port := ⟨some ⟨.hostRead, 700, 1, [], 0⟩, 700, 0⟩ };
      s.completing .hostRead = .underway ⟨.hostRead, 700, 1, [], 0⟩ ∧ s.host.read = some ⟨700, 1, true, true⟩
        ∧ s.host.beat.map Beat.reason = some .readPending)
      ∧ (behindRead (heldWrite board) 0).completing .hostRead = .underway ⟨.hostRead, 640, 2, [], 0⟩
      ∧ (behindRead (heldWrite board) 2).completing .hostRead = .underway ⟨.hostRead, 640, 2, [], 2⟩
      ∧ (behindRead (heldWrite board) 2).host.beat.map Beat.reason = some .queueFull := by
  and_intros <;> decide +kernel
theorem test_read_end_grants_drain :
    after .hostReadComplete (behindRead (heldWrite board) 2) (fun t =>
      t.port.op.map MemOp.kind == some .drainWrite && t.host.response == .wait && t.host.read == none) = true := by
  decide +kernel

theorem meets_HostReadEnds :
    (readEnding true).completing .hostRead = .underway ⟨.hostRead, 700, 1, [], 1⟩
      ∧ (readEnding true).ctl.state ≠ .parking ∧ (readEnding true).host.cycle = some ⟨false, 701, 1, false⟩
      ∧ (readEnding true).host.beat = some ⟨15, LaneData.empty, true, .readPending⟩
      ∧ (readEnding false).completing .hostRead = .underway ⟨.hostRead, 700, 1, [], 1⟩
      ∧ (readEnding false).host.beat = none := by decide +kernel

theorem meets_CommitBeginsDraining :
    committing.pins.resetLow = false ∧ committing.pins.ereq = false ∧ committing.ctl.state = .opened
      ∧ committing.ctl.pendingRequest = none ∧ committing.epochNumber ≠ 281474976710655#48
      ∧ committing.capture.phase ≠ .idle ∧ board.table.status = some .intact ∧ board.capture.phase = .idle
      ∧ capturingCount board.table.entries = 0 ∧ board.queue.entries = []
      ∧ (inEpoch board 281474976710654 0).epochNumber ≠ 281474976710655#48 := by decide +kernel

/-- The hypotheses of the rollback: nothing in flight, and a capture in each phase; tail 1 and 259. -/
def rollbackReady (s : State) : Prop :=
  s.consistent ∧ s.table.lawful ∧ s.pins.resetLow = false ∧ s.pins.ereq = false ∧ s.ctl.state = .opened
    ∧ s.ctl.pendingRequest = none ∧ s.epochNumber ≠ 281474976710655#48 ∧ s.table.status = some .intact ∧ s.host.beat = none

theorem meets_RollbackBeginsSettling :
    rollbackReady (inEpoch board 30 1)
      ∧ rollbackReady (capturing (withEntries (inEpoch board 30 259) [⟨60, .capturing⟩, ⟨61, .capturing⟩]) .writing 60 false)
      ∧ rollbackReady (capturing (withEntries (inEpoch board 30 259) [⟨60, .capturing⟩, ⟨61, .capturing⟩]) .reading 60 true)
      ∧ rollbackReady (capturing (withEntries (inEpoch board 30 259) [⟨60, .capturing⟩]) .reading 60 false) := by
  unfold rollbackReady
  and_intros <;> decide +kernel
theorem meets_RollbackBeginsSettling_walk :
    (inEpoch board 30 1).guardedReadOpen = false ∧ (inEpoch board 30 1).capture.tail = 0 + 1
      ∧ (inEpoch board 30 1).capture.granule = none := by decide +kernel
/-- Tail 0, with an empty queue and with a PLAIN entry; a GUARDED read portion open; a held write beat. -/
theorem meets_RollbackBeginsSettling_empty :
    rollbackReady board ∧ board.capture.tail = 0 ∧ board.queue.entries = []
      ∧ rollbackReady (queued board [entry 327680 .plain .opened 20 false])
      ∧ rollbackReady (cycling board ⟨false, 640, 2, false⟩ ⟨.guarded, some 0, 40⟩ none none)
      ∧ (cycling board ⟨false, 640, 2, false⟩ ⟨.guarded, some 0, 40⟩ none none).guardedReadOpen = true
      ∧ (heldWrite board).consistent ∧ (heldWrite board).host.cycle.map Cycle.write = some true
      ∧ (heldWrite board).host.beat.isSome := by
  unfold rollbackReady
  and_intros <;> decide +kernel
/-- A read beat that waits for a GUARDED entry the rollback removes, with no read outstanding and with one. -/
def readHeldByEntry (outstanding : Bool) : State :=
  let s := cycling (queued board [{ entry 643 .guarded .opened 24 false with lanes := ⟨none, none, some 9, none⟩ }])
    ⟨false, 643, 2, false⟩ inGranule none (some ⟨15, LaneData.empty, true, .partlyCovered⟩)
  { s with
    port := if outstanding then ⟨some ⟨.hostRead, 700, 1, [], 0⟩, 700, 0⟩ else s.port
    host := { s.host with read := if outstanding then some ⟨700, 1, true, true⟩ else none } }

theorem meets_RollbackBeginsSettling_read :
    (readHeldByEntry false).consistent ∧ (readHeldByEntry true).consistent ∧ (readHeldByEntry true).table.lawful
      ∧ (readHeldByEntry true).ctl.state = .opened ∧ (readHeldByEntry true).ctl.pendingRequest = none
      ∧ (readHeldByEntry true).table.status = some .intact := by
  and_intros <;> decide +kernel
theorem test_rollback_releases_held_read :
    after .rollback (readHeldByEntry false) (fun t => t.queue.entries == []
      && t.host.beat.map Beat.reason == some .wordPending && t.host.read == some ⟨643, 2, true, false⟩) = true
    ∧ after .rollback (readHeldByEntry true) (fun t => t.queue.entries == []
      && t.host.beat.map Beat.reason == some .readPending && t.host.read == some ⟨700, 1, true, true⟩) = true := by
  decide +kernel
theorem test_rollback_answers_held_write :
    after .rollback (heldWrite board) (fun t => t.host.response == .busy && t.host.cycle == none
      && t.ctl.state == .rollingBack) = true := by decide +kernel

theorem meets_FlushTakenAndRequestsRefused :
    merged.pins.resetLow = false ∧ merged.pins.ereq = false ∧ merged.ctl.state = .opened
      ∧ merged.ctl.pendingRequest = none ∧ merged.queue.entries.getLast? = some (entry 327680 .plain .opened 26 false)
      ∧ board.queue.entries = [] ∧ (withStatus board .breaking).table.status = some .breaking
      ∧ (withStatus board .broken).table.status = some .broken
      ∧ (inEpoch board 281474976710655 0).epochNumber = 281474976710655#48 := by decide +kernel
/-- A FLUSH taken, and one remembered behind an abandoned one, while a write beat is held (`meets_Lawful_held`). -/
def heldUnderFlush : State :=
  let s := behindRead (heldWrite board) 0
  { s with
    queue := { s.queue with mark := some 7 }
    ctl := { s.ctl with lowSeen := true, pendingRequest := some ⟨.flush, true⟩ } }
theorem meets_EdgesNotTaken_held : heldUnderFlush.Lawful := by constructor <;> decide +kernel
theorem test_edges_leave_held_beat :
    after .flush (behindRead (heldWrite board) 0) (fun t => t.queue.mark == some 7 && t.host.response == .wait) = true
      ∧ after .commit heldUnderFlush (fun t => t.ctl.remembered == some .commit && t.host.response == .wait) = true := by
  decide +kernel

theorem meets_EdgesNotTaken :
    (Instr.commit, Operation.commit) ∈ edgeCommands ∧ (Instr.illegalOperation, Operation.illegal) ∈ edgeCommands
      ∧ (inState board .sealing (some .commit)).pins.resetLow = false
      ∧ (inState board .starting none).pins.ereq = false
      ∧ { board with ctl := { board.ctl with pendingRequest := some ⟨.flush, true⟩ } }.ctl.pendingRequest ≠ none
      ∧ blank.pins.ereq = false ∧ blank.ctl.state = .unformatted ∧ (inState board .parked none).ctl.state = .parked := by
  decide +kernel

theorem meets_AcknowledgeAndFall :
    { board with ctl := { board.ctl with answer := some ⟨.commit, .ok⟩ } }.ctl.answer = some ⟨.commit, .ok⟩
      ∧ board.pins.resetLow = false ∧ board.ctl.answer = none ∧ board.ctl.remembered = none ∧ board.ctl.phase = .idle
      ∧ lastDrain.ctl.phase = .working ∧ lastDrain.ctl.pendingRequest = some ⟨.commit, false⟩ ∧ lastDrain.ctl.answer = none
      ∧ { board with ctl := { board.ctl with phase := .answered } }.ctl.phase = .answered
      ∧ { board with ctl := { board.ctl with remembered := some .flush } }.ctl.remembered = some .flush := by decide +kernel

/-- The mark at, just before and half the range before an entry's age; a held beat with the queue full. -/
def draining (es : List QueueEntry) (mark : Option (BitVec 16)) : State :=
  operating { (inState board .opened (if mark.isSome then some .flush else none)) with
    queue := { (queued board es).queue with mark := mark } } .drainWrite 640 1 [LaneData.full ones]

theorem meets_DrainWriteEmptiesItsEntries :
    (let s := draining [entry 640 .guarded .opened 10 true] none;
      s.completing .drainWrite = .underway ⟨.drainWrite, 640, 1, [LaneData.full ones], 0⟩ ∧ s.ctl.state ≠ .parking
        ∧ s.queue.mark = none)
    ∧ (let s := draining [entry 640 .guarded .opened 10 true, entry 700 .guarded .opened 11 false] (some 11);
      s.completing .drainWrite = .underway ⟨.drainWrite, 640, 1, [LaneData.full ones], 0⟩ ∧ s.queue.mark = some 11
        ∧ ∃ e ∈ s.queue.entries, e.draining = false ∧ (11#16 - e.age).toNat < 32768)
    ∧ (let s := draining [entry 640 .guarded .opened 10 true, entry 700 .guarded .opened 11 false] (some 10);
      s.completing .drainWrite = .underway ⟨.drainWrite, 640, 1, [LaneData.full ones], 0⟩ ∧ s.queue.mark = some 10
        ∧ (∀ e ∈ s.queue.entries, e.draining = false → 32768 ≤ (10#16 - e.age).toNat) ∧ s.agesAgree
        ∧ s.ctl.pendingRequest = some ⟨.flush, false⟩ ∧ s.ctl.remembered = none)
    ∧ (11#16 - 32780#16).toNat < 32768 ∧ 32768 ≤ (11#16 - 32779#16).toNat := by decide +kernel
/-- A COMMIT remembered behind an abandoned FLUSH whose mark the drain write satisfies. -/
def abandonedFlush : State :=
  let s := draining [entry 640 .guarded .opened 10 true] (some 10)
  { s with ctl := { s.ctl with
      phase := .idle, lowSeen := true, pendingRequest := some ⟨.flush, true⟩, remembered := some .commit } }

theorem meets_DrainWriteEmptiesItsEntries_remembered :
    abandonedFlush.Lawful ∧ abandonedFlush.completing .drainWrite = .underway ⟨.drainWrite, 640, 1, [LaneData.full ones], 0⟩
      ∧ abandonedFlush.ctl.remembered = some .commit ∧ abandonedFlush.epochNumber ≠ 281474976710655#48 := by
  refine ⟨by constructor <;> decide +kernel, ?_⟩
  and_intros <;> decide +kernel
theorem test_remembered_behind_flush :
    after .drainWriteComplete abandonedFlush (fun t => t.ctl.state == .sealing && t.ctl.lastResult == some ⟨.flush, .ok⟩
      && t.events.records == [⟨.requestAbandoned, 12, 0x300⟩] && t.ctl.pendingRequest == some ⟨.commit, false⟩) = true := by
  decide +kernel

/-- Eight entries CAPTURING, the capture unit's read of the first granted or not. -/
def nineAsked (granted : Bool) : State := capturing (withEntries board (waitingCaptures 8)) .reading 100 granted

/-- As the oldest of eight entries leaves: the first beat of a GUARDED portion held on the full queue, one held on the
captures, which no drain write lets in, and a read beat that waits for the entry to leave. -/
theorem meets_DrainWriteEmptiesItsEntries_guarded :
    (holding (drainingEight board) 640 inGranule true none .queueFull).Lawful := by constructor <;> decide +kernel
theorem meets_DrainWriteEmptiesItsEntries_ninth :
    (holding (drainingEight (nineAsked false)) 640 inGranule true none .ninthCapture).Lawful := by
  constructor <;> decide +kernel
theorem meets_DrainWriteEmptiesItsEntries_read :
    (let s := cycling (drainingEight board) ⟨false, 327680, 1, false⟩ ⟨.plain, some 2, 20480⟩ none
        (some ⟨15, LaneData.empty, true, .partlyCovered⟩);
      s.completing .drainWrite = .underway ⟨.drainWrite, 327680, 1, [LaneData.full ones], 0⟩ ∧ s.queue.mark = none
        ∧ (s.drained ⟨.drainWrite, 327680, 1, [LaneData.full ones], 0⟩).queue.matching 327680 = [] ∧ s.host.read = none) := by
  and_intros <;> decide +kernel
theorem test_drain_offers_held_beat_again :
    after .drainWriteComplete (holding (drainingEight board) 1027967 ⟨.plain, none, 64247⟩ true none .queueFull) (fun t =>
      t.host.response == .ready && t.queue.entries.getLast?.map QueueEntry.word == some 1027967) = true
    ∧ after .drainWriteComplete (holding (drainingEight board) 640 inGranule true none .queueFull) (fun t =>
      t.host.response == .ready && t.table.entries == [⟨40, .capturing⟩] && t.capture.granule == some 40) = true
    ∧ after .drainWriteComplete (holding (drainingEight (nineAsked false)) 640 inGranule true none .ninthCapture) (fun t =>
      t.host.response == .wait && t.table.entries.length == 8) = true := by decide +kernel
theorem test_drain_releases_held_read :
    after .drainWriteComplete (cycling (drainingEight board) ⟨false, 327680, 1, false⟩ ⟨.plain, some 2, 20480⟩ none
        (some ⟨15, LaneData.empty, true, .partlyCovered⟩)) (fun t =>
      t.host.beat.map Beat.reason == some .wordPending && t.host.read == some ⟨327680, 1, true, false⟩
        && t.port.op.map MemOp.kind == some .hostRead) = true := by decide +kernel

/-- A pre-image read in progress, stopped and not, under each status. -/
def preImage (stop : Bool) (v : EpochStatus) : State :=
  let s := preImageOf (withStatus board v)
  { s with
    capture := { s.capture with stop := stop }
    header := { s.header with writeRequest := if v = .breaking then some ⟨.mark, .b, false, none, false, false⟩ else none } }

theorem meets_PreImageReadTaken :
    (preImage false .intact).consistent ∧ (preImage true .breaking).consistent ∧ (preImage false .intact).table.lawful
      ∧ (preImage true .breaking).table.lawful
      ∧ (preImage false .intact).completing .preImageRead = .underway ⟨.preImageRead, 640, 16, [], 0⟩
      ∧ (preImage true .breaking).completing .preImageRead = .underway ⟨.preImageRead, 640, 16, [], 0⟩
      ∧ (preImage false .intact).ctl.state ≠ .parking ∧ (preImage false .intact).capture.granule = some 40
      ∧ (preImage false .intact).capture.stop = false ∧ (preImage true .breaking).capture.stop = true
      ∧ (preImage true .breaking).host.beat = none ∧ [BadBeat.mk 15 MWord.zero] ≠ []
      ∧ (withEvents (preImage false .intact) 15).events.records.length < 16 := by
  and_intros <;> decide +kernel

/-- As a capture ends: a beat held on a queue whose entries keep their gates, and on one with an entry TIED to the capture;
and a beat held on the ninth capture. -/
theorem meets_PreImageReadTaken_held : (heldWrite (preImageOf board)).Lawful := by constructor <;> decide +kernel

/-- Eight entries, the oldest with a gate of granule 40, and a held write beat. -/
def heldBehind (s : State) (gate : Gate) : State :=
  holding (queued s (entry 640 .guarded gate 0 false :: eight.drop 1)) 1027967 ⟨.plain, none, 64247⟩ true none .queueFull
theorem meets_PreImageReadTaken_tied : (heldBehind (preImageOf board) (.tied 40)).Lawful := by
  constructor <;> decide +kernel
theorem meets_PreImageReadTaken_ninth :
    (holding (capturePort (nineAsked true) 100) 640 inGranule true none .ninthCapture).Lawful := by
  constructor <;> decide +kernel
theorem test_failed_capture_offers_held_beat_again :
    after (.preImageReadComplete [⟨0, MWord.zero⟩]) (holding (capturePort (nineAsked true) 100) 640 inGranule true none
        .ninthCapture) (fun t =>
      t.host.response == .ready && t.table.status == some .breaking && t.queue.entries.map QueueEntry.gate == [.waitMark])
      = true
    ∧ after (.preImageReadComplete []) (heldWrite (preImageOf board)) (fun t =>
      t.host.response == .wait && t.capture.phase == .writing) = true := by decide +kernel

theorem meets_RecordWriteEndsCapture_held : (heldWrite writingWhole).Lawful ∧ (heldBehind writingWhole (.tied 40)).Lawful := by
  refine ⟨?_, ?_⟩ <;> constructor
  case refine_1.port | refine_2.port =>
    refine ⟨fun o h => ?_, by decide +kernel⟩
    cases h
    exact ⟨rfl, rfl, by decide, fun _ => rfl⟩
  case refine_1.capture | refine_2.capture =>
    refine ⟨by decide +kernel, ?_, ?_, fun _ => ⟨rfl, rfl, by decide +kernel, rfl⟩⟩ <;> decide +kernel
  all_goals decide +kernel
theorem meets_RecordWriteEndsCapture :
    (capturePort (capturing traced .writing 40 true) 40).completing .recordWrite
        = .underway ⟨.recordWrite, 1028068, 20, [], 0⟩
      ∧ (capturePort (capturing traced .writing 40 true) 40).consistent
      ∧ (withStatus (capturePort (capturing traced .writing 40 true) 40) .broken).consistent
      ∧ (capturePort (capturing traced .writing 40 true) 40).table.lawful
      ∧ (capturePort (capturing traced .writing 40 true) 40).capture.granule = some 40
      ∧ (capturePort (capturing traced .writing 40 true) 40).ctl.state ≠ .parking := by
  and_intros <;> decide +kernel

theorem meets_MarkWriteBreaksEpoch :
    marking.completing .headerWrite = .underway ⟨.headerWrite, 1048512, 64, [], 0⟩ ∧ marking.ctl.state ≠ .parking
      ∧ marking.table.lawful
      ∧ marking.header.writeRequest = some ⟨.mark, .b, true, some ⟨true, 41, 9, 3, config 1 1024⟩, false, false⟩ := by
  decide +kernel

/-- The mark write with its own data in progress, over a queue of eight with a held beat; the oldest entry waits for it. -/
def markingWhole : State :=
  let marked : HeaderRecord := ⟨true, 41, 9, 3, config 1 1024⟩
  let s := headerWriting (withStatus (inEpoch board 9 14) .breaking) .mark .b (some marked) false
  { s with port := { s.port with
      op := some ⟨.headerWrite, slotWord 4194304 .b, 64, fullBeats (headerWords (some marked)), 0⟩ } }
theorem meets_MarkWriteBreaksEpoch_held : (heldWrite markingWhole).Lawful ∧ (heldBehind markingWhole .waitMark).Lawful := by
  refine ⟨?_, ?_⟩ <;> constructor
  case refine_1.port | refine_2.port =>
    refine ⟨fun o h => ?_, by decide +kernel⟩
    cases h
    exact ⟨rfl, rfl, by decide, fun _ => rfl⟩
  all_goals decide +kernel

/-- The seal of a rollback that skipped a record. -/
def rollbackSeal (damaged : Nat) : State :=
  { headerWriting (inState (inEpoch board 12 4) .sealing (some .rollback)) .commitSeal .b
      (some ⟨false, 41, 13, 3, config 1 1024⟩) false with engine := { board.engine with damaged := damaged } }

theorem meets_SealOpensNextEpoch :
    (sealing (config 1 1024) none).completing .headerWrite = .underway ⟨.headerWrite, 1048512, 64, [], 0⟩
      ∧ (sealing (config 1 1024) none).ctl.state ≠ .parking
      ∧ (sealing (config 1 1024) none).header.writeRequest
        = some ⟨.commitSeal, .b, true, some ⟨false, 41, 13, 3, config 1 1024⟩, false, false⟩
      ∧ (sealing (config 1 1100) (some (config 1 1100))).header.writeRequest
        = some ⟨.commitSeal, .b, true, some ⟨false, 41, 13, 3, config 1 1100⟩, true, false⟩
      ∧ (sealing (config 1 1024) none).ctl.pendingRequest = some ⟨.commit, false⟩
      ∧ (sealing (config 1 1024) none).ctl.remembered = none
      ∧ (rollbackSeal 0).ctl.pendingRequest = some ⟨.rollback, false⟩ ∧ (rollbackSeal 0).engine.damaged = 0
      ∧ (rollbackSeal 1).engine.damaged ≠ 0
      ∧ (rollbackSeal 1).completing .headerWrite = .underway ⟨.headerWrite, 1048512, 64, [], 0⟩ := by decide +kernel

/-- A board with an operation remembered, its request in hand abandoned or none. -/
def remembering (s : State) (op : Operation) : State :=
  { s with
    ctl := { s.ctl with
      phase := .idle, lowSeen := true, remembered := some op
      pendingRequest := s.ctl.pendingRequest.map fun r => { r with abandoned := true } }
    pins := { s.pins with ereq := true } }

theorem meets_SealOpensNextEpoch_remembered :
    (remembering (sealing (config 1 1024) none) .flush).consistent
      ∧ (remembering (sealing (config 1 1100) (some (config 1 1100))) .commit).consistent
      ∧ (remembering (sealing (config 1 1024) none) .rollback).ctl.pendingRequest = some ⟨.commit, true⟩
      ∧ (remembering (sealing (config 1 1024) none) .rollback).queue.entries = []
      ∧ (remembering (sealing (config 1 1024) none) .rollback).ctl.remembered = some .rollback := by
  and_intros <;> decide +kernel
/-- The remembered COMMIT is taken in the new epoch, and its seal requested at once. -/
theorem test_remembered_commit :
    after .sealComplete (remembering (sealing (config 1 1024) none) .commit) (fun t =>
      t.ctl.state == .sealing && t.ctl.epoch == some 13 && t.ctl.remembered == none
        && t.events.records == [⟨.requestAbandoned, 13, 0x100⟩]) = true := by decide +kernel

theorem meets_RecoverySealOpensEpoch :
    (recoverySealing false).completing .headerWrite = .underway ⟨.headerWrite, 1048512, 64, [], 0⟩
      ∧ (recoverySealing true).completing .headerWrite = .underway ⟨.headerWrite, 1048512, 64, [], 0⟩
      ∧ (recoverySealing true).ctl.state ≠ .parking
      ∧ (recoverySealing true).header.writeRequest
        = some ⟨.recoverySeal, .b, true, some ⟨false, 41, 91, 3, config 1 1024⟩, false, false⟩
      ∧ (recoverySealing true).ctl.remembered = none ∧ (recoverySealing false).pins.ereq = false
      ∧ (recoverySealing true).pins.ereq = true ∧ (recoverySealing true).ctl.lowSeen = false := by decide +kernel
theorem meets_RecoverySealOpensEpoch_remembered :
    (remembering (recoverySealing true) .flush).consistent
      ∧ (remembering (recoverySealing true) .flush).ctl.remembered = some .flush
      ∧ (remembering (recoverySealing true) .flush).ctl.lowSeen = true
      ∧ (remembering (recoverySealing true) .flush).ctl.pendingRequest = none := by
  and_intros <;> decide +kernel

theorem meets_FormatWritesFollow :
    (formatting (.clearing 5) .b none).completing .headerWrite = .underway ⟨.headerWrite, 1048512, 64, [], 0⟩
      ∧ (formatting (.clearing 5) .b none).ctl.state = .formatting
      ∧ (formatting (.clearing 5) .b none).header.writeRequest = some ⟨.clearing 5, .b, true, none, false, false⟩
      ∧ (formatting (.formatWrite 5) .a (some ⟨false, 1, 1, 5, config 1 1024⟩)).completing .headerWrite
        = .underway ⟨.headerWrite, 1048448, 64, [], 0⟩
      ∧ (formatting (.formatWrite 5) .a (some ⟨false, 1, 1, 5, config 1 1024⟩)).header.writeRequest
        = some ⟨.formatWrite 5, .a, true, some ⟨false, 1, 1, 5, config 1 1024⟩, false, false⟩
      ∧ (formatting (.formatWrite 5) .a (some ⟨false, 1, 1, 5, config 1 1024⟩)).ctl.remembered = none := by decide +kernel
theorem meets_FormatWritesFollow_remembered :
    (remembering (formatting (.formatWrite 5) .a (some ⟨false, 1, 1, 5, config 1 1024⟩)) .rollback).consistent
      ∧ (remembering (formatting (.formatWrite 5) .a (some ⟨false, 1, 1, 5, config 1 1024⟩)) .rollback).ctl.pendingRequest
        = none
      ∧ (remembering (formatting (.formatWrite 5) .a (some ⟨false, 1, 1, 5, config 1 1024⟩)) .rollback).ctl.remembered
        = some .rollback := by
  and_intros <;> decide +kernel

/-- The read of slot 15 in progress under a log capacity, the record standing there or not, in a walk or in the scan. -/
def recordReading (n : BitVec 16) (pass : RecoveryPass) (cursor : Nat) (probing present : Bool) : State :=
  let s := inState (inEpoch (boardWith (config 1 n)) 90 0) .recovering none
  let s := walking s .recovery .reading cursor 0 0 true
  let s := operating { s with engine := { s.engine with pass := pass, probing := probing } } .recordRead (s.logWord 15) 20 []
  { s with mem := if present then cells (4 * s.logWord 15) recordBytes else [] }

theorem meets_RecordReadJudged_good (n : BitVec 16) (pass : RecoveryPass) (cursor : Nat) (probing : Bool)
    (h : (recordReading n pass cursor probing true).wordsRead ⟨.recordRead, (recordReading n pass cursor probing
      true).logWord 15, 20, [], 0⟩ [] = wordsOf recordBytes)
    (slot : (recordReading n pass cursor probing true).engine.slotRead = 15)
    (floor : 40 < (recordReading n pass cursor probing true).granuleFloor / 64) :
    (recordReading n pass cursor probing true).recordIsGood [] ((recordReading n pass cursor probing true).wordsRead
      ⟨.recordRead, (recordReading n pass cursor probing true).logWord 15, 20, [], 0⟩ []) := by
  rw [h]
  have f : field (bytesOf (wordsOf recordBytes)) 0 1 = 0xA7 ∧ field (bytesOf (wordsOf recordBytes)) 1 2 = 15
      ∧ field (bytesOf (wordsOf recordBytes)) 6 6 = 90 ∧ field (bytesOf (wordsOf recordBytes)) 3 3 = 40 := by decide +kernel
  refine ⟨rfl, f.1, ?_, ?_, f.2.2.1, ?_⟩
  · exact test_record_passes
  · rw [slot]; exact f.2.1
  · rw [f.2.2.2]; exact floor

/-- The record read of a rollback's walk in progress. -/
def rollingOver (cursor : Nat) : State :=
  operating (walking (inState (inEpoch board 30 3) .rollingBack (some .rollback)) .rollback .reading cursor 0 0 true)
    .recordRead (board.logWord cursor) 20 []

/-- In a walk; in the scan below the capacity, at its last slot, and at the slot above an invalid one. -/
theorem meets_RecordReadJudged :
    (recordReading 17 .walk 15 false true).recordIsGood [] ((recordReading 17 .walk 15 false true).wordsRead
        ⟨.recordRead, (recordReading 17 .walk 15 false true).logWord 15, 20, [], 0⟩ [])
      ∧ (recordReading 17 .scan 15 false true).recordIsGood [] ((recordReading 17 .scan 15 false true).wordsRead
        ⟨.recordRead, (recordReading 17 .scan 15 false true).logWord 15, 20, [], 0⟩ []) ∧ 15 + 1 < 17
      ∧ (recordReading 16 .scan 15 false true).recordIsGood [] ((recordReading 16 .scan 15 false true).wordsRead
        ⟨.recordRead, (recordReading 16 .scan 15 false true).logWord 15, 20, [], 0⟩ []) ∧ 15 + 1 = 16
      ∧ (recordReading 17 .scan 14 true true).recordIsGood [] ((recordReading 17 .scan 14 true true).wordsRead
        ⟨.recordRead, (recordReading 17 .scan 14 true true).logWord 15, 20, [], 0⟩ []) ∧ 14 + 2 < 17 :=
  ⟨meets_RecordReadJudged_good _ _ _ _ (by decide +kernel) (by decide +kernel) (by decide +kernel),
    meets_RecordReadJudged_good _ _ _ _ (by decide +kernel) (by decide +kernel) (by decide +kernel), by decide,
    meets_RecordReadJudged_good _ _ _ _ (by decide +kernel) (by decide +kernel) (by decide +kernel), by decide,
    meets_RecordReadJudged_good _ _ _ _ (by decide +kernel) (by decide +kernel) (by decide +kernel), by decide⟩
theorem meets_RecordReadJudged_operation :
    (recordReading 17 .walk 15 false true).completing .recordRead = .underway ⟨.recordRead, 1048408, 20, [], 0⟩
      ∧ (recordReading 17 .walk 15 false true).logWord 15 = 1048408
      ∧ (recordReading 17 .scan 14 true true).completing .recordRead = .underway ⟨.recordRead, 1048408, 20, [], 0⟩
      ∧ (recordReading 17 .scan 15 false true).ctl.state = .recovering
      ∧ (recordReading 17 .scan 15 false true).engine.cursor = some 15
      ∧ (recordReading 17 .scan 14 true true).engine.probing = true := by decide +kernel
theorem meets_RecordReadJudged_consistent :
    (recordReading 17 .walk 15 false true).consistent ∧ (recordReading 17 .scan 15 false true).consistent
      ∧ (recordReading 17 .scan 14 true false).consistent := by
  and_intros <;> decide +kernel
/-- A record with a bad last beat, and a slot that holds none. -/
theorem meets_RecordReadJudged_bad :
    (¬(recordReading 17 .walk 15 false true).recordIsGood [⟨19, MWord.zero⟩] ((recordReading 17 .walk 15 false
        true).wordsRead ⟨.recordRead, 1048408, 20, [], 0⟩ [⟨19, MWord.zero⟩]))
      ∧ (¬(recordReading 17 .scan 14 true false).recordIsGood [] ((recordReading 17 .scan 14 true false).wordsRead
        ⟨.recordRead, 1048408, 20, [], 0⟩ [])) ∧ 15 = 14 + 1 ∧ 14 = 13 + 1 :=
  ⟨fun h => absurd h.1 (by decide), fun h => absurd h.2.1 (by decide +kernel), rfl, rfl⟩

/-- The last slot of the log not valid, the scan going up; two slots not valid from slot 0 on; a valid slot N - 1 looked at
past an invalid one; and a walk's slot 0 that is skipped, in a recovery and in a rollback. -/
theorem meets_RecordReadJudged_edges :
    ((recordReading 16 .scan 15 false false).consistent ∧ 15 + 1 = (recordReading 16 .scan 15 false false).logCapacity
        ∧ (15 : Nat) = 14 + 1)
      ∧ ((recordReading 17 .scan 0 true false).consistent ∧ (recordReading 17 .scan 0 true false).engine.cursor = some 0
        ∧ (recordReading 17 .scan 0 true false).engine.probing = true)
      ∧ ((recordReading 16 .scan 14 true true).consistent ∧ 14 + 2 = (recordReading 16 .scan 14 true true).logCapacity)
      ∧ ((recordReading 17 .walk 0 false false).consistent
        ∧ (recordReading 17 .walk 0 false false).engine.purpose = some .recovery)
      ∧ (rollingOver 0).consistent ∧ (rollingOver 0).engine.purpose = some .rollback ∧ (rollingOver 0).ctl.state = .rollingBack
      ∧ (rollingOver 0).engine.cursor = some 0
      ∧ (rollingOver 0).completing .recordRead = .underway ⟨.recordRead, 1027968, 20, [], 0⟩ := by
  and_intros <;> decide +kernel
theorem meets_RecordReadJudged_edges_record :
    (recordReading 16 .scan 14 true true).recordIsGood [] ((recordReading 16 .scan 14 true true).wordsRead
        ⟨.recordRead, (recordReading 16 .scan 14 true true).logWord 15, 20, [], 0⟩ [])
      ∧ ¬(rollingOver 0).recordIsGood [⟨0, MWord.zero⟩] ((rollingOver 0).wordsRead ⟨.recordRead, 1027968, 20, [], 0⟩
        [⟨0, MWord.zero⟩]) :=
  ⟨meets_RecordReadJudged_good _ _ _ _ (by decide +kernel) (by decide +kernel) (by decide +kernel), fun h => nomatch h.1⟩
/-- The scan of an empty log ends at once: the recovery seal is requested. -/
theorem test_scan_of_empty_log :
    after (.recordReadComplete [⟨0, MWord.zero⟩]) (recordReading 17 .scan 0 true false) (fun t =>
      t.engine.scanEnd == some 0 && t.engine.phase == .idle && t.events.records == []
        && t.header.writeRequest.map WriteRequest.kind == some .recoverySeal) = true := by decide +kernel

/-- A restore write in progress. -/
def restoring (purpose : Purpose) (epoch : BitVec 48) (cursor : Nat) (es : List QueueEntry) : State :=
  let s := inState (inEpoch board epoch 0) (if purpose = .rollback then .rollingBack else .recovering)
    (if purpose = .rollback then some .rollback else none)
  queued (operating (walking s purpose .restoring cursor 0 0 true) .restoreWrite 640 16 (fullBeats (List.replicate 16 ones)))
    es

theorem meets_RestoreWriteWalksOn :
    (restoring .rollback 30 1 []).consistent ∧ (restoring .rollback 30 0 []).consistent
      ∧ (restoring .rollback 30 0 [entry 327680 .plain .opened 20 false]).consistent
      ∧ (restoring .recovery 90 0 []).consistent ∧ (restoring .recovery 281474976710655 0 []).consistent
      ∧ (restoring .rollback 30 1 []).completing .restoreWrite
        = .underway ⟨.restoreWrite, 640, 16, fullBeats (List.replicate 16 ones), 0⟩
      ∧ (restoring .recovery 90 0 []).completing .restoreWrite
        = .underway ⟨.restoreWrite, 640, 16, fullBeats (List.replicate 16 ones), 0⟩
      ∧ (restoring .recovery 281474976710655 0 []).epochNumber = 281474976710655#48
      ∧ (restoring .recovery 90 0 []).epochNumber ≠ 281474976710655#48 := by
  and_intros <;> decide +kernel

/-- The read of slot B in progress with a valid header there. -/
def validB (surveyA : SlotSurvey) (generation : BitVec 64) : State :=
  { reading .b (some surveyA) (some (header generation 70 (config 1 1024))) with mem := cells 4194048 headerBytes }

theorem meets_HeaderReadSelects_words (v : SlotSurvey) (g : BitVec 64) :
    bytesOf ((validB v g).wordsRead ⟨.headerRead, 1048512, 64, [], 0⟩ []) = headerBytes := by
  show bytesOf ((cells 4194048 headerBytes).readWords 1048512 64) = headerBytes
  decide +kernel

/-- Slot B VALID, at generation 101, beside slot A DAMAGED, VALID at generation 101, and VALID at 100. -/
theorem meets_HeaderReadSelects :
    judgeSlot 4194304 false (bytesOf ((validB ⟨.damaged, some 3⟩ 0).wordsRead ⟨.headerRead, 1048512, 64, [], 0⟩ [])) = .valid
      ∧ judgeSlot 4194304 false (bytesOf ((validB ⟨.valid, some 3⟩ 101).wordsRead ⟨.headerRead, 1048512, 64, [], 0⟩ []))
        = .valid
      ∧ HeaderRecord.ofBytes (bytesOf ((validB ⟨.valid, some 3⟩ 101).wordsRead ⟨.headerRead, 1048512, 64, [], 0⟩ []))
        = ⟨false, 101, 71, 3, config 1 1024⟩ ∧ (101#64).toNat ≤ (101#64).toNat ∧ (100#64).toNat < (101#64).toNat := by
  rw [meets_HeaderReadSelects_words, meets_HeaderReadSelects_words]
  exact ⟨test_header_valid, test_header_valid, test_header_fields, by decide, by decide⟩
theorem meets_HeaderReadSelects_operation :
    (validB ⟨.valid, some 3⟩ 101).completing .headerRead = .underway ⟨.headerRead, 1048512, 64, [], 0⟩
      ∧ (validB ⟨.valid, some 3⟩ 101).size = 4194304 ∧ (validB ⟨.valid, some 3⟩ 101).ctl.state = .starting
      ∧ (validB ⟨.valid, some 3⟩ 101).header.readRequest = some ⟨.b, true⟩
      ∧ (validB ⟨.valid, some 3⟩ 101).header.surveyA.map SlotSurvey.judgement = some .valid
      ∧ (reading .a none none).header.readRequest = some ⟨.a, true⟩
      ∧ (reading .a none none).completing .headerRead = .underway ⟨.headerRead, 1048448, 64, [], 0⟩ := by decide +kernel
theorem meets_HeaderReadSelects_consistent :
    (validB ⟨.valid, some 3⟩ 101).consistent ∧ (validB ⟨.valid, some 3⟩ 101).configured ∧ (reading .a none none).consistent
      ∧ (reading .a none none).configured ∧ (reading .b (some ⟨.absent, none⟩) none).consistent
      ∧ (reading .b (some ⟨.absent, none⟩) none).configured := by
  and_intros <;> decide +kernel
/-- A request that straddles the start-up, and one remembered in it, which entering UNFORMATTED and FAULT answers. -/
def straddling (s : State) : State := { s with pins := { s.pins with ereq := true, eop := 1 } }
theorem meets_HeaderReadSelects_requests :
    (straddling (reading .b (some ⟨.absent, none⟩) none)).consistent
      ∧ (straddling (reading .b (some ⟨.absent, none⟩) none)).ctl.lowSeen = false
      ∧ (remembering (reading .b (some ⟨.damaged, some 3⟩) none) .flush).consistent
      ∧ (remembering (reading .b (some ⟨.damaged, some 3⟩) none) .flush).configured
      ∧ (remembering (reading .b (some ⟨.damaged, some 3⟩) none) .flush).ctl.remembered = some .flush := by
  and_intros <;> decide +kernel
theorem test_start_up_ends_refusing :
    after (.headerReadComplete []) (straddling (reading .b (some ⟨.absent, none⟩) (some (header 1 1 (config 1 1024))))) (fun t =>
      t.ctl.state == .unformatted && t.ctl.answer == some ⟨.commit, .refused⟩ && t.ctl.eres == .refused) = true
    ∧ after (.headerReadComplete []) (remembering (reading .b (some ⟨.damaged, some 3⟩) (some (header 1 1 (config 1 1024))))
        .flush) (fun t =>
      t.ctl.state == .fault && t.ctl.faultReason == some .header && t.ctl.answer == some ⟨.flush, .refused⟩
        && t.ctl.remembered == none) = true := by decide +kernel
/-- Slot B ABSENT and DAMAGED; with slot A ABSENT, UNFIT or DAMAGED no slot is VALID. -/
theorem meets_HeaderReadSelects_none :
    judgeSlot 4194304 false (bytesOf ((reading .b (some ⟨.absent, none⟩) none).wordsRead
        ⟨.headerRead, 1048512, 64, [], 0⟩ [])) = .absent
      ∧ judgeSlot 4194304 true (bytesOf ((reading .b (some ⟨.unfit, some 3⟩) none).wordsRead
        ⟨.headerRead, 1048512, 64, [], 0⟩ [⟨63, MWord.zero⟩])) = .damaged := by decide +kernel

theorem meets_LinkQueriesAnswered :
    (receiving board).linkReceiving = true ∧ (receiving board).header.active = some (config 1 1024)
      ∧ blank.linkReceiving = true ∧ blank.header.active = none := by decide +kernel

theorem meets_EventsPoppedInFrames :
    (receiving board).pins.resetLow = false ∧ (receiving board).link.phase = .receiving
      ∧ (receiving board).events.records = []
      ∧ (withEvents (receiving board) 16).link.phase = .receiving
      ∧ (withEvents (receiving board) 16).events.records
        = ⟨.configApplied, 12, 1⟩ :: List.replicate 15 ⟨.configApplied, 12, 1⟩
      ∧ (let s := withEvents { board with link := { board.link with
            phase := .responding, command := [0x02], pendingRemoval := true } } 1;
        s.pins.resetLow = false ∧ s.link.phase = .responding ∧ s.link.command = [0x02#8] ∧ s.link.pendingRemoval = true
          ∧ s.events.records = ⟨.configApplied, 12, 1⟩ :: [])
      ∧ (let s := { board with link := { board.link with phase := .responding, command := [0x02] } };
        s.link.phase = .responding ∧ s.link.command = [0x02#8] ∧ s.link.pendingRemoval = false)
      ∧ board.pins.resetLow = false ∧ board.pins.ssnLow = false := by decide +kernel

theorem meets_StagingCarriedOut :
    (receiving board).linkReceiving = true ∧ (receiving board).ctl.state = .opened ∧ blank.ctl.state = .unformatted
      ∧ (7#8).toNat < 8 ∧ 8 ≤ (8#8).toNat ∧ (receiving (inState board .parked none)).linkReceiving = true
      ∧ (receiving board).link.staged.valid (receiving board).size = true
      ∧ { receiving board with link := { (receiving board).link with staged := config 1 15 } }.link.staged.valid 4194304
        = false ∧ (receiving board).header.active = some (config 1 1024)
      ∧ (config 1 16).valid 4194304 = true := by decide +kernel

theorem meets_FormatDecidedAndBegun :
    blank.linkReceiving = true ∧ (receiving board).linkReceiving = true
      ∧ ¬((receiving board).ctl.state = .unformatted ∨ (receiving board).ctl.state = .fault
        ∧ (receiving board).ctl.faultReason ≠ some .strap)
      ∧ blank.ctl.state = .unformatted ∧ { blank with link := { blank.link with staged := config 3 1024 } }.link.staged.valid
        blank.size = false
      ∧ { blank with header := { blank.header with surveyB := some ⟨.damaged, some 5⟩ } }.header.surveyB
        = some ⟨.damaged, some 5⟩
      ∧ blank.link.staged.valid blank.size = true ∧ blank.port.op = none
      ∧ (∀ v ∈ blank.header.surveyA, v.judgement = .absent ∨ v.number ≠ some 5#32)
      ∧ ∀ v ∈ blank.header.surveyB, v.judgement = .absent ∨ v.number ≠ some 5#32 := by decide +kernel

end Sys2Proof.Tests.Slice0
end

section
/-! The end of an event in OPEN, with a write beat held: what ends it is a capture taken, a grant and another capture, and a
beat that finds the queue and the table as they were is held on. -/

namespace Sys2Proof.Machine

/-! ### What ends an event composes -/

theorem endsIn_refl (u : State) : u.endsIn u := by
  simp [State.endsIn]

/-- Two ends of an event, one behind the other, change no more than one does. -/
theorem endsIn_trans {u v w : State} (huv : u.endsIn v) (hvw : v.endsIn w) : u.endsIn w := by
  obtain ⟨pins, mem, dec, table, link, events, alarms, pending, queue, entries, ctl, state, header, host, tail, capture,
    engine, port⟩ := huv
  obtain ⟨pins', mem', dec', table', link', events', alarms', pending', queue', entries', ctl', state', header', host',
    tail', capture', engine', port'⟩ := hvw
  refine ⟨pins'.trans pins, mem'.trans mem, dec'.trans dec, table'.trans table, link'.trans link, events'.trans events,
    alarms'.trans alarms, pending'.trans pending, ?_, entries'.trans entries, ?_, ?_, ?_, ?_, tail'.trans tail, ?_, ?_, ?_⟩
  · rw [queue', queue]
  · rw [ctl', ctl]
  · rcases state with same | ⟨left, sealing⟩
    · rw [← same]; exact state'
    · refine .inr ⟨left, ?_⟩
      rcases state' with same' | ⟨-, sealing'⟩
      · exact same'.trans sealing
      · exact sealing'
  · rw [header', header]
  · rw [host', host]
  · intro busy
    have cv := capture busy
    rw [capture' (by rw [cv]; exact busy), cv]
  · intro elsewhere
    have still : v.ctl.state ≠ .rollingBack := by
      rcases state with same | ⟨-, sealing⟩
      · rwa [same]
      · simp [sealing]
    rw [engine' still, engine elsewhere]
  · intro busy
    obtain ⟨pv, qv⟩ := port busy
    obtain ⟨pw, qw⟩ := port' (by rwa [pv])
    exact ⟨pw.trans pv, qw.trans qv⟩

/-- Taking a capture is one of the things that end an event (R26). -/
theorem endsIn_takeCapture (u : State) : u.endsIn u.takeCapture := by
  refine ⟨by simp, by simp, by simp, by simp, by simp, by simp, by simp, by simp, by simp, by simp, by simp, by simp,
    by simp, by simp, by simp, ?_, by simp, by simp⟩
  intro busy
  rw [takeCapture_busy busy]

/-- So is the arbiter's grant (R159). -/
theorem endsIn_arbitrate (u : State) : u.endsIn u.arbitrate := by
  rcases arbitrate_cases u with h | ⟨r, o, idle, -, -, -, -, h⟩
  · rw [h]; exact endsIn_refl u
  · obtain ⟨queue, entries⟩ := grant_queue u r o
    rw [h]
    refine ⟨by simp, by simp, by simp, by simp, by simp, by simp, by simp, by simp, queue, entries, by simp, by simp,
      grant_header u r o, grant_host u r o, ?_, fun _ => grant_capture u r o, fun _ => grant_engine u r o, by simp [idle]⟩
    rw [grant_capture]

/-- So are the two together. -/
theorem endsIn_grant (u : State) : u.endsIn u.takeCapture.arbitrate :=
  endsIn_trans (endsIn_takeCapture u) (endsIn_arbitrate u.takeCapture)

/-! ### The end of an event in OPEN -/

/-- The commit's wait is tested in DRAINING alone (R86). -/
theorem commitTest_elsewhere {s : State} (h : s.ctl.state ≠ .draining) : s.commitTest = s := by
  rcases commitTest_cases s with same | ⟨draining, -⟩
  · exact same
  · exact absurd draining h

/-- In OPEN, where no offer and no release changes anything, an event ends with a capture taken, a grant, and a capture
taken after it. -/
theorem settle_opened {before u : State} (ho : u.ctl.state = .opened) (hfirst : State.reoffer before u = u)
    (hread : u.releaseRead = u)
    (hsecond : State.reoffer u.takeCapture u.takeCapture.arbitrate = u.takeCapture.arbitrate) :
    State.settle before u = u.takeCapture.arbitrate.takeCapture := by
  have hc : u.takeCapture.commitTest = u.takeCapture := commitTest_elsewhere (by simp [ho])
  have hr : u.takeCapture.rollbackTest = u.takeCapture := rollbackTest_elsewhere (by simp [ho])
  rw [State.settle, hfirst, hread, hc, hr, State.grantAndOffer, hsecond]

theorem settle_opened_rests (before : State) {u : State} (ho : u.ctl.state = .opened) (hu : u.rests) :
    State.settle before u = u.takeCapture.arbitrate.takeCapture := by
  obtain ⟨-, -, -, -, -, -, -, -, -, undrained, -, -, -, host, -⟩ := endsIn_grant u
  refine settle_opened ho (reoffer_rests hu) (releaseRead_rests hu) (reoffer_rests (rests_of_eq hu ?_ ?_ undrained))
  · rw [host]
  · rw [host]

/-! ### A write beat that is held on -/

/-- A write beat is not released as a read beat is (R69). -/
theorem releaseRead_write {u : State} {c : Cycle} (hc : u.host.cycle = some c) (hw : c.write = true) :
    u.releaseRead = u := by
  unfold State.releaseRead
  rw [hc]
  cases u.host.beat <;> simp [hw]

/-- A held write beat that neither the event nor its grant moves waits on as the event ends. -/
theorem settle_heldOn {before u : State} {c : Cycle} (ho : u.ctl.state = .opened) (hc : u.host.cycle = some c)
    (hw : c.write = true) (hfirst : State.reoffer before u = u)
    (hsecond : State.reoffer u.takeCapture u.takeCapture.arbitrate = u.takeCapture.arbitrate) :
    u.endsIn (State.settle before u) := by
  rw [settle_opened ho hfirst (releaseRead_write hc hw) hsecond]
  exact endsIn_trans (endsIn_grant u) (endsIn_takeCapture _)

/-- No offer is due, no offer is made (R62). -/
theorem reoffer_notDue {before u : State} {b : Beat} (hb : u.host.beat = some b)
    (hd : State.offerDue before u b = false) : State.reoffer before u = u := by
  unfold State.reoffer
  rw [hb]
  split
  · rename_i heq
    cases heq
    simp [hd]
  · rfl

/-- Nor is one made that has the beat wait as before. -/
theorem reoffer_waitsOn {before u : State} {c : Cycle} {p : Portion} {b : Beat} (hc : u.host.cycle = some c)
    (hp : u.host.portion = some p) (hb : u.host.beat = some b) (hw : u.offerWrite c p b = u) :
    State.reoffer before u = u := by
  unfold State.reoffer
  rw [hc, hp, hb]
  dsimp only
  rw [hw, ite_self]

/-- The waiting for the queue ends when the queue changes alone (R62). -/
theorem offerDue_queueFull {before u : State} {b : Beat} (hb : b.reason = .queueFull)
    (hq : u.queue.entries = before.queue.entries) : State.offerDue before u b = false := by
  simp [State.offerDue, hb, hq]

/-- The waiting for the 8 CAPTURING entries ends when the table changes alone (R39). -/
theorem offerDue_ninthCapture {before u : State} {b : Beat} (hb : b.reason = .ninthCapture)
    (ht : u.table = before.table) : State.offerDue before u b = false := by
  simp only [State.offerDue, hb, ht, Bool.and_eq_false_iff, decide_eq_false_iff_not]
  omega

/-- A beat held twice for one reason is held once (R138). -/
theorem held_again {u : State} {b : Beat} (hb : u.host.beat = some b) (hr : u.host.response = .wait)
    (hd : u.host.data = LaneData.empty) : u.held b = u := by
  unfold State.held State.setHost
  rw [← hb, ← hr, ← hd]

/-! ### A full queue stays full through a grant -/

/-- The newest entry as a drain write is granted (R66): itself, or itself draining. -/
theorem markDraining_getLast {n : Nat} {es : List QueueEntry} {e : QueueEntry}
    (h : (markDraining n es).getLast? = some e) :
    es.getLast? = some e ∨ ∃ f, es.getLast? = some f ∧ e = { f with draining := true } := by
  unfold markDraining at h
  by_cases hn : es.length ≤ n
  · rw [List.take_of_length_le hn, List.drop_of_length_le hn, List.append_nil, List.getLast?_map,
      Option.map_eq_some_iff] at h
    obtain ⟨f, hf, rfl⟩ := h
    exact .inr ⟨f, hf, rfl⟩
  · rw [List.getLast?_append, List.getLast?_drop, if_neg hn] at h
    cases hl : es.getLast? with
    | none => simp [List.getLast?_eq_none_iff.1 hl] at hn
    | some f => rw [hl] at h; exact .inl h

/-- What a grant does to the queue (R66, R159): nothing, or it has the first entries drain. -/
theorem arbitrate_queue (s : State) :
    ∃ n, s.arbitrate.queue = { s.queue with entries := markDraining n s.queue.entries } := by
  have same : s.queue = { s.queue with entries := markDraining 0 s.queue.entries } := by simp [markDraining]
  rcases arbitrate_cases s with h | ⟨r, o, -, -, -, -, -, h⟩
  · exact ⟨0, by rw [h]; exact same⟩
  · rw [h]
    cases r with
    | drain => exact ⟨_, rfl⟩
    | engine => exact ⟨0, same⟩
    | capture => exact ⟨0, same⟩
    | header => refine ⟨0, ?_⟩; simp only [State.grant, State.tellGranted]; (repeat' split) <;> exact same
    | hostRead => refine ⟨0, ?_⟩; simp only [State.grant, State.tellGranted]; split <;> exact same

/-- A queue takes no more beats for its entries' having begun to drain (R59, R62). -/
theorem accepts_markDraining {q : PostingQueue} {word : Nat} {gate : Gate} (n : Nat)
    (h : PostingQueue.accepts { q with entries := markDraining n q.entries } word gate = true) :
    q.accepts word gate = true := by
  unfold PostingQueue.accepts PostingQueue.merges at h ⊢
  rw [Bool.or_eq_true] at h ⊢
  rcases h with merges | room
  · left
    split at merges
    · rename_i e he
      rcases markDraining_getLast he with last | ⟨f, -, rfl⟩
      · rw [last]; exact merges
      · simp at merges
    · cases merges
  · right
    have hl : (markDraining n q.entries).length = q.entries.length := by
      have := congrArg List.length (markDraining_undrained n q.entries)
      simpa using this
    rwa [hl] at room

end Sys2Proof.Machine
end

section
/-! Admission of a GUARDED first write beat (R43 to R48): the decision, what comes of each decision, and the first beat that
leads to it. -/

namespace Sys2Proof.Machine

/-! ### The decision -/

/-- Admission reads the table, the active configuration and the tail (R43). -/
theorem admission_congr {u v : State} (g : Nat) (ht : v.table = u.table) (hh : v.header.active = u.header.active)
    (hc : v.capture.tail = u.capture.tail) : v.admission g = u.admission g := by
  unfold State.admission State.admissionIntact State.freeSlots State.capacity State.breakPolicy
  rw [ht, hh, hc]

/-- A granule with an entry takes its gate from the entry (R44). -/
theorem admission_present {s : State} {g : Nat} {e : TableEntry} (hs : s.table.status = some .intact)
    (he : s.table.lookup g = some e) :
    s.admission g = .take (if e.state = .logged then .opened else .tied g) .nothing := by
  simp only [State.admission, State.admissionIntact, hs, he]
  split <;> rfl

/-- Under BREAKING the beat waits for the mark (R48). -/
theorem admission_breaking {s : State} {g : Nat} (hs : s.table.status = some .breaking) :
    s.admission g = .take .waitMark .nothing := by
  simp only [State.admission, hs]

/-- Under BROKEN nothing is captured (R48). -/
theorem admission_broken {s : State} {g : Nat} (hs : s.table.status = some .broken) :
    s.admission g = .take .opened .nothing := by
  simp only [State.admission, hs]

/-- An absent granule with a slot free starts a capture (R45). -/
theorem admission_newCapture {s : State} {g : Nat} (hs : s.table.status = some .intact) (hl : s.table.lookup g = none)
    (hf : 1 ≤ s.freeSlots) (hc : capturingCount s.table.entries < 8) :
    s.admission g = .take (.tied g) .newCapture := by
  have : ¬ Config.capturingLimit ≤ capturingCount s.table.entries := by simpa [Config.capturingLimit] using hc
  simp only [State.admission, State.admissionIntact, hs, hl, if_pos hf, if_neg this]

/-- With 8 entries CAPTURING it waits (R39). -/
theorem admission_ninth {s : State} {g : Nat} (hs : s.table.status = some .intact) (hl : s.table.lookup g = none)
    (hf : 1 ≤ s.freeSlots) (hc : 8 ≤ capturingCount s.table.entries) : s.admission g = .ninth := by
  have : Config.capturingLimit ≤ capturingCount s.table.entries := hc
  simp only [State.admission, State.admissionIntact, hs, hl, if_pos hf, if_pos this]

/-- Under HOLD an absent granule with no slot free is refused (R46). -/
theorem admission_busy {s : State} {g : Nat} (hs : s.table.status = some .intact) (hl : s.table.lookup g = none)
    (hf : s.freeSlots = 0) (hp : s.header.active.map Configuration.policy = some 0x01#8) : s.admission g = .busy := by
  obtain ⟨c, hc, policy⟩ := Option.map_eq_some_iff.1 hp
  have full : ¬ 1 ≤ s.freeSlots := by omega
  have hold : ¬ s.breakPolicy = true := by simp [State.breakPolicy, hc, policy]
  simp only [State.admission, State.admissionIntact, hs, hl, if_neg full, if_neg hold]

/-! ### What comes of the decision -/

/-- A beat posted touches the queue alone (R43, R145). -/
@[simp] theorem posted_keeps (s : State) (word : Nat) (lanes : Lanes) (d : LaneData) (cls : DecodeClass) (g : Gate) :
    (s.posted word lanes d cls g).host = s.host ∧ (s.posted word lanes d cls g).table = s.table
      ∧ (s.posted word lanes d cls g).capture = s.capture ∧ (s.posted word lanes d cls g).ctl = s.ctl := by
  unfold State.posted; split <;> and_intros <;> rfl

@[simp] theorem withGate_table (s : State) (g : Gate) : (s.withGate g).table = s.table := rfl
@[simp] theorem withGate_capture (s : State) (g : Gate) : (s.withGate g).capture = s.capture := rfl
@[simp] theorem withGate_ctl (s : State) (g : Gate) : (s.withGate g).ctl = s.ctl := rfl

/-- A beat answered touches the host port alone (R138, R141). -/
@[simp] theorem answered_keeps (s : State) (c : Cycle) (d : LaneData) :
    (s.answered c d).table = s.table ∧ (s.answered c d).capture = s.capture ∧ (s.answered c d).ctl = s.ctl := by
  unfold State.answered
  split
  · and_intros <;> rfl
  · split <;> and_intros <;> rfl

/-- A beat taken with nothing more to do (R44, R48). -/
theorem admitBeat_takes {u : State} {c : Cycle} {p : Portion} {b : Beat} {gate : Gate} (hc : u.host.cycle = some c)
    (hg : p.cls = .guarded) (ha : u.admission p.granule = .take gate .nothing) (ht : u.takesBeat c b gate) :
    u.admitBeat c p b = ((u.posted c.word b.lanes b.data .guarded gate).withGate gate).answered c LaneData.empty := by
  simp only [State.admitBeat, ha, hg]
  rw [if_pos ht]
  refine finishBeat_eq _ ?_
  simp [State.applyAdmission, post_eq, hc]

/-- A beat taken that starts a capture (R45). -/
theorem admitBeat_captures {u : State} {c : Cycle} {p : Portion} {b : Beat} {gate : Gate} (hc : u.host.cycle = some c)
    (hg : p.cls = .guarded) (ha : u.admission p.granule = .take gate .newCapture) (ht : u.takesBeat c b gate) :
    u.admitBeat c p b = (((u.posted c.word b.lanes b.data .guarded gate).withGate gate).setTable
      (u.table.enrol p.granule)).watermarkTest.answered c LaneData.empty := by
  simp only [State.admitBeat, ha, hg]
  obtain ⟨-, table, -⟩ := posted_keeps u c.word b.lanes b.data .guarded gate
  rw [if_pos ht, ← table]
  refine finishBeat_eq _ ?_
  simp [State.applyAdmission, post_eq, hc]

/-- A beat the queue cannot take is held, whatever its gate would do (R43, R62). -/
theorem admitBeat_queueFull {u : State} {c : Cycle} {p : Portion} {b : Beat} {gate : Gate} {effect : AdmissionEffect}
    (ha : u.admission p.granule = .take gate effect) (ht : ¬u.takesBeat c b gate) :
    u.admitBeat c p b = u.held { b with reason := .queueFull } := by
  simp only [State.admitBeat, ha]
  rw [if_neg ht, holdBeat_eq]

/-- A beat behind 8 CAPTURING entries is held (R39). -/
theorem admitBeat_ninth {u : State} {c : Cycle} {p : Portion} {b : Beat} (ha : u.admission p.granule = .ninth) :
    u.admitBeat c p b = u.held { b with reason := .ninthCapture } := by
  simp only [State.admitBeat, ha, holdBeat_eq]

/-- A beat refused is answered BUSY (R46). -/
theorem admitBeat_busy {u : State} {c : Cycle} {p : Portion} {b : Beat} (ha : u.admission p.granule = .busy) :
    u.admitBeat c p b = (u.noteExhausted p.granule).closed .busy LaneData.empty := by
  simp only [State.admitBeat, ha, closeBeat_eq]

/-- A first beat of a GUARDED portion goes through admission (R43). -/
theorem offerWrite_admits {u : State} {c : Cycle} {p : Portion} {b : Beat} (hp : p.cls = .guarded)
    (hb : b.first = true) : u.offerWrite c p b = u.admitBeat c p b := if_pos ⟨hp, hb⟩

/-! ### A beat that admission held, as the event ends -/

/-- A first beat held for the queue's room is held on through the grant: the drain write has entries drain, and takes none
away (R62). -/
theorem settle_heldQueueFull {before u : State} {c : Cycle} {p : Portion} {b : Beat} {gate : Gate}
    {effect : AdmissionEffect} (ho : u.ctl.state = .opened) (hc : u.host.cycle = some c) (hw : c.write = true)
    (hp : u.host.portion = some p) (hg : p.cls = .guarded) (hf : b.first = true) (hr : b.reason = .queueFull)
    (hq : u.queue = before.queue) (ha : u.admission p.granule = .take gate effect) (ht : ¬u.takesBeat c b gate) :
    (u.held b).endsIn (State.settle before (u.held b)) := by
  refine settle_heldOn (u := u.held b) ho hc hw
    (reoffer_notDue rfl (offerDue_queueFull hr (congrArg PostingQueue.entries hq))) ?_
  obtain ⟨n, queue⟩ := arbitrate_queue (u.held b).takeCapture
  have kept : (u.held b).takeCapture.queue = u.queue := by simp [State.held]
  obtain ⟨-, -, -, table, -, -, -, -, -, -, -, -, header, host, tail, -⟩ := endsIn_grant (u.held b)
  generalize (u.held b).takeCapture.arbitrate = granted at *
  have full : ¬granted.takesBeat c b gate := by
    rintro (none | room)
    · exact ht (.inl none)
    · rw [queue, kept] at room
      exact ht (.inr (accepts_markDraining n room))
  have same : granted.admission p.granule = .take gate effect := by
    rw [← ha]
    exact admission_congr _ table (by rw [header]; rfl) tail
  have beat : granted.host.beat = some b := by rw [host]; rfl
  have reason : { b with reason := .queueFull } = b := by rw [← hr]
  refine reoffer_waitsOn (by rw [host]; exact hc) (by rw [host]; exact hp) beat ?_
  rw [offerWrite_admits hg hf, admitBeat_queueFull same full, reason]
  exact held_again beat (by rw [host]; rfl) (by rw [host]; rfl)

/-- A beat held behind 8 CAPTURING entries is held on: a grant leaves the table alone (R39). -/
theorem settle_heldNinth {before u : State} {c : Cycle} {b : Beat} (ho : u.ctl.state = .opened)
    (hc : u.host.cycle = some c) (hw : c.write = true) (hr : b.reason = .ninthCapture)
    (ht : u.table = before.table) : (u.held b).endsIn (State.settle before (u.held b)) := by
  obtain ⟨-, -, -, -, -, -, -, -, -, -, -, -, -, host, -⟩ := endsIn_grant (u.held b)
  exact settle_heldOn (u := u.held b) ho hc hw (reoffer_notDue rfl (offerDue_ninthCapture hr ht))
    (reoffer_notDue (by rw [host]; rfl) (offerDue_ninthCapture hr (by simp)))

/-! ### The capture taken on the event that starts it -/

/-- The new entry is the oldest CAPTURING one of a table that had none (R26, R45). -/
theorem oldestCapturing_enrol {t : GranuleTable} (g : Nat) (h : capturingCount t.entries = 0) :
    (t.enrol g).oldestCapturing = some ⟨g, .capturing⟩ := by
  have none : ∀ e ∈ (if Config.tableDepth ≤ t.entries.length then evictOldest t.entries else t.entries),
      ¬(e.state == .capturing) = true := by
    refine List.countP_eq_zero.1 ?_
    split
    · exact (evictOldest_capturing t.entries).trans h
    · exact h
  unfold GranuleTable.oldestCapturing GranuleTable.enrol
  rw [List.find?_append, List.find?_eq_none.2 none]
  rfl

/-- A capture taken outlasts the end of its event (R26): the grant may grant it, and the unit takes no other. -/
theorem settle_takesCapture (before : State) {u : State} {e : TableEntry} (ho : u.ctl.state = .opened) (hu : u.rests)
    (hi : u.capture.phase = .idle) (hs : u.table.status = some .intact) (he : u.table.oldestCapturing = some e) :
    (State.settle before u).capture.phase = .reading ∧ (State.settle before u).capture.granule = some e.granule
      ∧ (State.settle before u).capture.stop = false := by
  have takes := congrArg State.capture (takeCapture_takes hi (.inl ho) hs he)
  rw [setCapture_capture] at takes
  have reading : u.takeCapture.capture.phase ≠ .idle := by simp [takes]
  obtain ⟨-, -, -, -, -, -, -, -, -, -, -, -, -, -, -, later, -⟩ :=
    endsIn_trans (endsIn_arbitrate u.takeCapture) (endsIn_takeCapture u.takeCapture.arbitrate)
  rw [settle_opened_rests before ho hu, later reading]
  simp [takes]

/-! ### The first beat that is refused -/

/-- Beginning a cycle that ends at once leaves nothing of it (R138, R140). -/
theorem began_closed (s : State) (c : Cycle) (p : Portion) (r : HostResponse) (d : LaneData) :
    (s.began c p).closed r d = s.closed r d := by
  rw [← beginCycle_eq, ← truncate_closeBeat s r d, closeBeat_eq]
  rfl

/-- An event may be raised before a response or after it (R172). -/
theorem raise_closed (s : State) (k : EventKind) (e : BitVec 48) (x : BitVec 32) (r : HostResponse) (d : LaneData) :
    (s.raise k e x).closed r d = (s.closed r d).raise k e x := by
  by_cases room : s.events.records.length < 16
  · rw [raise_joins room, raise_joins (s := s.closed r d) room]; rfl
  · rw [raise_lost (Nat.not_lt.1 room), raise_lost (s := s.closed r d) (Nat.not_lt.1 room)]; rfl

/-- Or before a change of the table or after it. -/
theorem raise_setTable (s : State) (k : EventKind) (e : BitVec 48) (x : BitVec 32) (t : GranuleTable) :
    (s.raise k e x).setTable t = (s.setTable t).raise k e x := by
  by_cases room : s.events.records.length < 16
  · rw [raise_joins room, raise_joins (s := s.setTable t) room]; rfl
  · rw [raise_lost (Nat.not_lt.1 room), raise_lost (s := s.setTable t) (Nat.not_lt.1 room)]; rfl

/-- A full log noted before changes the alarm alone (R46). -/
theorem noteExhausted_again {s : State} (g : Nat) (h : s.table.exhaustionNoted = true) :
    s.noteExhausted g = s.setAlarms { s.alarms with exhausted := true } := if_pos h

/-- One noted for the first time in its epoch raises LOG_EXHAUSTED (R46). -/
theorem noteExhausted_first {s : State} (g : Nat) (h : s.table.exhaustionNoted = false) :
    s.noteExhausted g = ((s.setAlarms { s.alarms with exhausted := true }).setTable
      { s.table with exhaustionNoted := true }).raise .logExhausted s.epochNumber (BitVec.ofNat 32 g) := by
  rw [← raise_setTable]
  refine (if_neg ?_).trans ?_
  · simp [h]
  · simp [State.epochNumber]

/-- A full log is noted alike before and after the response (R46). -/
theorem noteExhausted_closed (s : State) (g : Nat) (r : HostResponse) (d : LaneData) :
    (s.noteExhausted g).closed r d = (s.closed r d).noteExhausted g := by
  cases h : s.table.exhaustionNoted with
  | true => rw [noteExhausted_again g h, noteExhausted_again (s := s.closed r d) g h]; rfl
  | false => rw [noteExhausted_first g h, noteExhausted_first (s := s.closed r d) g h, raise_closed]; rfl

/-! ### The first beat of a GUARDED write -/

/-- The state in which a first write beat is decided (R139, R140). -/
abbrev State.beganWrite (s : State) (word : BitVec 24) (hlen : BitVec 3) : State :=
  s.began (firstCycle true word hlen) (s.firstPortion word)

/-- A first write beat taken that starts its capture, as its answer is given (R45). -/
abbrev State.captureStarted (s : State) (word : BitVec 24) (hlen : BitVec 3) (lanes : Lanes) (data : MWord) : State :=
  ((((s.beganWrite word hlen).posted word.toNat lanes (LaneData.select lanes data) .guarded
    (.tied (word.toNat / 16))).withGate (.tied (word.toNat / 16))).setTable
      (s.table.enrol (word.toNat / 16))).watermarkTest.answered (firstCycle true word hlen) LaneData.empty

/-- A GUARDED first write beat in OPEN goes to admission (R43, R142, R144), and the event ends. -/
theorem exec_guardedFirstBeat {s : State} {word : BitVec 24} {hlen : BitVec 3} (lanes : Lanes) (data : MWord)
    (hp : s.presents hlen) (ho : s.ctl.state = .opened) (hg : s.classOf word = .guarded) :
    exec (.hostWriteFirstBeat word hlen lanes data) s = .next (State.settle s
      ((s.beganWrite word hlen).admitBeat (firstCycle true word hlen) (s.firstPortion word)
        ⟨lanes, LaneData.select lanes data, true, .queueFull⟩)) := by
  obtain ⟨reset, beat, legal⟩ := hp
  have takes : s.takesFirstBeat = true := by simp [State.takesFirstBeat, reset, beat]
  have ctl : s.truncate.ctl = s.ctl := by unfold State.truncate; split <;> rfl
  have dec : s.truncate.dec = s.dec := by unfold State.truncate; split <;> rfl
  have length : lengthOf hlen = some (2 ^ hlen.toNat) := by
    rw [lengthOf, if_neg (by omega), Nat.one_shiftLeft]
  have early : s.truncate.earlyResponse true hlen = none := by
    simp [State.earlyResponse, responseByState, ctl, ho, length]
  have decoded : s.truncate.decodeWrite word.toNat (2 ^ hlen.toNat) lanes data
      = (s.beganWrite word hlen).offerWrite (firstCycle true word hlen) (s.firstPortion word)
          ⟨lanes, LaneData.select lanes data, true, .queueFull⟩ := by
    have cls : (s.dec.decode (4 * word.toNat)).1 = .guarded := hg
    have portion : s.firstPortion word = ⟨.guarded, (s.dec.decode (4 * word.toNat)).2, granuleOf word.toNat⟩ := by
      rw [State.firstPortion, hg]; rfl
    simp only [State.decodeWrite, dec, cls, true_or, if_true, beginCycle_eq]
    rw [State.beganWrite, portion]
    rfl
  show Host.Outcome.next _ = _
  rw [if_pos takes, early, length]
  dsimp only [Option.getD]
  rw [decoded, offerWrite_admits hg rfl]

/-- Admission finds at a first beat what stood before it (R43). -/
theorem beganWrite_admission (s : State) (word : BitVec 24) (hlen : BitVec 3) :
    (s.beganWrite word hlen).admission (s.firstPortion word).granule = s.admission (word.toNat / 16) :=
  admission_congr _ (began_table ..) (congrArg HeaderUnit.active (began_header ..))
    (congrArg CaptureUnit.tail (began_capture ..))

/-- And the queue that stood before it (R59). -/
theorem beganWrite_takesBeat (s : State) (word : BitVec 24) (hlen : BitVec 3) (b : Beat) (gate : Gate) :
    (s.beganWrite word hlen).takesBeat (firstCycle true word hlen) b gate
      ↔ b.lanes = 0 ∨ s.queue.accepts word.toNat gate = true := by
  rw [State.takesBeat, began_queue]
  rfl

section FirstBeat

variable {s : State} {word : BitVec 24} {hlen : BitVec 3} {lanes : Lanes} (data : MWord) {gate : Gate}
  {effect : AdmissionEffect}

/-- What admission makes of a first beat, the event ends (R43). -/
theorem exec_guardedFirstBeat_ends {u : State} (hp : s.presents hlen) (ho : s.ctl.state = .opened)
    (hg : s.classOf word = .guarded)
    (hu : (s.beganWrite word hlen).admitBeat (firstCycle true word hlen) (s.firstPortion word)
      ⟨lanes, LaneData.select lanes data, true, .queueFull⟩ = u)
    (he : u.endsIn (State.settle s u)) :
    ∃ t, exec (.hostWriteFirstBeat word hlen lanes data) s = .next t ∧ u.endsIn t :=
  ⟨State.settle s u, by rw [exec_guardedFirstBeat lanes data hp ho hg, hu], he⟩

/-- A first beat whose gate the queue cannot take is held, with nothing else changed (R43, R62). -/
theorem exec_guardedFirstBeat_queueFull (hp : s.presents hlen) (ho : s.ctl.state = .opened)
    (hg : s.classOf word = .guarded) (ha : s.admission (word.toNat / 16) = .take gate effect) (hl : lanes ≠ 0)
    (hq : s.queue.accepts word.toNat gate = false) :
    ∃ t, exec (.hostWriteFirstBeat word hlen lanes data) s = .next t
      ∧ ((s.beganWrite word hlen).held ⟨lanes, LaneData.select lanes data, true, .queueFull⟩).endsIn t := by
  have admission := (beganWrite_admission s word hlen).trans ha
  have full : ¬(s.beganWrite word hlen).takesBeat (firstCycle true word hlen)
      ⟨lanes, LaneData.select lanes data, true, .queueFull⟩ gate := by
    rw [beganWrite_takesBeat, hq]
    rintro (none | room)
    · exact hl none
    · cases room
  refine exec_guardedFirstBeat_ends data hp ho hg (admitBeat_queueFull admission full) ?_
  exact settle_heldQueueFull (by simpa using ho) rfl rfl rfl hg rfl rfl (began_queue ..) admission full

end FirstBeat

end Sys2Proof.Machine
end

section
/-! The statements about the first beat of a GUARDED write: R44 and R48, R45 with R39, R46. -/

namespace Sys2Proof.Machine

/-- Settles O31: the gate is admission's, with nothing more to do. -/
theorem guardedWriteWithoutCapture : Obligations.GuardedWriteWithoutCapture := by
  intro s word hlen lanes data gate hp ho hg hgate
  have ha : s.admission (word.toNat / 16) = .take gate .nothing := by
    rcases hgate with ⟨intact, e, present, rfl⟩ | ⟨breaking, rfl⟩ | ⟨broken, rfl⟩
    · exact admission_present intact present
    · exact admission_breaking breaking
    · exact admission_broken broken
  refine ⟨fun takes => ?_, exec_guardedFirstBeat_queueFull data hp ho hg ha⟩
  exact exec_guardedFirstBeat_ends data hp ho hg
    (admitBeat_takes rfl hg ((beganWrite_admission s word hlen).trans ha) ((beganWrite_takesBeat ..).2 takes))
    (settle_endsIn s (answered_rests _ _ _))

/-- Settles O32: a capture started, a full queue, and 8 entries CAPTURING. -/
theorem guardedWriteStartsCapture : Obligations.GuardedWriteStartsCapture := by
  intro s word hlen lanes data hp ho hg intact absent free
  refine ⟨fun few takes => ?_,
    fun few => exec_guardedFirstBeat_queueFull data hp ho hg (admission_newCapture intact absent free few),
    fun eight => ?_⟩
  · have ha := (beganWrite_admission s word hlen).trans (admission_newCapture intact absent free few)
    have starts : (s.beganWrite word hlen).admitBeat (firstCycle true word hlen) (s.firstPortion word)
        ⟨lanes, LaneData.select lanes data, true, .queueFull⟩ = s.captureStarted word hlen lanes data := by
      rw [admitBeat_captures rfl hg ha ((beganWrite_takesBeat ..).2 takes), began_table]
      rfl
    have rests : (s.captureStarted word hlen lanes data).rests := answered_rests _ _ _
    refine ⟨_, (exec_guardedFirstBeat lanes data hp ho hg).trans (by rw [starts]), settle_endsIn s rests, ?_⟩
    intro idle none
    exact settle_takesCapture (e := ⟨word.toNat / 16, .capturing⟩) s (by simp [ho]) rests (by simp [idle])
      (by simp [GranuleTable.enrol, intact]) (by simp [oldestCapturing_enrol _ none])
  · exact exec_guardedFirstBeat_ends data hp ho hg
      (admitBeat_ninth ((beganWrite_admission s word hlen).trans (admission_ninth intact absent free eight)))
      (settle_heldNinth (by simpa using ho) rfl rfl rfl (began_table ..))

/-- Settles O34: what is noted of the full log is noted of the state whose beat is answered. -/
theorem guardedWriteRefusedOnFullLog : Obligations.GuardedWriteRefusedOnFullLog := by
  intro s word hlen lanes data hp ho hg intact absent full hold
  have ha := (beganWrite_admission s word hlen).trans (admission_busy intact absent full hold)
  have refused : ((s.beganWrite word hlen).noteExhausted (word.toNat / 16)).closed .busy LaneData.empty
      = (s.closed .busy LaneData.empty).noteExhausted (word.toNat / 16) := by
    rw [noteExhausted_closed, began_closed]
  have answered := exec_guardedFirstBeat_ends (lanes := lanes) data hp ho hg ((admitBeat_busy ha).trans refused)
    (settle_endsIn s (by rw [← refused]; exact closed_rests _ _ _))
  refine ⟨fun noted => ?_, fun first => ?_⟩
  · rw [noteExhausted_again (s := s.closed .busy LaneData.empty) _ noted] at answered
    exact answered
  · rw [noteExhausted_first (s := s.closed .busy LaneData.empty) _ first] at answered
    exact answered

end Sys2Proof.Machine
end

section
/-! Where host writes enter the posting queue (R146): what it is for a change of the state to post none, and the shared
operations that post none. -/

namespace Sys2Proof.Machine

/-! ### Changes that post nothing -/

/-- The host writes the posting queue holds: its entries without their gates and draining marks. -/
abbrev State.posts (s : State) : List (Nat × LaneData × DecodeClass × BitVec 16) :=
  s.queue.entries.map fun e => (e.word, e.lanes, e.cls, e.age)

/-- A presented write beat awaits its final response. -/
def State.writeWaits (s : State) : Prop := ∃ c ∈ s.host.cycle, c.write = true ∧ s.host.beat.isSome

/-- The queue holds the same writes, the same beat is presented in the same cycle, and the device state is the same. -/
structure State.sameWrites (s t : State) : Prop where
  posts : t.posts = s.posts
  cycle : t.host.cycle = s.host.cycle
  beat : t.host.beat = s.host.beat
  state : t.ctl.state = s.ctl.state

/-- No write has entered the queue, a write beat that waits waited before, and the device has not left OPEN with it. -/
structure State.postsNothing (s t : State) : Prop where
  posts : t.posts.Sublist s.posts
  waited : t.writeWaits → s.writeWaits
  opened : t.writeWaits → s.ctl.state = .opened → t.ctl.state = .opened

section Changes

variable {s u t : State}

theorem heldWriteInOpen_iff : s.heldWriteInOpen ↔ (s.writeWaits → s.ctl.state = .opened) := by
  constructor
  · rintro h ⟨c, hc, hw, hb⟩
    exact h c hc hw hb
  · intro h c hc hw hb
    exact h ⟨c, hc, hw, hb⟩

theorem not_writeWaits_of_noCycle (h : s.host.cycle = none) : ¬s.writeWaits := by
  rintro ⟨c, hc, -⟩
  simp [h] at hc

theorem not_writeWaits_of_noBeat (h : s.host.beat = none) : ¬s.writeWaits := by
  rintro ⟨c, -, -, hb⟩
  simp [h] at hb

/-- In a read cycle no write beat waits. -/
theorem not_writeWaits_of_read (h : ∀ c ∈ s.host.cycle, c.write = false) : ¬s.writeWaits := by
  rintro ⟨c, hc, hw, -⟩
  simp [h c hc] at hw

theorem State.sameWrites.refl (s : State) : s.sameWrites s := ⟨rfl, rfl, rfl, rfl⟩

theorem State.sameWrites.trans (h : s.sameWrites u) (k : u.sameWrites t) : s.sameWrites t :=
  ⟨k.posts.trans h.posts, k.cycle.trans h.cycle, k.beat.trans h.beat, k.state.trans h.state⟩

theorem State.sameWrites.writeWaits_iff (h : s.sameWrites t) : t.writeWaits ↔ s.writeWaits := by
  unfold State.writeWaits
  rw [h.cycle, h.beat]

/-- A change of other blocks. -/
theorem sameWrites_of_frame (hq : t.queue = s.queue) (hh : t.host = s.host) (hc : t.ctl = s.ctl) : s.sameWrites t :=
  ⟨by rw [State.posts, hq], by rw [hh], by rw [hh], by rw [hc]⟩

theorem State.postsNothing.refl (s : State) : s.postsNothing s := ⟨List.Sublist.refl _, id, fun _ => id⟩

theorem State.postsNothing.trans (h : s.postsNothing u) (k : u.postsNothing t) : s.postsNothing t :=
  ⟨k.posts.trans h.posts, fun w => h.waited (k.waited w), fun w o => k.opened w (h.opened (k.waited w) o)⟩

theorem State.sameWrites.postsNothing (h : s.sameWrites t) : s.postsNothing t :=
  ⟨by rw [h.posts], h.writeWaits_iff.1, fun _ o => h.state.trans o⟩

/-- With no write beat waiting behind it, a change need only add nothing to the queue. -/
theorem postsNothing_of_noWait (hq : t.posts.Sublist s.posts) (hw : ¬t.writeWaits) : s.postsNothing t :=
  ⟨hq, fun w => absurd w hw, fun w => absurd w hw⟩

/-- Other blocks and the device state may change, but for OPEN's being left. -/
theorem postsNothing_of_frame (hq : t.queue = s.queue) (hh : t.host = s.host)
    (ho : s.ctl.state = .opened → t.ctl.state = .opened) : s.postsNothing t := by
  refine ⟨by rw [State.posts, hq], ?_, fun _ => ho⟩
  unfold State.writeWaits
  rw [hh]
  exact id

/-- Entries that differ by their draining marks alone hold the same writes. -/
theorem posts_of_undrained (h : t.queue.entries.map QueueEntry.undrained = s.queue.entries.map QueueEntry.undrained) :
    t.posts = s.posts := by
  have shown : ∀ u : State, u.posts
      = (u.queue.entries.map QueueEntry.undrained).map fun e => (e.word, e.lanes, e.cls, e.age) := by
    intro u
    rw [List.map_map]
    rfl
  rw [shown, shown, h]

end Changes

/-! ### Blocks that hold no writes -/

theorem sameWrites_setPins (s : State) (x : Pins) : s.sameWrites (s.setPins x) := ⟨rfl, rfl, rfl, rfl⟩
theorem sameWrites_setDec (s : State) (x : RegionDecoder) : s.sameWrites (s.setDec x) := ⟨rfl, rfl, rfl, rfl⟩
theorem sameWrites_setCapture (s : State) (x : CaptureUnit) : s.sameWrites (s.setCapture x) := ⟨rfl, rfl, rfl, rfl⟩
theorem sameWrites_setTable (s : State) (x : GranuleTable) : s.sameWrites (s.setTable x) := ⟨rfl, rfl, rfl, rfl⟩
theorem sameWrites_setEngine (s : State) (x : RollbackEngine) : s.sameWrites (s.setEngine x) := ⟨rfl, rfl, rfl, rfl⟩
theorem sameWrites_setHeader (s : State) (x : HeaderUnit) : s.sameWrites (s.setHeader x) := ⟨rfl, rfl, rfl, rfl⟩
theorem sameWrites_setPort (s : State) (x : MemoryPort) : s.sameWrites (s.setPort x) := ⟨rfl, rfl, rfl, rfl⟩
theorem sameWrites_setLink (s : State) (x : ManagementLink) : s.sameWrites (s.setLink x) := ⟨rfl, rfl, rfl, rfl⟩
theorem sameWrites_setEvents (s : State) (x : EventQueue) : s.sameWrites (s.setEvents x) := ⟨rfl, rfl, rfl, rfl⟩
theorem sameWrites_setAlarms (s : State) (x : Alarms) : s.sameWrites (s.setAlarms x) := ⟨rfl, rfl, rfl, rfl⟩

/-- The epoch controller may change but for the device state. -/
theorem sameWrites_setCtl {s : State} {x : EpochController} (h : x.state = s.ctl.state) : s.sameWrites (s.setCtl x) :=
  ⟨rfl, rfl, rfl, h⟩

/-- The device state may change but for OPEN's being left. -/
theorem postsNothing_setCtl {s : State} {x : EpochController} (h : s.ctl.state = .opened → x.state = .opened) :
    s.postsNothing (s.setCtl x) :=
  ⟨List.Sublist.refl _, id, fun _ => h⟩

/-! ### Events, the memory port and the arbiter -/

theorem sameWrites_raise (s : State) (k : EventKind) (e : BitVec 48) (d : BitVec 32) : s.sameWrites (s.raise k e d) :=
  sameWrites_of_frame (by simp) (by simp) (by simp)

theorem sameWrites_watermarkTest (s : State) : s.sameWrites s.watermarkTest :=
  sameWrites_of_frame (by simp) (by simp) (by simp)

@[simp] theorem finishOp_ctl (s : State) (o : MemOp) : (s.finishOp o).ctl = s.ctl := rfl

theorem sameWrites_finishOp (s : State) (o : MemOp) : s.sameWrites (s.finishOp o) := ⟨rfl, rfl, rfl, rfl⟩

/-- A grant has entries drain, and posts none (R66, R159). -/
theorem sameWrites_arbitrate (s : State) : s.sameWrites s.arbitrate := by
  obtain ⟨-, -, -, -, -, -, -, -, -, entries, -, state, -, host, -⟩ := endsIn_arbitrate s
  refine ⟨posts_of_undrained entries, by rw [host], by rw [host], by simp⟩

/-! ### The queue's gates and removals -/

/-- Gates turn on the writes that are there (R49, R63). -/
theorem sameWrites_mapGates (s : State) (f : Gate → Gate) : s.sameWrites (s.mapGates f) :=
  ⟨by simp [State.posts, State.mapGates], rfl, rfl, rfl⟩

theorem postsNothing_keepEntries (s : State) (keep : QueueEntry → Bool) : s.postsNothing (s.keepEntries keep) :=
  ⟨List.filter_sublist.map _, id, fun _ => id⟩

/-! ### Captures -/

theorem sameWrites_requestWrite (s : State) (k : WriteKind) (target : Slot) : s.sameWrites (s.requestWrite k target) :=
  ⟨rfl, rfl, rfl, rfl⟩

theorem sameWrites_dropEntries (s : State) (gone : TableEntry → Bool) : s.sameWrites (s.dropEntries gone) :=
  (sameWrites_setTable s _).trans (sameWrites_watermarkTest _)

theorem sameWrites_waitForMark (s : State) (gs : List Nat) : s.sameWrites (s.waitForMark gs) := by
  unfold State.waitForMark
  split
  · exact sameWrites_mapGates _ _
  · exact .refl s

theorem sameWrites_releaseInFlight (s : State) : s.sameWrites s.releaseInFlight :=
  (sameWrites_setCapture s _).trans (sameWrites_dropEntries _ _)

theorem sameWrites_endStopped (s : State) : s.sameWrites s.endStopped :=
  (sameWrites_releaseInFlight s).trans (sameWrites_waitForMark _ _)

theorem sameWrites_stopCapture (s : State) : s.sameWrites s.stopCapture := by
  unfold State.stopCapture
  split
  · split
    · exact sameWrites_setCapture ..
    · exact sameWrites_endStopped s
  · exact .refl s
  · exact .refl s

theorem sameWrites_cancelWaiting (s : State) : s.sameWrites s.cancelWaiting :=
  (sameWrites_dropEntries s _).trans (sameWrites_waitForMark _ _)

theorem sameWrites_enterBreaking (s : State) : s.sameWrites s.enterBreaking := by
  unfold State.enterBreaking
  split
  · exact (((sameWrites_setTable s _).trans (sameWrites_stopCapture _)).trans (sameWrites_cancelWaiting _)).trans
      (sameWrites_requestWrite _ _ _)
  · exact .refl s

theorem sameWrites_takeCapture (s : State) : s.sameWrites s.takeCapture :=
  sameWrites_of_frame (by simp) (by simp) (by simp)

theorem sameWrites_noteExhausted (s : State) (g : Nat) : s.sameWrites (s.noteExhausted g) := by
  unfold State.noteExhausted
  dsimp only
  split
  · exact sameWrites_setAlarms ..
  · exact ((sameWrites_setAlarms s _).trans (sameWrites_raise ..)).trans (sameWrites_setTable ..)

theorem sameWrites_applyAdmission (s : State) (g : Nat) (e : AdmissionEffect) :
    s.sameWrites (s.applyAdmission g e) := by
  cases e with
  | nothing => exact .refl s
  | newCapture => exact (sameWrites_setTable s _).trans (sameWrites_watermarkTest _)
  | breakEpoch => exact (sameWrites_noteExhausted s g).trans (sameWrites_enterBreaking _)

/-! ### The host port's responses and reads -/

theorem postsNothing_closeBeat (s : State) (r : HostResponse) (d : LaneData) : s.postsNothing (s.closeBeat r d) :=
  postsNothing_of_noWait (List.Sublist.refl _) (not_writeWaits_of_noCycle rfl)

theorem postsNothing_finishBeat (s : State) (d : LaneData) : s.postsNothing (s.finishBeat d) := by
  unfold State.finishBeat
  split
  · exact .refl s
  · split
    · exact postsNothing_closeBeat ..
    · split
      · exact postsNothing_closeBeat ..
      · exact postsNothing_of_noWait (List.Sublist.refl _) (not_writeWaits_of_noBeat rfl)

theorem postsNothing_truncate (s : State) : s.postsNothing s.truncate := by
  unfold State.truncate
  split
  · exact postsNothing_of_noWait (List.Sublist.refl _) (not_writeWaits_of_noCycle rfl)
  · exact .refl s

theorem leaveOpen_posts (s : State) : s.leaveOpen.posts = s.posts := by
  unfold State.leaveOpen
  (repeat' split) <;> rfl

/-- The device leaves OPEN with no write beat waiting (R143). -/
theorem leaveOpen_not_writeWaits (s : State) : ¬s.leaveOpen.writeWaits := by
  unfold State.leaveOpen
  split
  · rename_i c hc
    split
    · split
      · exact not_writeWaits_of_noCycle rfl
      · rename_i answered
        exact not_writeWaits_of_noBeat (by simpa using answered)
    · rename_i read
      exact not_writeWaits_of_read (by simp [hc, read])
  · rename_i hc
    exact not_writeWaits_of_noCycle hc

section Reads

variable {s : State} (reads : ∀ c ∈ s.host.cycle, c.write = false)
include reads

theorem postsNothing_holdBeat (b : Beat) (r : WaitReason) : s.postsNothing (s.holdBeat b r) :=
  postsNothing_of_noWait (List.Sublist.refl _) (not_writeWaits_of_read reads)

theorem postsNothing_requestRead (c : Cycle) (b : Beat) : s.postsNothing (s.requestRead c b) := by
  unfold State.requestRead
  split
  · exact postsNothing_holdBeat reads ..
  · exact postsNothing_of_noWait (List.Sublist.refl _) (not_writeWaits_of_read reads)

omit reads in
theorem postsNothing_answerWord (s : State) (word : Nat) (lanes : Lanes) (data : MWord) (merr : Bool) :
    s.postsNothing (s.answerWord word lanes data merr) := by
  unfold State.answerWord
  split
  · exact (sameWrites_raise s ..).postsNothing.trans (postsNothing_closeBeat ..)
  · exact postsNothing_finishBeat ..

/-- A read beat served posts nothing, however it is served (R147, R148). -/
theorem postsNothing_serveRead (c : Cycle) (b : Beat) : s.postsNothing (s.serveRead c b) := by
  unfold State.serveRead
  split
  · exact postsNothing_finishBeat ..
  · split
    · exact postsNothing_holdBeat reads ..
    · exact postsNothing_answerWord ..
    · split
      · exact postsNothing_requestRead reads ..
      · split
        · exact postsNothing_finishBeat ..
        · exact postsNothing_holdBeat reads ..

end Reads

theorem postsNothing_releaseRead (s : State) : s.postsNothing s.releaseRead := by
  unfold State.releaseRead
  split
  · rename_i c b hc hb
    split
    · rename_i due
      exact postsNothing_requestRead (by simp [hc, due.1]) c b
    · exact .refl s
  · exact .refl s

/-! ### Writes offered: the device state stays -/

theorem finishBeat_ctl (s : State) (d : LaneData) : (s.finishBeat d).ctl = s.ctl := by
  unfold State.finishBeat
  (repeat' split) <;> rfl

theorem post_ctl (s : State) (word : Nat) (b : Beat) (cls : DecodeClass) (g : Gate) :
    (s.post word b cls g).ctl = s.ctl := by
  unfold State.post
  split <;> rfl

theorem admitBeat_state (s : State) (c : Cycle) (p : Portion) (b : Beat) :
    (s.admitBeat c p b).ctl.state = s.ctl.state := by
  unfold State.admitBeat
  split
  · exact (sameWrites_noteExhausted s p.granule).state
  · rfl
  · rename_i gate effect _
    split
    · dsimp only
      rw [finishBeat_ctl, (sameWrites_applyAdmission _ p.granule effect).state, setHost_ctl, post_ctl]
    · rfl

/-- An offer leaves the device state alone: what admission breaks is the epoch (R43 to R48). -/
theorem offerWrite_state (s : State) (c : Cycle) (p : Portion) (b : Beat) :
    (s.offerWrite c p b).ctl.state = s.ctl.state := by
  unfold State.offerWrite
  split
  · exact admitBeat_state s c p b
  · split
    · rw [finishBeat_ctl, post_ctl]
    · rfl

theorem decodeWrite_state (s : State) (word length : Nat) (lanes : Lanes) (data : MWord) :
    (s.decodeWrite word length lanes data).ctl.state = s.ctl.state := by
  unfold State.decodeWrite
  dsimp only
  split
  · exact offerWrite_state (s.beginCycle _ _) _ _ _
  · exact (sameWrites_raise s ..).state

/-! ### The epoch control port -/

theorem sameWrites_forget (s : State) : s.sameWrites (s.setCtl { s.ctl with remembered := none }) :=
  sameWrites_setCtl rfl

theorem sameWrites_driveAnswer (s : State) (op : Operation) (r : EpochResult) : s.sameWrites (s.driveAnswer op r) :=
  ⟨rfl, rfl, rfl, rfl⟩

theorem sameWrites_recordResult (s : State) (a : Answer) : s.sameWrites (s.recordResult a) :=
  (sameWrites_raise s ..).trans (sameWrites_setCtl rfl)

theorem sameWrites_refuseAtLimit (s : State) (op : Operation) : s.sameWrites (s.refuseAtLimit op) :=
  (sameWrites_raise s ..).trans (sameWrites_driveAnswer ..)

theorem sameWrites_takeFlush (s : State) : s.sameWrites s.takeFlush := by
  unfold State.takeFlush
  split
  · exact ⟨rfl, rfl, rfl, rfl⟩
  · exact sameWrites_driveAnswer ..

theorem postsNothing_takeCommit (s : State) : s.postsNothing s.takeCommit :=
  postsNothing_of_noWait (by rw [State.takeCommit, leaveOpen_posts]; exact List.Sublist.refl _)
    (leaveOpen_not_writeWaits _)

/-- A ROLLBACK takes entries out of the queue, and a write beat that waits is answered (R70, R94, R143). -/
theorem postsNothing_takeRollback (s : State) : s.postsNothing s.takeRollback := by
  have removed : ∀ u : State, u.postsNothing (u.keepEntries staysInRollback).stopCapture.cancelWaiting := fun u =>
    ((postsNothing_keepEntries u _).trans (sameWrites_stopCapture _).postsNothing).trans
      (sameWrites_cancelWaiting _).postsNothing
  refine postsNothing_of_noWait ?_ (leaveOpen_not_writeWaits _)
  show (State.leaveOpen _).posts.Sublist _
  rw [leaveOpen_posts]
  exact (removed _).posts

theorem postsNothing_takeRequest (s : State) (op : Operation) : s.postsNothing (s.takeRequest op) := by
  have refuses : ∀ op, s.postsNothing (s.refuseAtLimit op) := fun op => (sameWrites_refuseAtLimit s op).postsNothing
  cases op with
  | illegal => exact (sameWrites_driveAnswer ..).postsNothing
  | commit =>
    dsimp only [State.takeRequest]
    split
    · exact refuses .commit
    · exact postsNothing_takeCommit s
  | rollback =>
    dsimp only [State.takeRequest]
    split
    · exact refuses .rollback
    · split
      · exact postsNothing_takeRollback s
      · exact (sameWrites_driveAnswer ..).postsNothing
  | flush => exact (sameWrites_takeFlush s).postsNothing

theorem postsNothing_takeRemembered (s : State) : s.postsNothing s.takeRemembered := by
  unfold State.takeRemembered
  split
  · split
    · exact (sameWrites_forget s).postsNothing.trans (postsNothing_takeRequest _ _)
    · exact .refl s
  · exact .refl s

theorem postsNothing_reachResult (s : State) (r : EpochResult) : s.postsNothing (s.reachResult r) := by
  unfold State.reachResult
  split
  · split
    · exact (sameWrites_recordResult s _).postsNothing.trans (postsNothing_takeRemembered _)
    · exact (sameWrites_driveAnswer ..).postsNothing
  · exact .refl s

theorem postsNothing_risingEdge (s : State) (op : Operation) : s.postsNothing (s.risingEdge op) := by
  have remembers : s.postsNothing (s.setCtl { s.ctl with remembered := some op }) := postsNothing_setCtl id
  have refuses : s.postsNothing (s.driveAnswer op .refused) := (sameWrites_driveAnswer ..).postsNothing
  unfold State.risingEdge
  cases hd : s.ctl.state with
  | opened =>
    dsimp only
    split
    · exact postsNothing_takeRequest s op
    · exact remembers
  | unformatted | fault => exact refuses
  | parking | parked => exact .refl s
  | starting | recovering | formatting | draining | rollingBack | sealing => exact remembers

/-- A sample of EREQ low touches the port alone (R79, R80). -/
theorem sameWrites_ereqLow (s : State) : s.sameWrites s.ereqLow := by
  unfold State.ereqLow
  extract_lets _ _ _ low _ forgot _
  have toLow : s.sameWrites low := (sameWrites_setPins s _).trans (sameWrites_setCtl rfl)
  have toForgot : s.sameWrites forgot := by
    refine toLow.trans ?_
    unfold forgot
    split
    · exact (sameWrites_raise low ..).trans (sameWrites_setCtl (sameWrites_raise low ..).state.symm)
    · exact .refl low
  refine toForgot.trans ?_
  split
  · exact (sameWrites_recordResult forgot _).trans (sameWrites_setCtl rfl)
  · split
    · exact sameWrites_setCtl rfl
    · exact sameWrites_setCtl rfl
    · exact .refl forgot

theorem postsNothing_endStartUp (s : State) : s.postsNothing s.endStartUp := by
  unfold State.endStartUp
  split
  · dsimp only
    split
    · exact ((sameWrites_raise s ..).trans (sameWrites_driveAnswer ..)).postsNothing
    · exact (sameWrites_driveAnswer ..).postsNothing
  · split
    · exact postsNothing_takeRemembered s
    · split
      · exact ((sameWrites_forget s).trans (sameWrites_driveAnswer ..)).postsNothing
      · exact .refl s

theorem postsNothing_flushTest (s : State) : s.postsNothing s.flushTest := by
  unfold State.flushTest
  split
  · have unmarked : s.sameWrites (s.setQueue { s.queue with mark := none }) := ⟨rfl, rfl, rfl, rfl⟩
    exact unmarked.postsNothing.trans (postsNothing_reachResult _ .ok)
  · exact .refl s

end Sys2Proof.Machine
end

section
/-! The completions, parking and starting up post nothing (R146); what ends an event, and the steps of the host bus. -/

namespace Sys2Proof.Machine

/-! ### Header writes -/

theorem sameWrites_selectWritten (s : State) (target : Slot) (h : HeaderRecord) :
    s.sameWrites (s.selectWritten target h) :=
  (sameWrites_setHeader s _).trans (sameWrites_setCtl rfl)

theorem sameWrites_clearEpoch (s : State) : s.sameWrites s.clearEpoch :=
  ((sameWrites_setCapture s _).trans (sameWrites_setTable _ _)).trans (sameWrites_setAlarms _ _)

theorem sameWrites_applySeal (s : State) (w : WriteRequest) (h : HeaderRecord) : s.sameWrites (s.applySeal w h) := by
  have selected := sameWrites_selectWritten s w.target h
  unfold State.applySeal
  dsimp only
  split
  · exact (((selected.trans (sameWrites_setHeader _ _)).trans (sameWrites_setDec _ _)).trans
      (sameWrites_raise ..)).trans (sameWrites_clearEpoch _)
  · exact selected.trans (sameWrites_clearEpoch _)

theorem sameWrites_takeMark (s : State) (w : WriteRequest) : s.sameWrites (s.takeMark w) :=
  (((((sameWrites_selectWritten s _ _).trans (sameWrites_setTable _ _)).trans (sameWrites_mapGates _ _)).trans
    (sameWrites_dropEntries _ _)).trans (sameWrites_raise ..)).trans (sameWrites_setAlarms _ _)

theorem postsNothing_takeSeal (s : State) (w : WriteRequest) : s.postsNothing (s.takeSeal w) := by
  have applied := (sameWrites_applySeal s w w.header).postsNothing
  unfold State.takeSeal
  dsimp only
  split
  · exact applied
  · exact ((applied.trans (postsNothing_setCtl fun _ => rfl)).trans (postsNothing_reachResult _ _)).trans
      (postsNothing_takeRemembered _)

theorem postsNothing_takeRecoverySeal (s : State) (w : WriteRequest) : s.postsNothing (s.takeRecoverySeal w) := by
  have sealed : ∀ e d, s.postsNothing (((s.selectWritten w.target w.header).clearEpoch).raise .recoveryDone e d) :=
    fun _ _ => (((sameWrites_selectWritten ..).trans (sameWrites_clearEpoch _)).trans
      (sameWrites_raise ..)).postsNothing
  unfold State.takeRecoverySeal
  dsimp only
  split
  · exact sealed _ _
  · exact ((sealed _ _).trans (postsNothing_setCtl fun _ => rfl)).trans (postsNothing_endStartUp _)

theorem sameWrites_takeClearing (s : State) (w : WriteRequest) : s.sameWrites (s.takeClearing w) := by
  unfold State.takeClearing
  dsimp only
  split
  · exact sameWrites_setHeader ..
  · exact (sameWrites_setHeader ..).trans (sameWrites_requestWrite ..)

theorem postsNothing_openUnlessParking (s : State) : s.postsNothing s.openUnlessParking := by
  unfold State.openUnlessParking
  split
  · exact .refl s
  · exact postsNothing_setCtl fun _ => rfl

theorem postsNothing_takeFormat (s : State) (w : WriteRequest) : s.postsNothing (s.takeFormat w) :=
  (((((sameWrites_selectWritten s w.target w.header).trans (sameWrites_setHeader _ _)).trans
    (sameWrites_setDec _ _)).trans (sameWrites_clearEpoch _)).postsNothing.trans
      (postsNothing_openUnlessParking _)).trans (postsNothing_takeRemembered _)

/-! ### Outside OPEN: FAULT, the walk and the scan -/

section Elsewhere

variable {s : State} (elsewhere : s.ctl.state ≠ .opened)
include elsewhere

theorem postsNothing_enterFault (r : FaultReason) : s.postsNothing (s.enterFault r) :=
  postsNothing_of_frame rfl rfl fun o => absurd o elsewhere

theorem postsNothing_endRecovery : s.postsNothing s.endRecovery := by
  have idle := sameWrites_setEngine s s.engine.toIdle
  unfold State.endRecovery
  dsimp only
  split
  · exact ((idle.trans (sameWrites_raise ..)).postsNothing.trans
      (postsNothing_enterFault (by simpa using elsewhere) _)).trans (postsNothing_endStartUp _)
  · exact (idle.trans (sameWrites_requestWrite ..)).postsNothing

theorem postsNothing_finishWalk : s.postsNothing s.finishWalk := by
  unfold State.finishWalk
  split
  · exact postsNothing_endRecovery elsewhere
  · exact (sameWrites_setEngine ..).postsNothing

theorem postsNothing_stepWalk : s.postsNothing s.stepWalk := by
  unfold State.stepWalk
  split
  · exact postsNothing_finishWalk elsewhere
  · exact (sameWrites_setEngine ..).postsNothing

theorem postsNothing_skipRecord : s.postsNothing s.skipRecord :=
  ((sameWrites_raise s ..).trans (sameWrites_setEngine _ _)).postsNothing.trans
    (postsNothing_stepWalk (by simpa using elsewhere))

theorem postsNothing_endScan (n : Nat) : s.postsNothing (s.endScan n) := by
  have scanned := (sameWrites_setEngine s { s.engine with pass := .walk, scanEnd := some n }).postsNothing
  cases n with
  | zero => exact scanned.trans (postsNothing_finishWalk (by simpa using elsewhere))
  | succ k => exact scanned.trans (sameWrites_setEngine ..).postsNothing

theorem postsNothing_scanFrom (slot : Nat) : s.postsNothing (s.scanFrom slot) := by
  unfold State.scanFrom
  split
  · exact postsNothing_endScan elsewhere _
  · exact (sameWrites_setEngine ..).postsNothing

theorem postsNothing_stepScan (valid : Bool) : s.postsNothing (s.stepScan valid) := by
  unfold State.stepScan
  dsimp only
  (repeat' split)
  · exact postsNothing_scanFrom elsewhere _
  · exact postsNothing_endScan elsewhere _
  · exact postsNothing_scanFrom elsewhere _
  · exact (sameWrites_setEngine ..).postsNothing
  · exact postsNothing_endScan elsewhere _

theorem postsNothing_takeRecord (merr : List BadBeat) (ws : List MWord) : s.postsNothing (s.takeRecord merr ws) := by
  unfold State.takeRecord
  dsimp only
  split
  · exact postsNothing_stepScan elsewhere _
  · split
    · exact (sameWrites_setEngine ..).postsNothing
    · exact postsNothing_skipRecord elsewhere

/-! ### Outside OPEN: the start-up reads -/

theorem postsNothing_selectNone (ja jb : Judgement) : s.postsNothing (s.selectNone ja jb) := by
  unfold State.selectNone
  split
  · exact (postsNothing_setCtl fun o => absurd o elsewhere).trans (postsNothing_endStartUp _)
  · split
    · exact (postsNothing_enterFault elsewhere _).trans (postsNothing_endStartUp _)
    · exact (postsNothing_enterFault elsewhere _).trans (postsNothing_endStartUp _)

theorem postsNothing_beginRecovery (broken : Bool) : s.postsNothing (s.beginRecovery broken) := by
  have counted := sameWrites_setEngine s { s.engine with restored := 0, damaged := 0 }
  unfold State.beginRecovery
  dsimp only
  split
  · exact (counted.trans (sameWrites_raise ..)).postsNothing.trans
      (postsNothing_endRecovery (by simpa using elsewhere))
  · exact (counted.trans (sameWrites_setEngine ..)).postsNothing.trans
      (postsNothing_scanFrom (by simpa using elsewhere) _)

omit elsewhere in
theorem sameWrites_noteDamagedSlot (s : State) (other : Slot) (j : Judgement) (e : BitVec 48) :
    s.sameWrites (s.noteDamagedSlot other j e) := by
  unfold State.noteDamagedSlot
  split
  · exact sameWrites_raise ..
  · exact .refl s

/-- A header selected takes the device to RECOVERING (R118). -/
theorem postsNothing_selectHeader (slot : Slot) (h : HeaderRecord) : s.postsNothing (s.selectHeader slot h) :=
  postsNothing_of_frame rfl rfl fun o => absurd o elsewhere

theorem postsNothing_select (slot : Slot) (h : HeaderRecord) (other : Judgement) :
    s.postsNothing (s.select slot h other) := by
  have noted := sameWrites_noteDamagedSlot s slot.other other h.epoch
  exact (noted.postsNothing.trans (postsNothing_selectHeader (by rwa [noted.state]) slot h)).trans
    (postsNothing_beginRecovery (by simp [State.selectHeader]) _)

theorem postsNothing_selectSlot (b : HeaderRecord) : s.postsNothing (s.selectSlot b) := by
  unfold State.selectSlot
  dsimp only
  split
  · exact postsNothing_select elsewhere ..
  · exact postsNothing_select elsewhere ..
  · exact postsNothing_selectNone elsewhere ..

theorem postsNothing_takeHeader (slot : Slot) (merr : List BadBeat) (ws : List MWord) :
    s.postsNothing (s.takeHeader slot merr ws) := by
  unfold State.takeHeader
  dsimp only
  split
  · exact (sameWrites_setHeader ..).postsNothing
  · cases slot with
    | a => exact ((sameWrites_setHeader s _).trans (sameWrites_setHeader _ _)).postsNothing
    | b => exact (sameWrites_setHeader s _).postsNothing.trans (postsNothing_selectSlot (by simpa using elsewhere) _)

/-! ### Parking and starting up -/

theorem postsNothing_sampleStrap : s.postsNothing s.sampleStrap := by
  unfold State.sampleStrap
  split
  · exact (postsNothing_enterFault elsewhere _).trans (postsNothing_endStartUp _)
  · exact ((sameWrites_setDec s _).trans (sameWrites_setHeader _ _)).postsNothing

theorem postsNothing_startUp : s.postsNothing s.startUp :=
  (postsNothing_sampleStrap elsewhere).trans (sameWrites_arbitrate _).postsNothing

theorem postsNothing_noteParked : s.postsNothing s.noteParked :=
  (postsNothing_setCtl fun o => absurd o elsewhere).trans (sameWrites_raise ..).postsNothing

end Elsewhere

theorem parkHost_not_writeWaits (s : State) : ¬s.parkHost.writeWaits := by
  unfold State.parkHost
  split
  · exact not_writeWaits_of_noCycle rfl
  · rename_i h
    exact not_writeWaits_of_noBeat (by simpa using h)

theorem parkHost_queue (s : State) : s.parkHost.queue = s.queue := by
  unfold State.parkHost
  split <;> rfl

/-- PFW answers a write beat that waits, and leaves the draining entries alone in the queue (R71, R129). -/
theorem postsNothing_enterParking (s : State) : s.postsNothing s.enterParking := by
  refine postsNothing_of_noWait (List.Sublist.map _ ?_) (parkHost_not_writeWaits _)
  refine List.filter_sublist.trans ?_
  rw [parkHost_queue]
  exact List.Sublist.refl _

theorem enterParking_state (s : State) : s.enterParking.ctl.state = .parking := by
  have kept : ∀ u : State, u.parkHost.ctl = u.ctl := by
    intro u
    unfold State.parkHost
    split <;> rfl
  exact congrArg EpochController.state (kept _)

/-- A reset of every volatile item empties the queue and ends every cycle (R133, R134). -/
theorem postsNothing_of_reset {s t : State} (hq : t.queue = .reset) (hh : t.host = .reset) : s.postsNothing t :=
  postsNothing_of_noWait (by rw [State.posts, hq]; exact List.nil_sublist _)
    (not_writeWaits_of_noCycle (by rw [hh]; rfl))

theorem postsNothing_parkAtStart {s : State} (elsewhere : s.ctl.state ≠ .opened) (order : StartOrder) :
    s.postsNothing (s.parkAtStart order) := by
  have parks : ∀ u : State, u.postsNothing u.enterParking.noteParked := fun u =>
    (postsNothing_enterParking u).trans (postsNothing_noteParked (by simp [enterParking_state]))
  cases order with
  | strapFirst => exact (postsNothing_sampleStrap elsewhere).trans (parks _)
  | pfwFirst => exact parks s

theorem postsNothing_beginRestart (s : State) (again : Option StartOrder) : s.postsNothing (s.beginRestart again) := by
  have starting : s.volatileReset.ctl.state ≠ .opened := by simp [State.volatileReset, EpochController.reset]
  have reset : s.postsNothing s.volatileReset := postsNothing_of_reset rfl rfl
  cases again with
  | none => exact reset.trans (postsNothing_startUp starting)
  | some order =>
    exact (reset.trans (sameWrites_setPins ..).postsNothing).trans
      (postsNothing_parkAtStart (by simpa using starting) order)

theorem postsNothing_enterParked {s : State} (elsewhere : s.ctl.state ≠ .opened) : s.postsNothing s.enterParked := by
  have noted := postsNothing_noteParked elsewhere
  unfold State.enterParked
  split
  · exact noted
  · exact noted.trans (postsNothing_beginRestart _ _)

/-! ### Captures' completions -/

theorem sameWrites_noteFailure (s : State) (merr : List BadBeat) : s.sameWrites (s.noteFailure merr) := by
  unfold State.noteFailure
  split
  · exact .refl s
  · exact sameWrites_raise ..

theorem sameWrites_takePreImage (s : State) (merr : List BadBeat) (image : List MWord) :
    s.sameWrites (s.takePreImage merr image) := by
  have noted := sameWrites_noteFailure s merr
  unfold State.takePreImage
  (repeat' split)
  · exact noted.trans (sameWrites_setCapture ..)
  · exact noted.trans (sameWrites_endStopped _)
  · exact sameWrites_setCapture ..
  · exact ((noted.trans (sameWrites_releaseInFlight _)).trans (sameWrites_enterBreaking _)).trans
      (sameWrites_waitForMark _ _)

theorem sameWrites_completeCapture (s : State) : s.sameWrites s.completeCapture := by
  have logged : ∀ c t, s.sameWrites ((s.setCapture c).setTable t).watermarkTest := fun c t =>
    ((sameWrites_setCapture s c).trans (sameWrites_setTable _ t)).trans (sameWrites_watermarkTest _)
  unfold State.completeCapture
  dsimp only
  split
  · exact logged _ _
  · exact (logged _ _).trans (sameWrites_mapGates _ _)

/-! ### What ends an event -/

theorem postsNothing_commitTest (s : State) : s.postsNothing s.commitTest := by
  refine postsNothing_of_frame (by simp) (by simp) fun o => ?_
  rw [commitTest_elsewhere (by simp [o]), o]

theorem postsNothing_rollbackTest (s : State) : s.postsNothing s.rollbackTest := by
  refine postsNothing_of_frame (by simp) (by simp) fun o => ?_
  rw [rollbackTest_elsewhere (by simp [o]), o]

/-- What an event of `s` may do with host writes: none waits outside OPEN after it, and from another state than OPEN
none is posted and none waits (R146). -/
structure State.postsInOpen (s t : State) : Prop where
  held : t.writeWaits → t.ctl.state = .opened
  posts : s.ctl.state ≠ .opened → t.posts.Sublist s.posts
  noWait : s.ctl.state ≠ .opened → ¬t.writeWaits

section Offers

variable {s u t : State}

theorem State.postsInOpen.refl (h : s.heldWriteInOpen) : s.postsInOpen s :=
  ⟨heldWriteInOpen_iff.1 h, fun _ => List.Sublist.refl _, mt (heldWriteInOpen_iff.1 h)⟩

theorem State.postsInOpen.andThen (h : s.postsInOpen u) (k : u.postsNothing t) : s.postsInOpen t :=
  ⟨fun w => k.opened w (h.held (k.waited w)), fun e => k.posts.trans (h.posts e),
    fun e w => h.noWait e (k.waited w)⟩

/-- In OPEN anything may be posted. -/
theorem postsInOpen_of_opened (hs : s.ctl.state = .opened) (ht : t.ctl.state = .opened) : s.postsInOpen t :=
  ⟨fun _ => ht, fun e => absurd hs e, fun e => absurd hs e⟩

/-- A held write beat is offered again in OPEN alone, and its offer leaves the device there (R62, R146). -/
theorem reoffer_cases (before u : State) :
    State.reoffer before u = u
      ∨ (u.ctl.state = .opened ∧ u.writeWaits ∧ (State.reoffer before u).ctl.state = .opened) := by
  unfold State.reoffer
  split
  · rename_i c p b hc hp hb
    split
    · rename_i due
      obtain ⟨opened, write, -⟩ := due
      exact .inr ⟨opened, ⟨c, by simp [hc], write, by simp [hb]⟩, (offerWrite_state ..).trans opened⟩
    · exact .inl rfl
  · exact .inl rfl

theorem State.postsInOpen.reoffer (h : s.postsInOpen u) (before : State) : s.postsInOpen (State.reoffer before u) := by
  rcases reoffer_cases before u with same | ⟨-, waits, stays⟩
  · rwa [same]
  · have opened : s.ctl.state = .opened := by
      by_contra elsewhere
      exact h.noWait elsewhere waits
    exact postsInOpen_of_opened opened stays

/-- The tests and the grant that end an event post what they post in OPEN (R146). -/
theorem State.postsInOpen.settle (h : s.postsInOpen u) (before : State) : s.postsInOpen (State.settle before u) := by
  have offered := (h.reoffer before).andThen (postsNothing_releaseRead _)
  have tested := ((offered.andThen (sameWrites_takeCapture _).postsNothing).andThen
    (postsNothing_commitTest _)).andThen (postsNothing_rollbackTest _)
  have granted := (tested.andThen (sameWrites_arbitrate _).postsNothing).reoffer
    (((State.reoffer before u).releaseRead).takeCapture).commitTest.rollbackTest
  exact granted.andThen (sameWrites_takeCapture _).postsNothing

theorem State.postsInOpen.afterCompletion (h : s.postsInOpen u) (before : State) :
    s.postsInOpen (State.afterCompletion before u) := by
  unfold State.afterCompletion
  split
  · rename_i parking
    exact h.andThen (postsNothing_enterParked (by simp [parking]))
  · exact h.settle before

end Offers
end Sys2Proof.Machine
end

section
/-! The statement that host writes are posted in OPEN alone (R146): every command, and the step. -/

namespace Sys2Proof.Machine

section Commands

variable {s t : State}

/-! ### What a lawful state says of a command's event -/

/-- The waiting commands take no part in the laws of a state. -/
theorem setPending_lawful (h : s.Lawful) (rest : List Instr) : (s.setPending rest).Lawful := by
  obtain ⟨inReset, others⟩ := h.consistent
  refine { h with consistent := ⟨fun low => ?_, others⟩ }
  exact congrArg (State.setPending · rest) (inReset low)

theorem starting_of_resetLow (h : s.Lawful) (low : s.pins.resetLow = true) : s.ctl.state = .starting := by
  obtain ⟨inReset, -⟩ := h.consistent
  rw [inReset low]
  rfl

/-- The rollback engine does not work in OPEN (R98). -/
theorem engine_elsewhere (h : s.Lawful) (works : s.engine.phase ≠ .idle) : s.ctl.state ≠ .opened := by
  obtain ⟨-, -, -, engine, -⟩ := h.consistent
  intro opened
  simpa [opened, DeviceState.stopped] using engine works

theorem recordRead_elsewhere (h : s.Lawful) (waits : s.ownerWaits .recordRead = true) : s.ctl.state ≠ .opened :=
  engine_elsewhere h fun idle => by simp [State.ownerWaits, idle] at waits

theorem restoreWrite_elsewhere (h : s.Lawful) (waits : s.ownerWaits .restoreWrite = true) : s.ctl.state ≠ .opened :=
  engine_elsewhere h fun idle => by simp [State.ownerWaits, idle] at waits

/-- Nor is a header slot read in OPEN (R115). -/
theorem headerRead_elsewhere (h : s.Lawful) (waits : s.ownerWaits .headerRead = true) : s.ctl.state ≠ .opened := by
  obtain ⟨-, read, -⟩ := h.consistent
  have reads : s.header.readRequest.isSome := by
    cases hr : s.header.readRequest with
    | none => simp [State.ownerWaits, hr] at waits
    | some r => rfl
  intro opened
  simpa [opened, DeviceState.stopped] using read reads

/-- A command that names an operation's event leaves the device as it is, or has its effect. -/
theorem postsInOpen_onOperation {k : OpKind} {effect : MemOp → State} (hs : s.postsInOpen s)
    (h : s.onOperation k effect = .next t) (he : ∀ o, s.ownerWaits k = true → s.postsInOpen (effect o)) :
    s.postsInOpen t := by
  unfold State.onOperation at h
  split at h
  · cases h
    exact hs
  · cases h
  · rename_i o underway
    obtain ⟨-, -, waits, -⟩ := completing_underway.1 underway
    cases h
    exact he o waits

theorem postsInOpen_onHeaderWrite {mine : WriteKind → Bool} {effect : State → WriteRequest → State}
    (hs : s.postsInOpen s) (h : s.onHeaderWrite mine effect = .next t)
    (he : ∀ (u : State) (w : WriteRequest), u.postsNothing (effect u w)) : s.postsInOpen t := by
  refine postsInOpen_onOperation hs h fun o _ => ?_
  split
  · split
    · exact ((hs.andThen (sameWrites_finishOp s o).postsNothing).andThen (he _ _)).afterCompletion s
    · exact hs
  · exact hs

/-! ### Reset and power -/

theorem postsNothing_cutOff {tear : List Lanes} (h : s.cutOff tear = .next t) : s.postsNothing t := by
  unfold State.cutOff at h
  split at h
  · cases h
    exact postsNothing_of_reset rfl rfl
  · cases h

theorem postsNothing_resetnRelease (hl : s.Lawful) (sample : ReleaseSample)
    (h : execResetnRelease sample s = .next t) : s.postsNothing t := by
  cases h
  split
  · rename_i low
    have starting : s.ctl.state ≠ .opened := by simp [starting_of_resetLow hl low]
    have sampled := (sameWrites_setPins s { s.pins with resetLow := false, msz := sample.msz }).postsNothing
    split
    · exact sampled.trans (postsNothing_parkAtStart (by simpa using starting) _)
    · exact sampled.trans (postsNothing_startUp (by simpa using starting))
  · exact .refl s

theorem postsNothing_pfwTaken (h : execPfwTaken s = .next t) : s.postsNothing t := by
  cases h
  have seen := (sameWrites_setPins s { s.pins with pfw := true }).postsNothing
  have parks := seen.trans (postsNothing_enterParking _)
  split
  · exact seen
  · split
    · exact seen.trans (postsNothing_setCtl id)
    · split
      · exact parks
      · exact parks.trans (postsNothing_noteParked (by simp [enterParking_state]))

theorem postsNothing_restart (sample : RestartSample) (h : execRestart sample s = .next t) : s.postsNothing t := by
  cases h
  have seen := (sameWrites_setPins s { s.pins with pfw := false, msz := sample.msz }).postsNothing
  split
  · exact seen
  · split
    · exact seen.trans (postsNothing_beginRestart _ _)
    · split
      · exact seen.trans (postsNothing_setCtl id)
      · exact seen

/-! ### The host bus -/

theorem truncate_state (s : State) : s.truncate.ctl.state = s.ctl.state := by
  unfold State.truncate
  split <;> rfl

/-- A write first beat is decoded in OPEN alone (R142). -/
theorem opened_of_decodesWrite {hlen : BitVec 3} (h : s.earlyResponse true hlen = none) : s.ctl.state = .opened := by
  unfold State.earlyResponse at h
  cases hd : s.ctl.state <;> simp [hd, responseByState] at h ⊢

theorem postsInOpen_hostWriteFirstBeat (hs : s.postsInOpen s) (word : BitVec 24) (hlen : BitVec 3) (lanes : Lanes)
    (data : MWord) (h : execHostWriteFirstBeat word hlen lanes data s = .next t) : s.postsInOpen t := by
  cases h
  split
  · refine State.postsInOpen.settle ?_ s
    split
    · exact (hs.andThen (postsNothing_truncate s)).andThen (postsNothing_closeBeat ..)
    · rename_i decoded
      have opened := opened_of_decodesWrite decoded
      exact postsInOpen_of_opened (by rwa [← truncate_state]) ((decodeWrite_state ..).trans opened)
  · exact hs

theorem postsInOpen_hostWriteLaterBeat (hs : s.postsInOpen s) (lanes : Lanes) (data : MWord)
    (h : execHostWriteLaterBeat lanes data s = .next t) : s.postsInOpen t := by
  cases h
  split
  · refine State.postsInOpen.settle ?_ s
    unfold State.laterWrite
    split
    · rename_i goesOn
      exact postsInOpen_of_opened goesOn.1 ((offerWrite_state ..).trans goesOn.1)
    · exact hs.andThen (postsNothing_closeBeat ..)
  · exact hs

theorem postsNothing_decodeRead (s : State) (word length : Nat) (lanes : Lanes) :
    s.postsNothing (s.decodeRead word length lanes) := by
  have begun : ∀ c p, s.postsNothing (s.beginCycle c p) := fun c p =>
    postsNothing_of_noWait (List.Sublist.refl _) (not_writeWaits_of_noBeat rfl)
  unfold State.decodeRead
  dsimp only
  split
  · exact postsNothing_closeBeat ..
  · split
    · exact postsNothing_closeBeat ..
    · refine (begun _ _).trans (postsNothing_serveRead ?_ _ _)
      rintro c ⟨⟩
      rfl

theorem postsInOpen_hostReadFirstBeat (hs : s.postsInOpen s) (word : BitVec 24) (hlen : BitVec 3) (lanes : Lanes)
    (h : execHostReadFirstBeat word hlen lanes s = .next t) : s.postsInOpen t := by
  cases h
  have truncated := hs.andThen (postsNothing_truncate s)
  split
  · refine State.postsInOpen.settle ?_ s
    split
    · exact truncated.andThen (postsNothing_closeBeat ..)
    · exact truncated.andThen (postsNothing_decodeRead ..)
  · exact hs

theorem laterBeat_cycle {write : Bool} {c : Cycle} {p : Portion} (h : s.laterBeat write = some (c, p)) :
    ∀ d ∈ s.host.cycle, d.write = write := by
  unfold State.laterBeat at h
  split at h
  · rename_i c' p' hc _ _
    split at h
    · rename_i presents
      rw [hc]
      rintro d ⟨⟩
      simp at presents
      exact presents.2
    · cases h
  · cases h

theorem postsInOpen_hostReadLaterBeat (hs : s.postsInOpen s) (lanes : Lanes)
    (h : execHostReadLaterBeat lanes s = .next t) : s.postsInOpen t := by
  cases h
  split
  · rename_i presented
    refine State.postsInOpen.settle ?_ s
    split
    · exact hs.andThen (postsNothing_serveRead (laterBeat_cycle presented) _ _)
    · exact hs.andThen (postsNothing_closeBeat ..)
  · exact hs

theorem postsNothing_placeWord (s : State) (word : Nat) (data : MWord) (merr : Bool) :
    s.postsNothing (s.placeWord word data merr) := by
  unfold State.placeWord
  split
  · split
    · exact .refl s
    · exact State.sameWrites.postsNothing ⟨rfl, rfl, rfl, rfl⟩
  · exact .refl s

theorem postsNothing_answerArrived (s : State) (word : Nat) (data : MWord) (merr : Bool) :
    s.postsNothing (s.answerArrived word data merr) := by
  unfold State.answerArrived
  split
  · split
    · exact postsNothing_answerWord ..
    · exact .refl s
  · exact .refl s

theorem postsInOpen_hostReadWordArrival (hs : s.postsInOpen s) (merr : Option MWord)
    (h : execHostReadWordArrival merr s = .next t) : s.postsInOpen t := by
  refine postsInOpen_onOperation hs h fun o _ => ?_
  split
  · exact State.postsInOpen.settle (((hs.andThen (sameWrites_setPort s _).postsNothing).andThen
      (postsNothing_placeWord ..)).andThen (postsNothing_answerArrived ..)) s
  · exact hs

theorem postsNothing_requestWaiting (s : State) : s.postsNothing s.requestWaiting := by
  unfold State.requestWaiting
  split
  · rename_i c b hc hb
    split
    · rename_i waits
      exact postsNothing_requestRead (by simp [hc, waits.1]) c b
    · exact .refl s
  · exact .refl s

theorem postsInOpen_hostReadComplete (hs : s.postsInOpen s) (h : execHostReadComplete s = .next t) :
    s.postsInOpen t := by
  refine postsInOpen_onOperation hs h fun o _ => ?_
  split
  · have ended : s.sameWrites ((s.finishOp o).setHost { (s.finishOp o).host with read := none }) :=
      ⟨rfl, rfl, rfl, rfl⟩
    refine State.postsInOpen.afterCompletion ?_ s
    dsimp only
    split
    · exact hs.andThen ended.postsNothing
    · exact (hs.andThen ended.postsNothing).andThen (postsNothing_requestWaiting _)
  · exact hs

/-! ### The epoch control port -/

theorem postsInOpen_requestEdge (hs : s.postsInOpen s) (op : Operation) : s.postsInOpen (s.requestEdge op) := by
  have seen : s.sameWrites (s.edge op) := ⟨rfl, rfl, rfl, rfl⟩
  unfold State.requestEdge
  dsimp only
  split
  · exact hs.andThen (sameWrites_setPins ..).postsNothing
  · have taken := (hs.andThen seen.postsNothing).andThen (postsNothing_risingEdge (s.edge op) op)
    exact taken.settle s

theorem postsNothing_answerAck (ereq : Bool) (h : execAnswerAck ereq s = .next t) : s.postsNothing t := by
  cases h
  split
  · rename_i a _
    have acknowledged : (s.ctl.acknowledge a).state = s.ctl.state := rfl
    split
    · exact (sameWrites_setCtl acknowledged).postsNothing
    · exact (sameWrites_ereqLow s).postsNothing
  · exact .refl s

theorem postsNothing_ereqFall (h : execEreqFall s = .next t) : s.postsNothing t := by
  cases h
  split
  · exact (sameWrites_setPins ..).postsNothing
  · exact (sameWrites_ereqLow s).postsNothing

/-! ### Completions -/

/-- The held write beat that a drain write's completion lets in goes in in OPEN (R62, R67). -/
theorem postsInOpen_drainWriteComplete (hs : s.postsInOpen s) (h : execDrainWriteComplete s = .next t) :
    s.postsInOpen t := by
  refine postsInOpen_onOperation hs h fun o _ => State.postsInOpen.afterCompletion ?_ s
  have left := (hs.andThen (sameWrites_finishOp s o).postsNothing).andThen
    (postsNothing_keepEntries _ fun e => !e.draining)
  exact (left.reoffer s).andThen (postsNothing_flushTest _)

theorem postsInOpen_preImageReadComplete (hs : s.postsInOpen s) (merr : List BadBeat)
    (h : execPreImageReadComplete merr s = .next t) : s.postsInOpen t :=
  postsInOpen_onOperation hs h fun o _ => State.postsInOpen.afterCompletion
    (hs.andThen ((sameWrites_finishOp s o).trans (sameWrites_takePreImage ..)).postsNothing) s

theorem postsInOpen_recordWriteComplete (hs : s.postsInOpen s) (h : execRecordWriteComplete s = .next t) :
    s.postsInOpen t :=
  postsInOpen_onOperation hs h fun o _ => State.postsInOpen.afterCompletion
    (hs.andThen ((sameWrites_finishOp s o).trans (sameWrites_completeCapture _)).postsNothing) s

theorem postsInOpen_recordReadComplete (hl : s.Lawful) (hs : s.postsInOpen s) (merr : List BadBeat)
    (h : execRecordReadComplete merr s = .next t) : s.postsInOpen t := by
  refine postsInOpen_onOperation hs h fun o reads => State.postsInOpen.afterCompletion ?_ s
  have elsewhere : (s.finishOp o).ctl.state ≠ .opened := by simpa using recordRead_elsewhere hl reads
  have ended := hs.andThen (sameWrites_finishOp s o).postsNothing
  split
  · exact ended.andThen (sameWrites_setEngine ..).postsNothing
  · exact ended.andThen (postsNothing_takeRecord elsewhere _ _)

theorem postsInOpen_restoreWriteComplete (hl : s.Lawful) (hs : s.postsInOpen s)
    (h : execRestoreWriteComplete s = .next t) : s.postsInOpen t := by
  refine postsInOpen_onOperation hs h fun o writes => State.postsInOpen.afterCompletion ?_ s
  have counted : ∀ e, s.postsInOpen ((s.finishOp o).setEngine e) := fun e =>
    hs.andThen ((sameWrites_finishOp s o).trans (sameWrites_setEngine _ e)).postsNothing
  have elsewhere : ∀ e, ((s.finishOp o).setEngine e).ctl.state ≠ .opened := fun e => by
    simpa using restoreWrite_elsewhere hl writes
  dsimp only
  split
  · exact (counted _).andThen (sameWrites_setEngine ..).postsNothing
  · exact (counted _).andThen (postsNothing_stepWalk (elsewhere _))

theorem postsInOpen_headerReadComplete (hl : s.Lawful) (hs : s.postsInOpen s) (merr : List BadBeat)
    (h : execHeaderReadComplete merr s = .next t) : s.postsInOpen t := by
  refine postsInOpen_onOperation hs h fun o reads => State.postsInOpen.afterCompletion ?_ s
  have elsewhere : (s.finishOp o).ctl.state ≠ .opened := by simpa using headerRead_elsewhere hl reads
  exact (hs.andThen (sameWrites_finishOp s o).postsNothing).andThen (postsNothing_takeHeader elsewhere _ _ _)

/-! ### The management link -/

theorem postsNothing_onLink {i : Instr} {effect : List Byte → State} (h : s.onLink i effect = .next t)
    (he : ∀ sent, s.postsNothing (effect sent)) : s.postsNothing t := by
  cases h
  split
  · split
    · exact he _
    · exact .refl s
  · exact .refl s

theorem sameWrites_respond (s : State) (sent : List Byte) (result : Byte) (data : List Byte) :
    s.sameWrites (s.respond sent result data) := sameWrites_setLink ..

theorem postsNothing_getStatus (h : execGetStatus s = .next t) : s.postsNothing t :=
  postsNothing_onLink h fun _ => (sameWrites_respond ..).postsNothing

theorem postsNothing_getStaged (h : execGetStaged s = .next t) : s.postsNothing t :=
  postsNothing_onLink h fun _ => (sameWrites_respond ..).postsNothing

theorem postsNothing_unknownCommand (code : Byte) (h : execUnknownCommand code s = .next t) : s.postsNothing t :=
  postsNothing_onLink h fun _ => (sameWrites_respond ..).postsNothing

theorem postsNothing_popEvent (h : execPopEvent s = .next t) : s.postsNothing t := by
  refine postsNothing_onLink h fun sent => State.sameWrites.postsNothing ?_
  split
  · exact (sameWrites_respond ..).trans (sameWrites_setLink ..)
  · exact (sameWrites_respond ..).trans (sameWrites_setEvents ..)

theorem postsNothing_popEventRemoval (h : execPopEventRemoval s = .next t) : s.postsNothing t := by
  cases h
  refine State.sameWrites.postsNothing ?_
  split
  · dsimp only
    split
    · exact (sameWrites_setLink ..).trans (sameWrites_setEvents ..)
    · exact sameWrites_setLink ..
  · exact .refl s

theorem postsNothing_getActive (h : execGetActive s = .next t) : s.postsNothing t := by
  refine postsNothing_onLink h fun sent => State.sameWrites.postsNothing ?_
  split <;> exact sameWrites_respond ..

theorem postsNothing_stageRegion (index present cls : Byte) (base length : BitVec 16)
    (h : execStageRegion index present cls base length s = .next t) : s.postsNothing t := by
  refine postsNothing_onLink h fun sent => State.sameWrites.postsNothing ?_
  split
  · exact sameWrites_respond ..
  · split
    · exact sameWrites_respond ..
    · exact (sameWrites_respond ..).trans (sameWrites_setLink ..)

theorem postsNothing_stageLog (capacity : BitVec 16) (policy watermark : Byte)
    (h : execStageLog capacity policy watermark s = .next t) : s.postsNothing t := by
  refine postsNothing_onLink h fun sent => State.sameWrites.postsNothing ?_
  split
  · exact sameWrites_respond ..
  · exact (sameWrites_respond ..).trans (sameWrites_setLink ..)

theorem postsNothing_apply (h : execApply s = .next t) : s.postsNothing t := by
  refine postsNothing_onLink h fun sent => State.sameWrites.postsNothing ?_
  split
  · exact sameWrites_respond ..
  · split
    · exact sameWrites_respond ..
    · exact (sameWrites_respond ..).trans (sameWrites_setHeader ..)

theorem postsNothing_unstage (h : execUnstage s = .next t) : s.postsNothing t := by
  refine postsNothing_onLink h fun sent => State.sameWrites.postsNothing ?_
  split
  · exact sameWrites_respond ..
  · exact ((sameWrites_respond ..).trans (sameWrites_setLink ..)).trans (sameWrites_setHeader ..)

/-- FORMAT leaves UNFORMATTED or FAULT, never OPEN (R169). -/
theorem postsNothing_format (number : BitVec 32) (h : execFormat number s = .next t) : s.postsNothing t := by
  refine postsNothing_onLink h fun sent => ?_
  split
  · exact (sameWrites_respond ..).postsNothing
  · rename_i allowed
    have elsewhere : s.ctl.state ≠ .opened := by
      intro opened
      simp [State.formatAllowed, opened] at allowed
    split
    · exact (sameWrites_respond ..).postsNothing
    · split
      · exact (sameWrites_respond ..).postsNothing
      · exact (((sameWrites_respond ..).postsNothing.trans (postsNothing_setCtl fun o => absurd o elsewhere)).trans
          (sameWrites_requestWrite ..).postsNothing).trans (sameWrites_arbitrate _).postsNothing

theorem postsNothing_frameStart (h : execFrameStart s = .next t) : s.postsNothing t := by
  cases h
  refine State.sameWrites.postsNothing ?_
  split
  · exact .refl s
  · dsimp only
    split
    · exact sameWrites_setPins ..
    · exact (sameWrites_setPins ..).trans (sameWrites_setLink ..)

theorem postsNothing_frameEnd (h : execFrameEnd s = .next t) : s.postsNothing t := by
  cases h
  refine State.sameWrites.postsNothing ?_
  split
  · exact sameWrites_setPins ..
  · exact (sameWrites_setPins ..).trans (sameWrites_setLink ..)

/-! ### Every command -/

/-- A command's event lets no write wait outside OPEN, and posts none from another state (R146). -/
theorem exec_postsInOpen {i : Instr} (hl : s.Lawful) (h : exec i s = .next t) : s.postsInOpen t := by
  have hs : s.postsInOpen s := .refl hl.heldWrite
  cases i with
  | resetnAssert tear => exact hs.andThen (postsNothing_cutOff h)
  | resetnRelease sample => exact hs.andThen (postsNothing_resetnRelease hl sample h)
  | supplyCollapse tear => exact hs.andThen (postsNothing_cutOff h)
  | pfwTaken => exact hs.andThen (postsNothing_pfwTaken h)
  | restart sample => exact hs.andThen (postsNothing_restart sample h)
  | hostWriteFirstBeat word hlen lanes data => exact postsInOpen_hostWriteFirstBeat hs word hlen lanes data h
  | hostWriteLaterBeat lanes data => exact postsInOpen_hostWriteLaterBeat hs lanes data h
  | hostReadFirstBeat word hlen lanes => exact postsInOpen_hostReadFirstBeat hs word hlen lanes h
  | hostReadLaterBeat lanes => exact postsInOpen_hostReadLaterBeat hs lanes h
  | hostReadWordArrival merr => exact postsInOpen_hostReadWordArrival hs merr h
  | hostReadComplete => exact postsInOpen_hostReadComplete hs h
  | commit => cases h; exact postsInOpen_requestEdge hs .commit
  | rollback => cases h; exact postsInOpen_requestEdge hs .rollback
  | flush => cases h; exact postsInOpen_requestEdge hs .flush
  | illegalOperation => cases h; exact postsInOpen_requestEdge hs .illegal
  | answerAck ereq => exact hs.andThen (postsNothing_answerAck ereq h)
  | ereqFall => exact hs.andThen (postsNothing_ereqFall h)
  | drainWriteComplete => exact postsInOpen_drainWriteComplete hs h
  | preImageReadComplete merr => exact postsInOpen_preImageReadComplete hs merr h
  | recordWriteComplete => exact postsInOpen_recordWriteComplete hs h
  | markWriteComplete =>
    have completes : execMarkWriteComplete s = .next t := h
    exact postsInOpen_onHeaderWrite hs completes fun u w => (sameWrites_takeMark u w).postsNothing
  | sealComplete =>
    have completes : execSealComplete s = .next t := h
    exact postsInOpen_onHeaderWrite hs completes postsNothing_takeSeal
  | recordReadComplete merr => exact postsInOpen_recordReadComplete hl hs merr h
  | restoreWriteComplete => exact postsInOpen_restoreWriteComplete hl hs h
  | headerReadComplete merr => exact postsInOpen_headerReadComplete hl hs merr h
  | recoverySealComplete =>
    have completes : execRecoverySealComplete s = .next t := h
    exact postsInOpen_onHeaderWrite hs completes postsNothing_takeRecoverySeal
  | getStatus => exact hs.andThen (postsNothing_getStatus h)
  | popEvent => exact hs.andThen (postsNothing_popEvent h)
  | popEventRemoval => exact hs.andThen (postsNothing_popEventRemoval h)
  | getActive => exact hs.andThen (postsNothing_getActive h)
  | getStaged => exact hs.andThen (postsNothing_getStaged h)
  | stageRegion index present cls base length =>
    exact hs.andThen (postsNothing_stageRegion index present cls base length h)
  | stageLog capacity policy watermark => exact hs.andThen (postsNothing_stageLog capacity policy watermark h)
  | apply => exact hs.andThen (postsNothing_apply h)
  | unstage => exact hs.andThen (postsNothing_unstage h)
  | format number => exact hs.andThen (postsNothing_format number h)
  | unknownCommand code => exact hs.andThen (postsNothing_unknownCommand code h)
  | frameEnd => exact hs.andThen (postsNothing_frameEnd h)
  | clearingWriteComplete =>
    have completes : execClearingWriteComplete s = .next t := h
    exact postsInOpen_onHeaderWrite hs completes fun u w => (sameWrites_takeClearing u w).postsNothing
  | formatWriteComplete =>
    have completes : execFormatWriteComplete s = .next t := h
    exact postsInOpen_onHeaderWrite hs completes postsNothing_takeFormat
  | frameStart => exact hs.andThen (postsNothing_frameStart h)

/-- So does a step: on an empty queue of commands it idles (log 4). -/
theorem step_postsInOpen (hl : s.Lawful) (h : step s = .next t) : s.postsInOpen t := by
  unfold step at h
  split at h
  · cases h
    exact .refl hl.heldWrite
  · rename_i rest _
    obtain ⟨held, posts, noWait⟩ := exec_postsInOpen (setPending_lawful hl rest) h
    exact ⟨held, posts, noWait⟩

end Commands

/-- Settles O11: a write beat enters the queue by an offer, and an offer is made in OPEN alone. -/
theorem stepPostsWritesOnlyInOpen : Obligations.StepPostsWritesOnlyInOpen := by
  intro s t hl h
  obtain ⟨held, posts, -⟩ := step_postsInOpen hl h
  exact ⟨heldWriteInOpen_iff.2 held, posts⟩

end Sys2Proof.Machine
end

section
/-! Three statements that fail: a lawful state of each, whose one waiting command ends outside what the statement keeps. The
states are lawful by evaluation, piece by piece. -/

namespace Sys2Proof.Machine.Refuted

set_option Elab.async false
set_option synthInstance.maxSize 4000

/-! ### The board the counterexamples stand on -/

/-- N 16, HOLD, watermark 8, no region: valid at 1 MiB. -/
def smallLog : Configuration := { Configuration.default with capacity := 16#16 }

/-- 1 MiB in OPEN, epoch 1, slot A selected, nothing in hand. -/
def openBoard : State :=
  { State.reset with
    pins := ⟨false, 0#3, false, false, 0#2, false⟩
    dec := ⟨some 1048576, some (geometryOf 1048576 16), some smallLog.regions⟩
    table := ⟨[], 0, some .intact, false⟩
    ctl := { EpochController.reset with state := .opened, epoch := some 1#48 }
    header := { HeaderUnit.reset with
      selected := some .a, generation := some 1#64, formatNumber := some 5#32, active := some smallLog } }

/-- The full queue: an OPEN entry of word 27 in a drain write, and seven OPEN entries behind it. -/
def fullQueue : PostingQueue :=
  ⟨⟨27, LaneData.full MWord.zero, .plain, .opened, 0#16, true⟩ ::
    [1, 2, 3, 4, 5, 6, 7].map (fun k =>
      ⟨100 * k, LaneData.full MWord.zero, .plain, .opened, BitVec.ofNat 16 k, false⟩), 8#16, none⟩

/-- The drain write of word 27. -/
def headDrain : MemOp := ⟨.drainWrite, 27, 1, [LaneData.full MWord.zero], 0⟩

/-- A write beat of a GUARDED portion held for the queue's room, in a cycle between whose beats OPEN has been left and
entered again. -/
def overtakenWrite (granule : Nat) (gate : Option Gate) (first : Bool) : HostPort :=
  { HostPort.reset with
    cycle := some ⟨true, 16 * granule + 1, 1, true⟩
    portion := some ⟨.guarded, some 0, granule⟩
    gate := gate
    beat := some ⟨15#4, LaneData.full MWord.zero, first, .queueFull⟩
    response := .wait }

/-- Such a beat behind the full queue, as the drain write completes. -/
def heldOvertaken (granule : Nat) (gate : Option Gate) (first : Bool) : State :=
  { openBoard with
    queue := fullQueue
    host := overtakenWrite granule gate first
    port := ⟨some headDrain, 27#24, 0⟩
    pending := [.drainWriteComplete] }

/-- A read beat that waits for the host read in progress to complete, its word among those still to come. -/
def waitsBehindOwnWord : State :=
  { openBoard with
    host := { HostPort.reset with
      cycle := some ⟨false, 40, 1, false⟩
      portion := some ⟨.plain, none, 2⟩
      beat := some ⟨15#4, LaneData.empty, true, .readPending⟩
      read := some ⟨40, 1, true, false⟩
      response := .wait }
    port := ⟨some ⟨.hostRead, 40, 1, [], 0⟩, 40#24, 0⟩
    pending := [.hostReadWordArrival none] }

theorem waitsBehindOwnWord_lawful : waitsBehindOwnWord.Lawful := by
  constructor <;> decide +kernel

/-- A later beat of a portion whose gate is TIED to an entry that has left. -/
theorem heldOvertaken_later_lawful : (heldOvertaken 20 (some (.tied 20)) false).Lawful := by
  constructor <;> decide +kernel

/-- A first beat of a granule that the reserved area holds. -/
theorem heldOvertaken_first_lawful : (heldOvertaken 16358 none true).Lawful := by
  constructor <;> decide +kernel

end Sys2Proof.Machine.Refuted

namespace Sys2Proof.Machine

open Refuted
set_option Elab.async false
set_option synthInstance.maxSize 4000

/-- Refutes O8: the word arrives in its place, and the beat waits on for a read to complete, which the host port's law has
wait for a word that has no place. -/
theorem not_stepKeepsBlocksConsistent : ¬ Obligations.StepKeepsBlocksConsistent := by
  intro h
  obtain ⟨t, step, fails⟩ : ∃ t, step waitsBehindOwnWord = .next t ∧ ¬t.hostHolds := ⟨_, rfl, by decide +kernel⟩
  obtain ⟨-, holds, -⟩ := h _ t waitsBehindOwnWord_lawful step
  exact fails holds

/-- Refutes O10: the held beat is posted with the gate its portion carries, TIED to an entry the table does not have. -/
theorem not_stepKeepsQueueAndPort : ¬ Obligations.StepKeepsQueueAndPort := by
  intro h
  obtain ⟨t, step, fails⟩ : ∃ t, step (heldOvertaken 20 (some (.tied 20)) false) = .next t ∧ ¬t.gatesAgree :=
    ⟨_, rfl, by decide +kernel⟩
  obtain ⟨-, -, -, agrees, -⟩ := h _ t heldOvertaken_later_lawful step
  exact fails agrees

/-- Refutes O14: the held beat goes through admission, and its granule, which lies in the reserved area, enters the table. -/
theorem not_stepKeepsUnitContents : ¬ Obligations.StepKeepsUnitContents := by
  intro h
  obtain ⟨t, step, fails⟩ : ∃ t, step (heldOvertaken 16358 none true) = .next t ∧ ¬t.captureHolds :=
    ⟨_, rfl, by decide +kernel⟩
  obtain ⟨holds, -⟩ := h _ t 0 0 heldOvertaken_first_lawful step
  exact fails holds

end Sys2Proof.Machine
end

section
/-! What every event keeps, block by block: the waiting commands and the memory stay, the collections stay within their
bounds, the granule table stays lawful, and what the queue holds or a write cycle may post stays lawful. One lemma per
shared operation; the memory itself changes by a completion and a cut-off alone. -/

namespace Sys2Proof.Machine

/-! ### The relation -/

/-- The queue's entries are lawful, and so is what the write cycle in hand may post (R57). -/
abbrev State.fit (s : State) : Prop := (∀ e ∈ s.queue.entries, e.lawful) ∧ s.cycleLawful

/-- `t` follows from `s` by a change that touches neither the memory nor the waiting commands and keeps each law of one
block. -/
structure State.keepsLaws (s t : State) : Prop where
  pending : t.pending = s.pending
  mem : t.mem = s.mem
  room : s.queue.entries.length ≤ 8 → t.queue.entries.length ≤ 8
  records : s.events.records.length ≤ 16 → t.events.records.length ≤ 16
  aging : s.port.aging ≤ 4 → t.port.aging ≤ 4
  table : s.table.lawful → t.table.lawful
  fit : s.fit → t.fit

section Relation

variable {s u t : State}

theorem State.keepsLaws.refl (s : State) : s.keepsLaws s := ⟨rfl, rfl, id, id, id, id, id⟩

theorem State.keepsLaws.trans (h : s.keepsLaws u) (k : u.keepsLaws t) : s.keepsLaws t :=
  ⟨k.pending.trans h.pending, k.mem.trans h.mem, k.room ∘ h.room, k.records ∘ h.records, k.aging ∘ h.aging,
    k.table ∘ h.table, k.fit ∘ h.fit⟩

/-- Blocks that none of these laws speaks of may change freely. -/
theorem keepsLaws_of_frame (hp : t.pending = s.pending) (hm : t.mem = s.mem) (hq : t.queue = s.queue)
    (he : t.events = s.events) (ho : t.port = s.port) (ht : t.table = s.table) (hh : t.host = s.host) : s.keepsLaws t := by
  refine ⟨hp, hm, ?_, ?_, ?_, ?_, ?_⟩
  · rw [hq]; exact id
  · rw [he]; exact id
  · rw [ho]; exact id
  · rw [ht]; exact id
  · unfold State.fit State.cycleLawful
    rw [hq, hh]; exact id

/-- No cycle, nothing to post. -/
theorem cycleLawful_of_noCycle (h : s.host.cycle = none) : s.cycleLawful := by
  intro c hc
  simp [h] at hc

/-- A read cycle posts nothing. -/
theorem cycleLawful_of_read (h : ∀ c ∈ s.host.cycle, c.write = false) : s.cycleLawful := by
  intro c hc hw
  simp [h c hc] at hw

end Relation

/-! ### Setters -/

section Setters

variable (s : State)

theorem keepsLaws_setPins (x : Pins) : s.keepsLaws (s.setPins x) := keepsLaws_of_frame rfl rfl rfl rfl rfl rfl rfl
theorem keepsLaws_setDec (x : RegionDecoder) : s.keepsLaws (s.setDec x) := keepsLaws_of_frame rfl rfl rfl rfl rfl rfl rfl
theorem keepsLaws_setCapture (x : CaptureUnit) : s.keepsLaws (s.setCapture x) :=
  keepsLaws_of_frame rfl rfl rfl rfl rfl rfl rfl
theorem keepsLaws_setCtl (x : EpochController) : s.keepsLaws (s.setCtl x) := keepsLaws_of_frame rfl rfl rfl rfl rfl rfl rfl
theorem keepsLaws_setEngine (x : RollbackEngine) : s.keepsLaws (s.setEngine x) :=
  keepsLaws_of_frame rfl rfl rfl rfl rfl rfl rfl
theorem keepsLaws_setHeader (x : HeaderUnit) : s.keepsLaws (s.setHeader x) := keepsLaws_of_frame rfl rfl rfl rfl rfl rfl rfl
theorem keepsLaws_setLink (x : ManagementLink) : s.keepsLaws (s.setLink x) := keepsLaws_of_frame rfl rfl rfl rfl rfl rfl rfl
theorem keepsLaws_setAlarms (x : Alarms) : s.keepsLaws (s.setAlarms x) := keepsLaws_of_frame rfl rfl rfl rfl rfl rfl rfl

variable {s}

theorem keepsLaws_setEvents {x : EventQueue} (h : s.events.records.length ≤ 16 → x.records.length ≤ 16) :
    s.keepsLaws (s.setEvents x) := ⟨rfl, rfl, id, h, id, id, id⟩

theorem keepsLaws_setPort {x : MemoryPort} (h : s.port.aging ≤ 4 → x.aging ≤ 4) : s.keepsLaws (s.setPort x) :=
  ⟨rfl, rfl, id, id, h, id, id⟩

theorem keepsLaws_setTable {x : GranuleTable} (h : s.table.lawful → x.lawful) : s.keepsLaws (s.setTable x) :=
  ⟨rfl, rfl, id, id, id, h, id⟩

theorem keepsLaws_setHost {x : HostPort} (h : s.cycleLawful → (s.setHost x).cycleLawful) : s.keepsLaws (s.setHost x) :=
  ⟨rfl, rfl, id, id, id, id, fun f => ⟨f.1, h f.2⟩⟩

theorem keepsLaws_setQueue {x : PostingQueue} (hl : s.queue.entries.length ≤ 8 → x.entries.length ≤ 8)
    (he : s.fit → ∀ e ∈ x.entries, e.lawful) : s.keepsLaws (s.setQueue x) :=
  ⟨rfl, rfl, hl, id, id, id, fun f => ⟨he f, f.2⟩⟩

/-- The table's law does not speak of the epoch status (R39, R50). -/
theorem keepsLaws_setStatus (s : State) (x : Option EpochStatus) :
    s.keepsLaws (s.setTable { s.table with status := x }) := keepsLaws_setTable id

/-- A mark set or cleared leaves the entries alone. -/
theorem keepsLaws_setMark (m : Option (BitVec 16)) : s.keepsLaws (s.setQueue { s.queue with mark := m }) :=
  keepsLaws_setQueue id fun f => f.1

end Setters

/-! ### Events and the arbiter -/

theorem keepsLaws_raise (s : State) (k : EventKind) (e : BitVec 48) (d : BitVec 32) : s.keepsLaws (s.raise k e d) := by
  unfold State.raise
  split
  · rename_i room
    refine keepsLaws_setEvents fun _ => ?_
    simp only [Config.eventDepth] at room
    simpa using room
  · exact keepsLaws_setEvents id

theorem keepsLaws_watermarkTest (s : State) : s.keepsLaws s.watermarkTest := by
  rcases watermarkTest_cases s with h | h <;> rw [h]
  · exact .refl s
  · exact keepsLaws_setAlarms s _

theorem markDraining_length (n : Nat) (es : List QueueEntry) : (markDraining n es).length = es.length := by
  simpa using congrArg List.length (markDraining_undrained n es)

/-- What becomes a drain write was OPEN, so it stays lawful (R64, R66). -/
theorem markDraining_lawful {s : State} (hs : s.drainStands = true) (he : ∀ e ∈ s.queue.entries, e.lawful) :
    ∀ e ∈ markDraining (drainBurst s.queue.entries).length s.queue.entries, e.lawful := by
  have taken : s.queue.entries.take (drainBurst s.queue.entries).length = drainBurst s.queue.entries :=
    (List.prefix_iff_eq_take.1 (drainBurst_prefix _)).symm
  have head : ∀ e ∈ s.queue.entries.head?, e.gate = .opened := by
    unfold State.drainStands at hs
    cases hq : s.queue.entries with
    | nil => simp
    | cons h rest =>
      simp only [hq, Bool.and_eq_true, beq_iff_eq] at hs
      rintro e ⟨⟩
      exact hs.1.1
  intro e hm
  unfold markDraining at hm
  rw [taken, List.mem_append, List.mem_map] at hm
  rcases hm with ⟨f, hf, rfl⟩ | later
  · obtain ⟨cls, lanes, plain, -⟩ := he f ((drainBurst_prefix _).subset hf)
    exact ⟨cls, lanes, plain, fun _ => drainBurst_opened head f hf⟩
  · exact he e (List.mem_of_mem_drop later)

theorem drainStands_of_standing {s : State} {o : MemOp} (h : s.standing .drain = some o) : s.drainStands = true := by
  by_contra no
  simp [State.standing, no] at h

/-- A host read granted over a waiting drain found an aging count below 4 (R160). -/
theorem agingAfter_le {s : State} {r : Requester} (hc : s.choice = some r) (h : s.port.aging ≤ 4) : s.agingAfter r ≤ 4 := by
  cases r with
  | hostRead =>
    unfold State.agingAfter
    dsimp only
    split
    · rename_i drain
      unfold State.choice at hc
      simp only [drain, and_true, Config.agingLimit] at hc
      repeat' split at hc
      all_goals first | omega | cases hc
    · exact h
  | drain => exact Nat.zero_le _
  | header | engine | capture => exact h

theorem keepsLaws_tellGranted {s : State} {r : Requester} {o : MemOp} (h : s.standing r = some o) :
    s.keepsLaws (s.tellGranted r) := by
  cases r with
  | header =>
    simp only [State.tellGranted]
    split
    · exact keepsLaws_setHeader s _
    · split
      · exact keepsLaws_setHeader s _
      · exact .refl s
  | engine => exact keepsLaws_setEngine s _
  | capture => exact keepsLaws_setCapture s _
  | hostRead =>
    simp only [State.tellGranted]
    split
    · exact keepsLaws_setHost id
    · exact .refl s
  | drain =>
    refine keepsLaws_setQueue ?_ fun f => markDraining_lawful (drainStands_of_standing h) f.1
    intro room
    rwa [markDraining_length]

theorem keepsLaws_arbitrate (s : State) : s.keepsLaws s.arbitrate := by
  rcases arbitrate_cases s with h | ⟨r, o, -, -, -, choice, stands, h⟩ <;> rw [h]
  · exact .refl s
  · refine (keepsLaws_tellGranted stands).trans (keepsLaws_setPort fun _ => agingAfter_le choice ?_)
    simpa using ‹(s.tellGranted r).port.aging ≤ 4›

/-! ### The queue's gates and removals -/

/-- Gates may turn where OPEN stays OPEN: PLAIN and draining entries have no other (R57, R66). -/
theorem keepsLaws_mapGates (s : State) {f : Gate → Gate} (hf : f .opened = .opened) : s.keepsLaws (s.mapGates f) := by
  refine (keepsLaws_setQueue (s := s) (by simp) ?_).trans (keepsLaws_setHost id)
  rintro ⟨entries, -⟩ turned he
  obtain ⟨e, mem, rfl⟩ := List.mem_map.1 he
  obtain ⟨cls, lanes, plain, draining⟩ := entries e mem
  refine ⟨cls, lanes, fun p => ?_, fun d => ?_⟩
  · rw [← hf]; exact congrArg f (plain p)
  · rw [← hf]; exact congrArg f (draining d)

theorem keepsLaws_keepEntries (s : State) (keep : QueueEntry → Bool) : s.keepsLaws (s.keepEntries keep) := by
  refine (keepsLaws_setQueue (s := s) (fun room => (List.length_filter_le _ _).trans room) ?_).trans
    (keepsLaws_setPort fun count => ?_)
  · rintro ⟨entries, -⟩ e he
    exact entries e (List.mem_of_mem_filter he)
  · dsimp only
    split
    · exact Nat.zero_le _
    · exact count

/-! ### Captures -/

theorem keepsLaws_requestWrite (s : State) (k : WriteKind) (target : Slot) : s.keepsLaws (s.requestWrite k target) :=
  keepsLaws_setHeader s _

theorem keepsLaws_dropEntries (s : State) (gone : TableEntry → Bool) : s.keepsLaws (s.dropEntries gone) :=
  (keepsLaws_setTable (drop_lawful gone)).trans (keepsLaws_watermarkTest _)

theorem keepsLaws_waitForMark (s : State) (gs : List Nat) : s.keepsLaws (s.waitForMark gs) := by
  unfold State.waitForMark
  split
  · exact keepsLaws_mapGates s rfl
  · exact .refl s

theorem keepsLaws_releaseInFlight (s : State) : s.keepsLaws s.releaseInFlight :=
  (keepsLaws_setCapture s _).trans (keepsLaws_dropEntries _ _)

theorem keepsLaws_endStopped (s : State) : s.keepsLaws s.endStopped :=
  (keepsLaws_releaseInFlight s).trans (keepsLaws_waitForMark _ _)

theorem keepsLaws_stopCapture (s : State) : s.keepsLaws s.stopCapture := by
  unfold State.stopCapture
  split
  · split
    · exact keepsLaws_setCapture s _
    · exact keepsLaws_endStopped s
  · exact .refl s
  · exact .refl s

theorem keepsLaws_cancelWaiting (s : State) : s.keepsLaws s.cancelWaiting :=
  (keepsLaws_dropEntries s _).trans (keepsLaws_waitForMark _ _)

theorem keepsLaws_enterBreaking (s : State) : s.keepsLaws s.enterBreaking := by
  unfold State.enterBreaking
  split
  · exact (((keepsLaws_setStatus s _).trans (keepsLaws_stopCapture _)).trans (keepsLaws_cancelWaiting _)).trans
      (keepsLaws_requestWrite _ _ _)
  · exact .refl s

theorem keepsLaws_takeCapture (s : State) : s.keepsLaws s.takeCapture :=
  keepsLaws_of_frame (by simp) (by simp) (by simp) (by simp) (by simp) (by simp) (by simp)

theorem keepsLaws_noteExhausted (s : State) (g : Nat) : s.keepsLaws (s.noteExhausted g) := by
  unfold State.noteExhausted
  dsimp only
  split
  · exact keepsLaws_setAlarms s _
  · have raised := (keepsLaws_setAlarms s { s.alarms with exhausted := true }).trans (keepsLaws_raise _ .logExhausted
      (s.setAlarms { s.alarms with exhausted := true }).epochNumber (BitVec.ofNat 32 g))
    refine raised.trans (keepsLaws_setTable ?_)
    simp

/-- A new capture is admitted for an absent granule, with fewer than 8 entries CAPTURING (R39, R45). -/
theorem absent_of_newCapture {s : State} {g : Nat} {gate : Gate} (h : s.admission g = .take gate .newCapture) :
    s.table.lookup g = none ∧ capturingCount s.table.entries < 8 := by
  have intact : s.admissionIntact g = .take gate .newCapture := by
    unfold State.admission at h
    split at h
    · cases h
    · cases h
    · exact h
    · exact h
  unfold State.admissionIntact at intact
  split at intact
  · split at intact <;> cases intact
  · rename_i absent
    refine ⟨absent, ?_⟩
    split at intact
    · split at intact
      · cases intact
      · rename_i few
        simpa [Config.capturingLimit] using few
    · split at intact <;> cases intact

theorem keepsLaws_applyAdmission {s : State} {g : Nat} {e : AdmissionEffect}
    (h : e = .newCapture → s.table.lookup g = none ∧ capturingCount s.table.entries < 8) :
    s.keepsLaws (s.applyAdmission g e) := by
  cases e with
  | nothing => exact .refl s
  | newCapture =>
    obtain ⟨absent, few⟩ := h rfl
    exact (keepsLaws_setTable fun l => enrol_lawful l absent few).trans (keepsLaws_watermarkTest _)
  | breakEpoch => exact (keepsLaws_noteExhausted s g).trans (keepsLaws_enterBreaking _)

/-! ### The host port's responses and reads -/

theorem keepsLaws_endCycle (s : State) : s.keepsLaws s.endCycle :=
  keepsLaws_setHost fun _ => cycleLawful_of_noCycle rfl

theorem keepsLaws_closeBeat (s : State) (r : HostResponse) (d : LaneData) : s.keepsLaws (s.closeBeat r d) :=
  (keepsLaws_endCycle s).trans (keepsLaws_setHost id)

theorem keepsLaws_finishBeat (s : State) (d : LaneData) : s.keepsLaws (s.finishBeat d) := by
  unfold State.finishBeat
  split
  · exact .refl s
  · rename_i c hc
    split
    · exact keepsLaws_closeBeat s _ _
    · split
      · exact keepsLaws_closeBeat s _ _
      · refine keepsLaws_setHost fun lawful => ?_
        rintro _ ⟨⟩ write
        exact ⟨(lawful c (by simp [hc]) write).1, by simp⟩

theorem keepsLaws_truncate (s : State) : s.keepsLaws s.truncate := by
  unfold State.truncate
  split
  · exact keepsLaws_endCycle s
  · exact .refl s

theorem keepsLaws_leaveOpen (s : State) : s.keepsLaws s.leaveOpen := by
  unfold State.leaveOpen
  split
  · rename_i c hc
    split
    · split
      · exact keepsLaws_closeBeat s _ _
      · refine keepsLaws_setHost fun lawful => ?_
        rintro _ ⟨⟩ write
        exact lawful c (by simp [hc]) write
    · exact .refl s
  · exact .refl s

/-- A beat may wait that may be posted, and in a read cycle any may. -/
theorem keepsLaws_holdBeat {s : State} {b : Beat} (r : WaitReason)
    (h : (∃ c ∈ s.host.cycle, c.write = true) → b.lanes ≠ 0 → b.data ≠ LaneData.empty) : s.keepsLaws (s.holdBeat b r) := by
  refine keepsLaws_setHost fun lawful c hc write => ⟨(lawful c hc write).1, ?_⟩
  rintro _ ⟨⟩
  exact h ⟨c, hc, write⟩

section Reads

variable {s : State} (reads : ∀ c ∈ s.host.cycle, c.write = false)
include reads

theorem keepsLaws_holdRead (b : Beat) (r : WaitReason) : s.keepsLaws (s.holdBeat b r) := by
  refine keepsLaws_holdBeat r ?_
  rintro ⟨c, hc, write⟩
  simp [reads c hc] at write

theorem keepsLaws_requestRead (c : Cycle) (b : Beat) : s.keepsLaws (s.requestRead c b) := by
  unfold State.requestRead
  split
  · exact keepsLaws_holdRead reads b _
  · exact (keepsLaws_holdRead reads b .wordPending).trans (keepsLaws_setHost id)

omit reads in
theorem keepsLaws_answerWord (s : State) (word : Nat) (lanes : Lanes) (data : MWord) (merr : Bool) :
    s.keepsLaws (s.answerWord word lanes data merr) := by
  unfold State.answerWord
  split
  · exact (keepsLaws_raise s _ _ _).trans (keepsLaws_closeBeat _ _ _)
  · exact keepsLaws_finishBeat s _

theorem keepsLaws_serveRead (c : Cycle) (b : Beat) : s.keepsLaws (s.serveRead c b) := by
  unfold State.serveRead
  split
  · exact keepsLaws_finishBeat s _
  · split
    · exact keepsLaws_holdRead reads b _
    · exact keepsLaws_answerWord s _ _ _ _
    · split
      · exact keepsLaws_requestRead reads c b
      · split
        · exact keepsLaws_finishBeat s _
        · exact keepsLaws_holdRead reads b _

end Reads

theorem keepsLaws_releaseRead (s : State) : s.keepsLaws s.releaseRead := by
  unfold State.releaseRead
  split
  · rename_i c b hc hb
    split
    · rename_i due
      exact keepsLaws_requestRead (by simp [hc, due.1]) c b
    · exact .refl s
  · exact .refl s

/-! ### Writes offered -/

theorem over_ne_empty {newer older : LaneData} (h : older ≠ LaneData.empty) : LaneData.over newer older ≠ LaneData.empty := by
  intro empty
  apply h
  cases newer with | mk n0 n1 n2 n3 =>
  cases older with | mk o0 o1 o2 o3 =>
  simp only [LaneData.over, LaneData.empty, Quad.mk.injEq, Option.orElse_eq_orElse, Option.orElse_eq_or,
    Option.or_eq_none_iff] at empty ⊢
  obtain ⟨⟨-, h0⟩, ⟨-, h1⟩, ⟨-, h2⟩, ⟨-, h3⟩⟩ := empty
  exact ⟨h0, h1, h2, h3⟩

theorem mergeNewest_lawful {d : LaneData} {es : List QueueEntry} (h : ∀ e ∈ es, e.lawful) :
    ∀ e ∈ mergeNewest d es, e.lawful := by
  induction es with
  | nil => exact h
  | cons e rest ih =>
    cases rest with
    | nil =>
      intro f hf
      obtain rfl := List.mem_singleton.1 hf
      obtain ⟨cls, lanes, plain, draining⟩ := h e (by simp)
      exact ⟨cls, over_ne_empty lanes, plain, draining⟩
    | cons f rest =>
      intro g hg
      rcases List.mem_cons.1 hg with rfl | hg
      · exact h _ (by simp)
      · exact ih (fun e he => h e (List.mem_cons_of_mem _ he)) g hg

/-- A queue of lawful entries takes a lawful beat lawfully (R57, R60, R61). -/
theorem enqueue_lawful {q : PostingQueue} {word : Nat} {d : LaneData} {cls : DecodeClass} {gate : Gate}
    (h : ∀ e ∈ q.entries, e.lawful) (hc : cls = .guarded ∨ cls = .plain) (hd : d ≠ LaneData.empty)
    (hg : cls = .plain → gate = .opened) : ∀ e ∈ (q.enqueue word d cls gate).entries, e.lawful := by
  unfold PostingQueue.enqueue
  split
  · exact mergeNewest_lawful h
  · intro e he
    rcases List.mem_append.1 he with he | he
    · exact h e he
    · obtain rfl := List.mem_singleton.1 he
      exact ⟨hc, hd, hg, by simp⟩

/-- The beat `b` of the write cycle may be posted under class `cls` with `gate`. -/
structure Beat.postable (b : Beat) (cls : DecodeClass) (gate : Gate) : Prop where
  written : cls = .guarded ∨ cls = .plain
  bytes : b.lanes ≠ 0 → b.data ≠ LaneData.empty
  opened : cls = .plain → gate = .opened

theorem keepsLaws_post {s : State} {word : Nat} {b : Beat} {cls : DecodeClass} {gate : Gate}
    (ht : b.lanes = 0 ∨ s.queue.accepts word gate = true) (hp : s.fit → b.postable cls gate) :
    s.keepsLaws (s.post word b cls gate) := by
  unfold State.post
  split
  · exact .refl s
  · rename_i lanes
    have accepts := ht.resolve_left lanes
    refine keepsLaws_setQueue (fun room => enqueue_length _ _ room accepts) fun f => ?_
    exact enqueue_lawful f.1 (hp f).written ((hp f).bytes lanes) (hp f).opened

/-- What a write beat in hand is known by as it is offered: its cycle stands with its portion, and it is fit to be
posted where the state's cycle is. -/
structure State.offers (s : State) (c : Cycle) (p : Portion) (b : Beat) : Prop where
  cycle : s.host.cycle = some c
  write : c.write = true
  portion : s.host.portion = some p
  data : s.cycleLawful → b.lanes ≠ 0 → b.data ≠ LaneData.empty

section Offers

variable {s : State} {c : Cycle} {p : Portion} {b : Beat} (h : s.offers c p b)
include h

theorem State.offers.cls (f : s.cycleLawful) : p.cls = .guarded ∨ p.cls = .plain :=
  (f c (by simp [h.cycle]) h.write).1 p (by simp [h.portion])

/-- Held, the beat may wait. -/
theorem keepsLaws_holdOffer (r : WaitReason) : s.keepsLaws (s.holdBeat b r) := by
  refine keepsLaws_setHost fun lawful d hd write => ⟨(lawful d hd write).1, ?_⟩
  rintro _ ⟨⟩
  exact h.data lawful

theorem keepsLaws_admitBeat (hg : p.cls = .guarded) : s.keepsLaws (s.admitBeat c p b) := by
  unfold State.admitBeat
  split
  · exact (keepsLaws_noteExhausted s _).trans (keepsLaws_closeBeat _ _ _)
  · exact keepsLaws_holdOffer h _
  · rename_i gate effect admitted
    split
    · rename_i takes
      have posts : s.keepsLaws (s.post c.word b p.cls gate) := by
        refine keepsLaws_post takes fun f => ⟨.inl hg, h.data f.2, fun plain => ?_⟩
        simp [hg] at plain
      refine ((posts.trans (keepsLaws_setHost ?_)).trans (keepsLaws_applyAdmission ?_)).trans (keepsLaws_finishBeat _ _)
      · exact id
      · rintro rfl
        simpa [post_eq] using absent_of_newCapture admitted
    · exact keepsLaws_holdOffer h _

/-- An offer posts lawfully, or holds what may be posted later (R43, R62). -/
theorem keepsLaws_offerWrite : s.keepsLaws (s.offerWrite c p b) := by
  unfold State.offerWrite
  split
  · rename_i first
    exact keepsLaws_admitBeat h first.1
  · split
    · rename_i takes
      refine (keepsLaws_post takes fun f => ⟨h.cls f.2, h.data f.2, fun plain => ?_⟩).trans (keepsLaws_finishBeat _ _)
      simp [State.beatGate, plain]
    · exact keepsLaws_holdOffer h _

end Offers

theorem keepsLaws_reoffer (before u : State) : u.keepsLaws (State.reoffer before u) := by
  unfold State.reoffer
  split
  · rename_i c p b hc hp hb
    split
    · rename_i due
      refine keepsLaws_offerWrite ⟨hc, due.2.1, hp, fun lawful => ?_⟩
      exact (lawful c (by simp [hc]) due.2.1).2 b (by simp [hb])
    · exact .refl u
  · exact .refl u

/-! ### The epoch control port -/

theorem keepsLaws_driveAnswer (s : State) (op : Operation) (r : EpochResult) : s.keepsLaws (s.driveAnswer op r) :=
  keepsLaws_setCtl s _

theorem keepsLaws_recordResult (s : State) (a : Answer) : s.keepsLaws (s.recordResult a) :=
  (keepsLaws_raise s _ _ _).trans (keepsLaws_setCtl _ _)

theorem keepsLaws_takeCommit (s : State) : s.keepsLaws s.takeCommit :=
  ((keepsLaws_setCtl s _).trans (keepsLaws_setCtl _ _)).trans (keepsLaws_leaveOpen _)

theorem keepsLaws_takeRollback (s : State) : s.keepsLaws s.takeRollback :=
  ((((((keepsLaws_setCtl s _).trans (keepsLaws_setCtl _ _)).trans (keepsLaws_keepEntries _ _)).trans
    (keepsLaws_stopCapture _)).trans (keepsLaws_cancelWaiting _)).trans (keepsLaws_leaveOpen _)).trans
      (keepsLaws_setEngine _ _)

theorem keepsLaws_takeFlush (s : State) : s.keepsLaws s.takeFlush := by
  unfold State.takeFlush
  split
  · exact (keepsLaws_setCtl s _).trans (keepsLaws_setMark _)
  · exact keepsLaws_driveAnswer s _ _

theorem keepsLaws_takeRequest (s : State) (op : Operation) : s.keepsLaws (s.takeRequest op) := by
  have refuses : ∀ op, s.keepsLaws (s.refuseAtLimit op) := fun op =>
    (keepsLaws_raise s _ _ _).trans (keepsLaws_driveAnswer _ _ _)
  cases op with
  | illegal => exact keepsLaws_driveAnswer s _ _
  | commit =>
    dsimp only [State.takeRequest]
    split
    · exact refuses .commit
    · exact keepsLaws_takeCommit s
  | rollback =>
    dsimp only [State.takeRequest]
    split
    · exact refuses .rollback
    · split
      · exact keepsLaws_takeRollback s
      · exact keepsLaws_driveAnswer s _ _
  | flush => exact keepsLaws_takeFlush s

theorem keepsLaws_takeRemembered (s : State) : s.keepsLaws s.takeRemembered := by
  unfold State.takeRemembered
  split
  · split
    · exact (keepsLaws_setCtl s _).trans (keepsLaws_takeRequest _ _)
    · exact .refl s
  · exact .refl s

theorem keepsLaws_reachResult (s : State) (r : EpochResult) : s.keepsLaws (s.reachResult r) := by
  unfold State.reachResult
  split
  · split
    · exact (keepsLaws_recordResult s _).trans (keepsLaws_takeRemembered _)
    · exact keepsLaws_driveAnswer s _ _
  · exact .refl s

theorem keepsLaws_risingEdge (s : State) (op : Operation) : s.keepsLaws (s.risingEdge op) := by
  have remembers : s.keepsLaws (s.setCtl { s.ctl with remembered := some op }) := keepsLaws_setCtl s _
  unfold State.risingEdge
  split
  · split
    · exact keepsLaws_takeRequest s op
    · exact remembers
  · exact remembers
  · exact remembers
  · exact remembers
  · exact remembers
  · exact remembers
  · exact remembers
  · exact keepsLaws_driveAnswer s _ _
  · exact keepsLaws_driveAnswer s _ _
  · exact .refl s
  · exact .refl s

theorem keepsLaws_ereqLow (s : State) : s.keepsLaws s.ereqLow := by
  unfold State.ereqLow
  extract_lets _ _ _ low _ forgot _
  have toLow : s.keepsLaws low := (keepsLaws_setPins s _).trans (keepsLaws_setCtl _ _)
  have toForgot : s.keepsLaws forgot := by
    refine toLow.trans ?_
    unfold forgot
    split
    · exact (keepsLaws_raise low _ _ _).trans (keepsLaws_setCtl _ _)
    · exact .refl low
  refine toForgot.trans ?_
  split
  · exact (keepsLaws_recordResult forgot _).trans (keepsLaws_setCtl _ _)
  · split
    · exact keepsLaws_setCtl _ _
    · exact keepsLaws_setCtl _ _
    · exact .refl forgot

theorem keepsLaws_endStartUp (s : State) : s.keepsLaws s.endStartUp := by
  unfold State.endStartUp
  split
  · dsimp only
    split
    · exact (keepsLaws_raise s _ _ _).trans (keepsLaws_driveAnswer _ _ _)
    · exact keepsLaws_driveAnswer s _ _
  · split
    · exact keepsLaws_takeRemembered s
    · split
      · exact (keepsLaws_setCtl s _).trans (keepsLaws_driveAnswer _ _ _)
      · exact .refl s

theorem keepsLaws_flushTest (s : State) : s.keepsLaws s.flushTest := by
  unfold State.flushTest
  split
  · exact (keepsLaws_setMark none).trans (keepsLaws_reachResult _ _)
  · exact .refl s

/-! ### Headers, the walk and the scan -/

theorem keepsLaws_selectWritten (s : State) (target : Slot) (h : HeaderRecord) :
    s.keepsLaws (s.selectWritten target h) := (keepsLaws_setHeader s _).trans (keepsLaws_setCtl _ _)

theorem empty_lawful (status : Option EpochStatus) (noted : Bool) : (GranuleTable.mk [] 0 status noted).lawful :=
  ⟨Nat.zero_le _, List.nodup_nil, Nat.zero_le _, rfl⟩

theorem keepsLaws_clearEpoch (s : State) : s.keepsLaws s.clearEpoch :=
  ((keepsLaws_setCapture s _).trans (keepsLaws_setTable fun _ => empty_lawful _ _)).trans (keepsLaws_setAlarms _ _)

theorem keepsLaws_enterFault (s : State) (r : FaultReason) : s.keepsLaws (s.enterFault r) :=
  (((keepsLaws_setCtl s _).trans (keepsLaws_setStatus _ _)).trans (keepsLaws_setDec _ _)).trans (keepsLaws_setHeader _ _)

theorem keepsLaws_endRecovery (s : State) : s.keepsLaws s.endRecovery := by
  unfold State.endRecovery
  dsimp only
  split
  · exact (((keepsLaws_setEngine s _).trans (keepsLaws_raise _ _ _ _)).trans (keepsLaws_enterFault _ _)).trans
      (keepsLaws_endStartUp _)
  · exact (keepsLaws_setEngine s _).trans (keepsLaws_requestWrite _ _ _)

theorem keepsLaws_applySeal (s : State) (w : WriteRequest) (h : HeaderRecord) : s.keepsLaws (s.applySeal w h) := by
  unfold State.applySeal
  dsimp only
  split
  · exact ((((keepsLaws_selectWritten s w.target h).trans (keepsLaws_setHeader _ _)).trans (keepsLaws_setDec _ _)).trans
      (keepsLaws_raise _ _ _ _)).trans (keepsLaws_clearEpoch _)
  · exact (keepsLaws_selectWritten s w.target h).trans (keepsLaws_clearEpoch _)

theorem keepsLaws_finishWalk (s : State) : s.keepsLaws s.finishWalk := by
  unfold State.finishWalk
  split
  · exact keepsLaws_endRecovery s
  · exact keepsLaws_setEngine s _

theorem keepsLaws_stepWalk (s : State) : s.keepsLaws s.stepWalk := by
  unfold State.stepWalk
  split
  · exact keepsLaws_finishWalk s
  · exact keepsLaws_setEngine s _

theorem keepsLaws_skipRecord (s : State) : s.keepsLaws s.skipRecord :=
  ((keepsLaws_raise s _ _ _).trans (keepsLaws_setEngine _ _)).trans (keepsLaws_stepWalk _)

theorem keepsLaws_endScan (s : State) (n : Nat) : s.keepsLaws (s.endScan n) := by
  have scanned := keepsLaws_setEngine s { s.engine with pass := .walk, scanEnd := some n }
  cases n with
  | zero => exact scanned.trans (keepsLaws_finishWalk _)
  | succ k => exact scanned.trans (keepsLaws_setEngine _ _)

theorem keepsLaws_scanFrom (s : State) (slot : Nat) : s.keepsLaws (s.scanFrom slot) := by
  unfold State.scanFrom
  split
  · exact keepsLaws_endScan s _
  · exact keepsLaws_setEngine s _

theorem keepsLaws_stepScan (s : State) (valid : Bool) : s.keepsLaws (s.stepScan valid) := by
  unfold State.stepScan
  dsimp only
  split
  · split
    · exact keepsLaws_scanFrom s _
    · exact keepsLaws_endScan s _
  · split
    · exact keepsLaws_scanFrom s _
    · split
      · exact keepsLaws_setEngine s _
      · exact keepsLaws_endScan s _

theorem keepsLaws_takeRecord (s : State) (merr : List BadBeat) (ws : List MWord) : s.keepsLaws (s.takeRecord merr ws) := by
  unfold State.takeRecord
  dsimp only
  split
  · exact keepsLaws_stepScan s _
  · split
    · exact keepsLaws_setEngine s _
    · exact keepsLaws_skipRecord s

theorem keepsLaws_beginWalk (s : State) : s.keepsLaws s.beginWalk :=
  keepsLaws_of_frame (by simp) (by simp) (by simp) (by simp) (by simp) (by simp) (by simp)

theorem keepsLaws_commitTest (s : State) : s.keepsLaws s.commitTest :=
  keepsLaws_of_frame (by simp) (by simp) (by simp) (by simp) (by simp) (by simp) (by simp)

theorem keepsLaws_rollbackTest (s : State) : s.keepsLaws s.rollbackTest :=
  keepsLaws_of_frame (by simp) (by simp) (by simp) (by simp) (by simp) (by simp) (by simp)

/-! ### The end of an event, parking and starting up -/

theorem keepsLaws_settle (before u : State) : u.keepsLaws (State.settle before u) :=
  (((((((keepsLaws_reoffer before u).trans (keepsLaws_releaseRead _)).trans (keepsLaws_takeCapture _)).trans
    (keepsLaws_commitTest _)).trans (keepsLaws_rollbackTest _)).trans (keepsLaws_arbitrate _)).trans
      (keepsLaws_reoffer _ _)).trans (keepsLaws_takeCapture _)

theorem keepsLaws_sampleStrap (s : State) : s.keepsLaws s.sampleStrap := by
  unfold State.sampleStrap
  split
  · exact (keepsLaws_enterFault s _).trans (keepsLaws_endStartUp _)
  · exact (keepsLaws_setDec s _).trans (keepsLaws_setHeader _ _)

theorem keepsLaws_startUp (s : State) : s.keepsLaws s.startUp := (keepsLaws_sampleStrap s).trans (keepsLaws_arbitrate _)

theorem keepsLaws_parkHost (s : State) : s.keepsLaws s.parkHost := by
  unfold State.parkHost
  split
  · exact keepsLaws_closeBeat s _ _
  · exact keepsLaws_setHost id

theorem keepsLaws_enterParking (s : State) : s.keepsLaws s.enterParking :=
  (((((keepsLaws_setCtl s _).trans (keepsLaws_setHeader _ _)).trans (keepsLaws_setEngine _ _)).trans
    (keepsLaws_parkHost _)).trans (keepsLaws_keepEntries _ _)).trans (keepsLaws_setMark none)

theorem keepsLaws_noteParked (s : State) : s.keepsLaws s.noteParked :=
  (keepsLaws_setCtl s _).trans (keepsLaws_raise _ _ _ _)

theorem keepsLaws_parkAtStart (s : State) (order : StartOrder) : s.keepsLaws (s.parkAtStart order) := by
  cases order with
  | strapFirst => exact ((keepsLaws_sampleStrap s).trans (keepsLaws_enterParking _)).trans (keepsLaws_noteParked _)
  | pfwFirst => exact (keepsLaws_enterParking s).trans (keepsLaws_noteParked _)

theorem keepsLaws_volatileReset (s : State) : s.keepsLaws s.volatileReset :=
  ⟨rfl, rfl, fun _ => Nat.zero_le _, id, fun _ => Nat.zero_le _, fun _ => empty_lawful _ _,
    fun _ => ⟨by simp [State.volatileReset, PostingQueue.reset], cycleLawful_of_noCycle rfl⟩⟩

theorem keepsLaws_beginRestart (s : State) (again : Option StartOrder) : s.keepsLaws (s.beginRestart again) := by
  cases again with
  | none => exact (keepsLaws_volatileReset s).trans (keepsLaws_startUp _)
  | some order =>
    exact ((keepsLaws_volatileReset s).trans (keepsLaws_setPins _ _)).trans (keepsLaws_parkAtStart _ _)

theorem keepsLaws_enterParked (s : State) : s.keepsLaws s.enterParked := by
  unfold State.enterParked
  split
  · exact keepsLaws_noteParked s
  · exact (keepsLaws_noteParked s).trans (keepsLaws_beginRestart _ _)

theorem keepsLaws_afterCompletion (before u : State) : u.keepsLaws (State.afterCompletion before u) := by
  unfold State.afterCompletion
  split
  · exact keepsLaws_enterParked u
  · exact keepsLaws_settle before u

end Sys2Proof.Machine
end

section
/-! Every command from what it begins with: the state it finds, the completion of the operation it names, or the state a
cut-off leaves. From there on the laws of `State.keepsLaws` are kept. -/

namespace Sys2Proof.Machine

/-! ### The completions' effects -/

theorem keepsLaws_noteFailure (s : State) (merr : List BadBeat) : s.keepsLaws (s.noteFailure merr) := by
  unfold State.noteFailure
  split
  · exact .refl s
  · exact keepsLaws_raise s _ _ _

theorem keepsLaws_takePreImage (s : State) (merr : List BadBeat) (image : List MWord) :
    s.keepsLaws (s.takePreImage merr image) := by
  have noted := keepsLaws_noteFailure s merr
  unfold State.takePreImage
  split
  · exact noted.trans (keepsLaws_setCapture _ _)
  · split
    · exact noted.trans (keepsLaws_endStopped _)
    · split
      · exact keepsLaws_setCapture s _
      · exact ((noted.trans (keepsLaws_releaseInFlight _)).trans (keepsLaws_enterBreaking _)).trans
          (keepsLaws_waitForMark _ _)

/-- An entry LOGGED gives up its reservation, and no other entry changes (R29, R42). -/
theorem logEntry_lawful {t : GranuleTable} (g : Nat) (h : t.lawful) : (t.logEntry g).lawful := by
  obtain ⟨few, distinct, capturing, reserved⟩ := h
  have granules : (t.logEntry g).entries.map TableEntry.granule = t.entries.map TableEntry.granule := by
    simp only [GranuleTable.logEntry, List.map_map]
    refine List.map_congr_left fun e _ => ?_
    simp only [Function.comp]
    split <;> rfl
  have left : capturingCount (t.logEntry g).entries = capturingCount (t.entries.filter fun e => !(e.granule == g)) := by
    simp only [GranuleTable.logEntry, capturingCount, List.countP_map, List.countP_filter]
    refine List.countP_congr fun e _ => ?_
    by_cases same : e.granule = g <;> simp [same]
  have parted := capturingCount_filter (fun e => e.granule == g) t.entries
  refine ⟨by simpa [GranuleTable.logEntry] using few, granules ▸ distinct, by omega, ?_⟩
  show t.reservations - capturingCount (t.entries.filter fun e => e.granule == g) = _
  omega

theorem complete_lawful {t : GranuleTable} (g : Nat) (h : t.lawful) : (t.complete g).lawful := by
  unfold GranuleTable.complete
  split
  · exact drop_lawful _ h
  · exact logEntry_lawful g h

theorem keepsLaws_completeCapture (s : State) : s.keepsLaws s.completeCapture := by
  have logged : ∀ c g, s.keepsLaws ((s.setCapture c).setTable ((s.setCapture c).table.complete g)).watermarkTest := fun c g =>
    ((keepsLaws_setCapture s c).trans (keepsLaws_setTable (complete_lawful g))).trans (keepsLaws_watermarkTest _)
  unfold State.completeCapture
  dsimp only
  split
  · exact logged _ _
  · exact (logged _ _).trans (keepsLaws_mapGates _ rfl)

theorem keepsLaws_takeMark (s : State) (w : WriteRequest) : s.keepsLaws (s.takeMark w) :=
  (((((keepsLaws_selectWritten s _ _).trans (keepsLaws_setStatus _ _)).trans (keepsLaws_mapGates _ rfl)).trans
    (keepsLaws_dropEntries _ _)).trans (keepsLaws_raise _ _ _ _)).trans (keepsLaws_setAlarms _ _)

theorem keepsLaws_takeSeal (s : State) (w : WriteRequest) : s.keepsLaws (s.takeSeal w) := by
  have applied := keepsLaws_applySeal s w w.header
  unfold State.takeSeal
  dsimp only
  split
  · exact applied
  · exact ((applied.trans (keepsLaws_setCtl _ _)).trans (keepsLaws_reachResult _ _)).trans (keepsLaws_takeRemembered _)

theorem keepsLaws_takeRecoverySeal (s : State) (w : WriteRequest) : s.keepsLaws (s.takeRecoverySeal w) := by
  have sealed : ∀ e d, s.keepsLaws (((s.selectWritten w.target w.header).clearEpoch).raise .recoveryDone e d) :=
    fun _ _ => ((keepsLaws_selectWritten _ _ _).trans (keepsLaws_clearEpoch _)).trans (keepsLaws_raise _ _ _ _)
  unfold State.takeRecoverySeal
  dsimp only
  split
  · exact sealed _ _
  · exact ((sealed _ _).trans (keepsLaws_setCtl _ _)).trans (keepsLaws_endStartUp _)

theorem keepsLaws_takeClearing (s : State) (w : WriteRequest) : s.keepsLaws (s.takeClearing w) := by
  unfold State.takeClearing
  dsimp only
  split
  · exact keepsLaws_setHeader s _
  · exact (keepsLaws_setHeader s _).trans (keepsLaws_requestWrite _ _ _)

theorem keepsLaws_openUnlessParking (s : State) : s.keepsLaws s.openUnlessParking := by
  unfold State.openUnlessParking
  split
  · exact .refl s
  · exact keepsLaws_setCtl s _

theorem keepsLaws_takeFormat (s : State) (w : WriteRequest) : s.keepsLaws (s.takeFormat w) :=
  (((((keepsLaws_selectWritten s w.target w.header).trans (keepsLaws_setHeader _ _)).trans (keepsLaws_setDec _ _)).trans
    (keepsLaws_clearEpoch _)).trans (keepsLaws_openUnlessParking _)).trans (keepsLaws_takeRemembered _)

theorem keepsLaws_selectNone (s : State) (ja jb : Judgement) : s.keepsLaws (s.selectNone ja jb) := by
  unfold State.selectNone
  split
  · exact (keepsLaws_setCtl s _).trans (keepsLaws_endStartUp _)
  · split
    · exact (keepsLaws_enterFault s _).trans (keepsLaws_endStartUp _)
    · exact (keepsLaws_enterFault s _).trans (keepsLaws_endStartUp _)

theorem keepsLaws_beginRecovery (s : State) (broken : Bool) : s.keepsLaws (s.beginRecovery broken) := by
  unfold State.beginRecovery
  dsimp only
  split
  · exact ((keepsLaws_setEngine s _).trans (keepsLaws_raise _ _ _ _)).trans (keepsLaws_endRecovery _)
  · exact ((keepsLaws_setEngine s _).trans (keepsLaws_setEngine _ _)).trans (keepsLaws_scanFrom _ _)

theorem keepsLaws_selectHeader (s : State) (slot : Slot) (h : HeaderRecord) : s.keepsLaws (s.selectHeader slot h) :=
  ((((keepsLaws_setHeader s _).trans (keepsLaws_setCtl _ _)).trans (keepsLaws_setStatus _ _)).trans
    (keepsLaws_setDec _ _)).trans (keepsLaws_setLink _ _)

theorem keepsLaws_select (s : State) (slot : Slot) (h : HeaderRecord) (other : Judgement) :
    s.keepsLaws (s.select slot h other) := by
  have noted : s.keepsLaws (s.noteDamagedSlot slot.other other h.epoch) := by
    unfold State.noteDamagedSlot
    split
    · exact keepsLaws_raise s _ _ _
    · exact .refl s
  exact (noted.trans (keepsLaws_selectHeader _ _ _)).trans (keepsLaws_beginRecovery _ _)

theorem keepsLaws_takeHeader (s : State) (slot : Slot) (merr : List BadBeat) (ws : List MWord) :
    s.keepsLaws (s.takeHeader slot merr ws) := by
  have selects : ∀ (u : State) b, u.keepsLaws (u.selectSlot b) := by
    intro u b
    unfold State.selectSlot
    dsimp only
    split
    · exact keepsLaws_select u _ _ _
    · exact keepsLaws_select u _ _ _
    · exact keepsLaws_selectNone u _ _
  unfold State.takeHeader
  dsimp only
  split
  · exact keepsLaws_setHeader s _
  · cases slot with
    | a => exact (keepsLaws_setHeader s _).trans (keepsLaws_setHeader _ _)
    | b => exact (keepsLaws_setHeader s _).trans (selects _ _)

/-! ### What a command begins with -/

/-- The kind of the operation whose completion a command names (R152, "Operations by requester" of 10). -/
def Instr.completes : Instr → Option OpKind
  | .drainWriteComplete => some .drainWrite
  | .preImageReadComplete _ => some .preImageRead
  | .recordWriteComplete => some .recordWrite
  | .recordReadComplete _ => some .recordRead
  | .restoreWriteComplete => some .restoreWrite
  | .headerReadComplete _ => some .headerRead
  | .hostReadComplete => some .hostRead
  | .markWriteComplete => some .headerWrite
  | .sealComplete => some .headerWrite
  | .recoverySealComplete => some .headerWrite
  | .clearingWriteComplete => some .headerWrite
  | .formatWriteComplete => some .headerWrite
  | _ => none

/-- What the effects of a command on `s` begin with: `s` itself, the completion of the operation it names, or what a cut-off
leaves. -/
inductive State.begins (s : State) (c : Instr) : State → Prop where
  | here : s.begins c s
  | completion {o : MemOp} (named : Instr.completes c = some o.kind) (underway : s.port.op = some o) :
      s.begins c (s.finishOp o)
  | cutOff {tear : List Lanes} {m : Memory} (named : c = .resetnAssert tear ∨ c = .supplyCollapse tear)
      (torn : s.tornMemory tear = some m) : s.begins c (s.resetBy m)

/-- The command's event leaves `t`, every effect after its beginning having kept the laws. -/
def State.followsFrom (s : State) (c : Instr) (t : State) : Prop := ∃ u, s.begins c u ∧ u.keepsLaws t

section Commands

variable {s t : State} {c : Instr}

theorem followsFrom_keeps (h : s.keepsLaws t) : s.followsFrom c t := ⟨s, .here, h⟩

theorem followsFrom_onOperation {k : OpKind} {effect : MemOp → State} (hc : Instr.completes c = some k)
    (h : s.onOperation k effect = .next t) (he : ∀ o, (s.finishOp o).keepsLaws (effect o) ∨ effect o = s) :
    s.followsFrom c t := by
  unfold State.onOperation at h
  split at h
  · cases h
    exact followsFrom_keeps (.refl s)
  · cases h
  · rename_i o completing
    obtain ⟨underway, kind, -⟩ := completing_underway.1 completing
    cases h
    rcases he o with kept | same
    · exact ⟨_, .completion (hc.trans (congrArg some kind.symm)) underway, kept⟩
    · exact followsFrom_keeps (same ▸ .refl s)

theorem followsFrom_onHeaderWrite {mine : WriteKind → Bool} {effect : State → WriteRequest → State}
    (hc : Instr.completes c = some .headerWrite) (h : s.onHeaderWrite mine effect = .next t)
    (he : ∀ (u : State) (w : WriteRequest), u.keepsLaws (effect u w)) : s.followsFrom c t := by
  refine followsFrom_onOperation hc h fun o => ?_
  split
  · split
    · exact .inl ((he _ _).trans (keepsLaws_afterCompletion _ _))
    · exact .inr rfl
  · exact .inr rfl

theorem followsFrom_cutOff {tear : List Lanes} (hc : c = .resetnAssert tear ∨ c = .supplyCollapse tear)
    (h : s.cutOff tear = .next t) : s.followsFrom c t := by
  unfold State.cutOff at h
  split at h
  · rename_i torn
    cases h
    exact ⟨_, .cutOff hc torn, .refl _⟩
  · cases h

/-! ### Reset and power -/

theorem keepsLaws_resetnRelease (sample : ReleaseSample) (h : execResetnRelease sample s = .next t) : s.keepsLaws t := by
  cases h
  have sampled := keepsLaws_setPins s { s.pins with resetLow := false, msz := sample.msz }
  split
  · split
    · exact sampled.trans (keepsLaws_parkAtStart _ _)
    · exact sampled.trans (keepsLaws_startUp _)
  · exact .refl s

theorem keepsLaws_pfwTaken (h : execPfwTaken s = .next t) : s.keepsLaws t := by
  cases h
  have seen := keepsLaws_setPins s { s.pins with pfw := true }
  have parks := seen.trans (keepsLaws_enterParking _)
  split
  · exact seen
  · split
    · exact seen.trans (keepsLaws_setCtl _ _)
    · split
      · exact parks
      · exact parks.trans (keepsLaws_noteParked _)

theorem keepsLaws_restart (sample : RestartSample) (h : execRestart sample s = .next t) : s.keepsLaws t := by
  cases h
  have seen := keepsLaws_setPins s { s.pins with pfw := false, msz := sample.msz }
  split
  · exact seen
  · split
    · exact seen.trans (keepsLaws_beginRestart _ _)
    · split
      · exact seen.trans (keepsLaws_setCtl _ _)
      · exact seen

/-! ### The host bus -/

/-- A write beat as the bus presents it has a byte for each lane enabled (R57). -/
theorem select_ne_empty {lanes : Lanes} {data : MWord} (h : lanes ≠ 0) : LaneData.select lanes data ≠ LaneData.empty := by
  intro empty
  apply h
  simp only [LaneData.select, LaneData.empty, Quad.mk.injEq, ite_eq_right_iff, reduceCtorEq, imp_false,
    Bool.not_eq_true] at empty
  obtain ⟨h0, h1, h2, h3⟩ := empty
  refine BitVec.eq_of_getLsbD_eq fun i hi => ?_
  show _ = (0#4).getLsbD i
  rw [BitVec.getLsbD_zero]
  obtain rfl | rfl | rfl | rfl : i = 0 ∨ i = 1 ∨ i = 2 ∨ i = 3 := by omega
  · exact h0
  · exact h1
  · exact h2
  · exact h3

theorem keepsLaws_beginCycle {s : State} {d : Cycle} {p : Portion}
    (h : d.write = true → p.cls = .guarded ∨ p.cls = .plain) : s.keepsLaws (s.beginCycle d p) := by
  refine keepsLaws_setHost fun _ => ?_
  rintro _ ⟨⟩ write
  refine ⟨?_, by simp⟩
  rintro _ ⟨⟩
  exact h write

theorem keepsLaws_decodeWrite (s : State) (word length : Nat) (lanes : Lanes) (data : MWord) :
    s.keepsLaws (s.decodeWrite word length lanes data) := by
  unfold State.decodeWrite
  dsimp only
  split
  · rename_i written
    exact (keepsLaws_beginCycle fun _ => written).trans
      (keepsLaws_offerWrite ⟨rfl, rfl, rfl, fun _ => select_ne_empty⟩)
  · exact (keepsLaws_raise s _ _ _).trans (keepsLaws_closeBeat _ _ _)

theorem keepsLaws_decodeRead (s : State) (word length : Nat) (lanes : Lanes) :
    s.keepsLaws (s.decodeRead word length lanes) := by
  unfold State.decodeRead
  dsimp only
  split
  · exact keepsLaws_closeBeat s _ _
  · split
    · exact keepsLaws_closeBeat s _ _
    · refine (keepsLaws_beginCycle (by simp)).trans (keepsLaws_serveRead ?_ _ _)
      rintro c ⟨⟩
      rfl

theorem keepsLaws_hostWriteFirstBeat (word : BitVec 24) (hlen : BitVec 3) (lanes : Lanes) (data : MWord)
    (h : execHostWriteFirstBeat word hlen lanes data s = .next t) : s.keepsLaws t := by
  cases h
  split
  · refine State.keepsLaws.trans ?_ (keepsLaws_settle _ _)
    split
    · exact (keepsLaws_truncate s).trans (keepsLaws_closeBeat _ _ _)
    · exact (keepsLaws_truncate s).trans (keepsLaws_decodeWrite _ _ _ _ _)
  · exact .refl s

theorem laterBeat_some {write : Bool} {d : Cycle} {p : Portion} (h : s.laterBeat write = some (d, p)) :
    s.host.cycle = some d ∧ s.host.portion = some p ∧ s.host.beat = none ∧ d.write = write ∧ s.pins.resetLow = false := by
  unfold State.laterBeat at h
  split at h
  · rename_i hc hp hb
    split at h
    · rename_i presents
      cases h
      simp only [Bool.and_eq_true, Bool.not_eq_true', beq_iff_eq] at presents
      exact ⟨hc, hp, hb, presents.2, presents.1⟩
    · cases h
  · cases h

theorem keepsLaws_hostWriteLaterBeat (lanes : Lanes) (data : MWord) (h : execHostWriteLaterBeat lanes data s = .next t) :
    s.keepsLaws t := by
  cases h
  split
  · rename_i d p presented
    obtain ⟨cycle, portion, -, write, -⟩ := laterBeat_some presented
    refine State.keepsLaws.trans ?_ (keepsLaws_settle _ _)
    unfold State.laterWrite
    split
    · exact keepsLaws_offerWrite ⟨cycle, write, portion, fun _ => select_ne_empty⟩
    · exact keepsLaws_closeBeat s _ _
  · exact .refl s

theorem keepsLaws_hostReadFirstBeat (word : BitVec 24) (hlen : BitVec 3) (lanes : Lanes)
    (h : execHostReadFirstBeat word hlen lanes s = .next t) : s.keepsLaws t := by
  cases h
  split
  · refine State.keepsLaws.trans ?_ (keepsLaws_settle _ _)
    split
    · exact (keepsLaws_truncate s).trans (keepsLaws_closeBeat _ _ _)
    · exact (keepsLaws_truncate s).trans (keepsLaws_decodeRead _ _ _ _)
  · exact .refl s

theorem keepsLaws_hostReadLaterBeat (lanes : Lanes) (h : execHostReadLaterBeat lanes s = .next t) : s.keepsLaws t := by
  cases h
  split
  · rename_i presented
    refine State.keepsLaws.trans ?_ (keepsLaws_settle _ _)
    split
    · exact keepsLaws_serveRead (laterBeat_cycle presented) _ _
    · exact keepsLaws_closeBeat s _ _
  · exact .refl s

theorem keepsLaws_placeWord (s : State) (word : Nat) (data : MWord) (merr : Bool) :
    s.keepsLaws (s.placeWord word data merr) := by
  unfold State.placeWord
  split
  · split
    · exact .refl s
    · exact keepsLaws_setHost id
  · exact .refl s

theorem keepsLaws_answerArrived (s : State) (word : Nat) (data : MWord) (merr : Bool) :
    s.keepsLaws (s.answerArrived word data merr) := by
  unfold State.answerArrived
  split
  · split
    · exact keepsLaws_answerWord s _ _ _ _
    · exact .refl s
  · exact .refl s

theorem keepsLaws_takeWord (s : State) (o : MemOp) (merr : Option MWord) : s.keepsLaws (s.takeWord o merr) := by
  have passed : s.keepsLaws (s.wordPassed o) := keepsLaws_setPort id
  exact (passed.trans (keepsLaws_placeWord _ _ _ _)).trans (keepsLaws_answerArrived _ _ _ _)

/-- The arrival of a word completes no operation: the port goes to the next beat (R152). -/
theorem keepsLaws_hostReadWordArrival (merr : Option MWord) (h : execHostReadWordArrival merr s = .next t) :
    s.keepsLaws t := by
  unfold execHostReadWordArrival State.onOperation at h
  split at h
  · cases h
    exact .refl s
  · cases h
  · cases h
    dsimp only
    split
    · exact (keepsLaws_takeWord s _ merr).trans (keepsLaws_settle _ _)
    · exact .refl s

theorem keepsLaws_requestWaiting (s : State) : s.keepsLaws s.requestWaiting := by
  unfold State.requestWaiting
  split
  · rename_i c b hc hb
    split
    · rename_i waits
      exact keepsLaws_requestRead (by simp [hc, waits.1]) c b
    · exact .refl s
  · exact .refl s

/-! ### The epoch control port -/

theorem keepsLaws_requestEdge (s : State) (op : Operation) : s.keepsLaws (s.requestEdge op) := by
  unfold State.requestEdge
  dsimp only
  split
  · exact keepsLaws_setPins s _
  · exact (((keepsLaws_setPins s _).trans (keepsLaws_setCtl _ _)).trans (keepsLaws_risingEdge _ _)).trans
      (keepsLaws_settle _ _)

theorem keepsLaws_answerAck (ereq : Bool) (h : execAnswerAck ereq s = .next t) : s.keepsLaws t := by
  cases h
  split
  · split
    · exact keepsLaws_setCtl s _
    · exact keepsLaws_ereqLow s
  · exact .refl s

theorem keepsLaws_ereqFall (h : execEreqFall s = .next t) : s.keepsLaws t := by
  cases h
  split
  · exact keepsLaws_setPins s _
  · exact keepsLaws_ereqLow s

/-! ### Completions -/

theorem followsFrom_drainWriteComplete (h : execDrainWriteComplete s = .next t) :
    s.followsFrom .drainWriteComplete t :=
  followsFrom_onOperation rfl h fun _ => .inl ((((keepsLaws_keepEntries _ _).trans (keepsLaws_reoffer _ _)).trans
    (keepsLaws_flushTest _)).trans (keepsLaws_afterCompletion _ _))

theorem followsFrom_preImageReadComplete (merr : List BadBeat) (h : execPreImageReadComplete merr s = .next t) :
    s.followsFrom (.preImageReadComplete merr) t :=
  followsFrom_onOperation rfl h fun _ => .inl ((keepsLaws_takePreImage _ _ _).trans (keepsLaws_afterCompletion _ _))

theorem followsFrom_recordWriteComplete (h : execRecordWriteComplete s = .next t) :
    s.followsFrom .recordWriteComplete t :=
  followsFrom_onOperation rfl h fun _ => .inl ((keepsLaws_completeCapture _).trans (keepsLaws_afterCompletion _ _))

theorem followsFrom_recordReadComplete (merr : List BadBeat) (h : execRecordReadComplete merr s = .next t) :
    s.followsFrom (.recordReadComplete merr) t := by
  refine followsFrom_onOperation rfl h fun o => .inl (State.keepsLaws.trans ?_ (keepsLaws_afterCompletion _ _))
  split
  · exact keepsLaws_setEngine _ _
  · exact keepsLaws_takeRecord _ _ _

theorem followsFrom_restoreWriteComplete (h : execRestoreWriteComplete s = .next t) :
    s.followsFrom .restoreWriteComplete t := by
  refine followsFrom_onOperation rfl h fun o => .inl (State.keepsLaws.trans ?_ (keepsLaws_afterCompletion _ _))
  dsimp only
  split
  · exact (keepsLaws_setEngine _ _).trans (keepsLaws_setEngine _ _)
  · exact (keepsLaws_setEngine _ _).trans (keepsLaws_stepWalk _)

theorem followsFrom_headerReadComplete (merr : List BadBeat) (h : execHeaderReadComplete merr s = .next t) :
    s.followsFrom (.headerReadComplete merr) t :=
  followsFrom_onOperation rfl h fun _ => .inl ((keepsLaws_takeHeader _ _ _ _).trans (keepsLaws_afterCompletion _ _))

theorem followsFrom_hostReadComplete (h : execHostReadComplete s = .next t) : s.followsFrom .hostReadComplete t := by
  refine followsFrom_onOperation rfl h fun o => ?_
  split
  · refine .inl (State.keepsLaws.trans ?_ (keepsLaws_afterCompletion _ _))
    have read : (s.finishOp o).keepsLaws ((s.finishOp o).setHost { (s.finishOp o).host with read := none }) :=
      keepsLaws_setHost id
    dsimp only
    split
    · exact read
    · exact read.trans (keepsLaws_requestWaiting _)
  · exact .inr rfl

/-! ### The management link -/

theorem keepsLaws_onLink {i : Instr} {effect : List Byte → State} (h : s.onLink i effect = .next t)
    (he : ∀ sent, s.keepsLaws (effect sent)) : s.keepsLaws t := by
  cases h
  split
  · split
    · exact he _
    · exact .refl s
  · exact .refl s

theorem keepsLaws_respond (s : State) (sent : List Byte) (result : Byte) (data : List Byte) :
    s.keepsLaws (s.respond sent result data) := keepsLaws_setLink s _

theorem keepsLaws_getStatus (h : execGetStatus s = .next t) : s.keepsLaws t :=
  keepsLaws_onLink h fun _ => keepsLaws_respond s _ _ _

theorem keepsLaws_getStaged (h : execGetStaged s = .next t) : s.keepsLaws t :=
  keepsLaws_onLink h fun _ => keepsLaws_respond s _ _ _

theorem keepsLaws_unknownCommand (code : Byte) (h : execUnknownCommand code s = .next t) : s.keepsLaws t :=
  keepsLaws_onLink h fun _ => keepsLaws_respond s _ _ _

theorem keepsLaws_popEvent (h : execPopEvent s = .next t) : s.keepsLaws t := by
  refine keepsLaws_onLink h fun sent => ?_
  split
  · exact (keepsLaws_respond s _ _ _).trans (keepsLaws_setLink _ _)
  · exact (keepsLaws_respond s _ _ _).trans (keepsLaws_setEvents id)

theorem keepsLaws_popEventRemoval (h : execPopEventRemoval s = .next t) : s.keepsLaws t := by
  cases h
  split
  · dsimp only
    split
    · exact (keepsLaws_setLink s _).trans (keepsLaws_setEvents fun room => (List.drop_sublist _ _).length_le.trans room)
    · exact keepsLaws_setLink s _
  · exact .refl s

theorem keepsLaws_getActive (h : execGetActive s = .next t) : s.keepsLaws t := by
  refine keepsLaws_onLink h fun sent => ?_
  split <;> exact keepsLaws_respond s _ _ _

theorem keepsLaws_stageRegion (index present cls : Byte) (base length : BitVec 16)
    (h : execStageRegion index present cls base length s = .next t) : s.keepsLaws t := by
  refine keepsLaws_onLink h fun sent => ?_
  split
  · exact keepsLaws_respond s _ _ _
  · split
    · exact keepsLaws_respond s _ _ _
    · exact (keepsLaws_respond s _ _ _).trans (keepsLaws_setLink _ _)

theorem keepsLaws_stageLog (capacity : BitVec 16) (policy watermark : Byte)
    (h : execStageLog capacity policy watermark s = .next t) : s.keepsLaws t := by
  refine keepsLaws_onLink h fun sent => ?_
  split
  · exact keepsLaws_respond s _ _ _
  · exact (keepsLaws_respond s _ _ _).trans (keepsLaws_setLink _ _)

theorem keepsLaws_apply (h : execApply s = .next t) : s.keepsLaws t := by
  refine keepsLaws_onLink h fun sent => ?_
  split
  · exact keepsLaws_respond s _ _ _
  · split
    · exact keepsLaws_respond s _ _ _
    · exact (keepsLaws_respond s _ _ _).trans (keepsLaws_setHeader _ _)

theorem keepsLaws_unstage (h : execUnstage s = .next t) : s.keepsLaws t := by
  refine keepsLaws_onLink h fun sent => ?_
  split
  · exact keepsLaws_respond s _ _ _
  · exact ((keepsLaws_respond s _ _ _).trans (keepsLaws_setLink _ _)).trans (keepsLaws_setHeader _ _)

theorem keepsLaws_format (number : BitVec 32) (h : execFormat number s = .next t) : s.keepsLaws t := by
  refine keepsLaws_onLink h fun sent => ?_
  split
  · exact keepsLaws_respond s _ _ _
  · split
    · exact keepsLaws_respond s _ _ _
    · split
      · exact keepsLaws_respond s _ _ _
      · exact (((keepsLaws_respond s _ _ _).trans (keepsLaws_setCtl _ _)).trans (keepsLaws_requestWrite _ _ _)).trans
          (keepsLaws_arbitrate _)

theorem keepsLaws_frameStart (h : execFrameStart s = .next t) : s.keepsLaws t := by
  cases h
  split
  · exact .refl s
  · dsimp only
    split
    · exact keepsLaws_setPins s _
    · exact (keepsLaws_setPins s _).trans (keepsLaws_setLink _ _)

theorem keepsLaws_frameEnd (h : execFrameEnd s = .next t) : s.keepsLaws t := by
  cases h
  split
  · exact keepsLaws_setPins s _
  · exact (keepsLaws_setPins s _).trans (keepsLaws_setLink _ _)

/-! ### Every command -/

/-- Every command keeps the laws from its beginning on. -/
theorem exec_followsFrom (h : exec c s = .next t) : s.followsFrom c t := by
  cases c with
  | resetnAssert tear => exact followsFrom_cutOff (.inl rfl) h
  | supplyCollapse tear => exact followsFrom_cutOff (.inr rfl) h
  | resetnRelease sample => exact followsFrom_keeps (keepsLaws_resetnRelease sample h)
  | pfwTaken => exact followsFrom_keeps (keepsLaws_pfwTaken h)
  | restart sample => exact followsFrom_keeps (keepsLaws_restart sample h)
  | hostWriteFirstBeat word hlen lanes data =>
    exact followsFrom_keeps (keepsLaws_hostWriteFirstBeat word hlen lanes data h)
  | hostWriteLaterBeat lanes data => exact followsFrom_keeps (keepsLaws_hostWriteLaterBeat lanes data h)
  | hostReadFirstBeat word hlen lanes => exact followsFrom_keeps (keepsLaws_hostReadFirstBeat word hlen lanes h)
  | hostReadLaterBeat lanes => exact followsFrom_keeps (keepsLaws_hostReadLaterBeat lanes h)
  | hostReadWordArrival merr => exact followsFrom_keeps (keepsLaws_hostReadWordArrival merr h)
  | hostReadComplete => exact followsFrom_hostReadComplete h
  | commit => cases h; exact followsFrom_keeps (keepsLaws_requestEdge s .commit)
  | rollback => cases h; exact followsFrom_keeps (keepsLaws_requestEdge s .rollback)
  | flush => cases h; exact followsFrom_keeps (keepsLaws_requestEdge s .flush)
  | illegalOperation => cases h; exact followsFrom_keeps (keepsLaws_requestEdge s .illegal)
  | answerAck ereq => exact followsFrom_keeps (keepsLaws_answerAck ereq h)
  | ereqFall => exact followsFrom_keeps (keepsLaws_ereqFall h)
  | drainWriteComplete => exact followsFrom_drainWriteComplete h
  | preImageReadComplete merr => exact followsFrom_preImageReadComplete merr h
  | recordWriteComplete => exact followsFrom_recordWriteComplete h
  | recordReadComplete merr => exact followsFrom_recordReadComplete merr h
  | restoreWriteComplete => exact followsFrom_restoreWriteComplete h
  | headerReadComplete merr => exact followsFrom_headerReadComplete merr h
  | markWriteComplete =>
    have completes : execMarkWriteComplete s = .next t := h
    exact followsFrom_onHeaderWrite rfl completes keepsLaws_takeMark
  | sealComplete =>
    have completes : execSealComplete s = .next t := h
    exact followsFrom_onHeaderWrite rfl completes keepsLaws_takeSeal
  | recoverySealComplete =>
    have completes : execRecoverySealComplete s = .next t := h
    exact followsFrom_onHeaderWrite rfl completes keepsLaws_takeRecoverySeal
  | clearingWriteComplete =>
    have completes : execClearingWriteComplete s = .next t := h
    exact followsFrom_onHeaderWrite rfl completes keepsLaws_takeClearing
  | formatWriteComplete =>
    have completes : execFormatWriteComplete s = .next t := h
    exact followsFrom_onHeaderWrite rfl completes keepsLaws_takeFormat
  | getStatus => exact followsFrom_keeps (keepsLaws_getStatus h)
  | getStaged => exact followsFrom_keeps (keepsLaws_getStaged h)
  | unknownCommand code => exact followsFrom_keeps (keepsLaws_unknownCommand code h)
  | popEvent => exact followsFrom_keeps (keepsLaws_popEvent h)
  | popEventRemoval => exact followsFrom_keeps (keepsLaws_popEventRemoval h)
  | getActive => exact followsFrom_keeps (keepsLaws_getActive h)
  | stageRegion index present cls base length =>
    exact followsFrom_keeps (keepsLaws_stageRegion index present cls base length h)
  | stageLog capacity policy watermark => exact followsFrom_keeps (keepsLaws_stageLog capacity policy watermark h)
  | apply => exact followsFrom_keeps (keepsLaws_apply h)
  | unstage => exact followsFrom_keeps (keepsLaws_unstage h)
  | format number => exact followsFrom_keeps (keepsLaws_format number h)
  | frameEnd => exact followsFrom_keeps (keepsLaws_frameEnd h)
  | frameStart => exact followsFrom_keeps (keepsLaws_frameStart h)

end Commands

/-! ### The statements -/

/-- What every command keeps from its beginning, and every beginning keeps, every step keeps: on an empty queue the block
idles (log 4). -/
theorem step_keeps {P : State → Prop} {s t : State} (hs : P s) (h : step s = .next t) (pending : ∀ rest, P s → P (s.setPending rest))
    (begins : ∀ {s u c}, P s → State.begins s c u → P u) (keeps : ∀ {u t}, P u → u.keepsLaws t → P t) : P t := by
  unfold step at h
  split at h
  · cases h
    exact hs
  · obtain ⟨u, began, kept⟩ := exec_followsFrom h
    exact keeps (begins (pending _ hs) began) kept

/-- Settles O5: a write lands in canonical form, and nothing else touches the memory. -/
theorem stepKeepsMemoryCanonical : Obligations.StepKeepsMemoryCanonical := by
  intro s t hs h
  refine step_keeps (P := fun s => s.mem.wf = true) hs h (fun _ => id) ?_ fun wf kept => kept.mem ▸ wf
  intro s u c wf began
  cases began with
  | here => exact wf
  | completion => exact finishOp_wf _ wf
  | cutOff _ torn => exact tornMemory_wf wf torn

/-- Settles O6. -/
theorem stepKeepsBounds : Obligations.StepKeepsBounds := by
  intro s t hs h
  refine step_keeps (P := State.bounded) hs h (fun _ => id) ?_ ?_
  · intro s u c bounded began
    cases began with
    | here => exact bounded
    | completion => exact bounded
    | cutOff => exact ⟨Nat.zero_le _, Nat.zero_le _, Nat.zero_le _⟩
  · rintro u t ⟨room, records, aging⟩ kept
    exact ⟨kept.room room, kept.records records, kept.aging aging⟩

/-- Settles O7. -/
theorem stepKeepsTableLawful : Obligations.StepKeepsTableLawful := by
  intro s t hs h
  refine step_keeps (P := fun s => s.table.lawful) hs h (fun _ => id) ?_ fun lawful kept => kept.table lawful
  intro s u c lawful began
  cases began with
  | here => exact lawful
  | completion => exact lawful
  | cutOff => exact empty_lawful _ _

/-- Settles O9: what enters the queue comes from a write cycle that may post it. -/
theorem stepKeepsDrainingGatesOpen : Obligations.StepKeepsDrainingGatesOpen := by
  intro s t entries cycle h
  refine step_keeps (P := State.fit) ⟨entries, cycle⟩ h (fun _ => id) ?_ fun fit kept => kept.fit fit
  intro s u c fit began
  cases began with
  | here => exact fit
  | completion => exact fit
  | cutOff => exact ⟨by simp [State.resetBy, State.volatileReset, State.setPort, State.setPins, State.setEvents, State.setMem,
      PostingQueue.reset], cycleLawful_of_noCycle rfl⟩

/-- Settles O2: no beginning and no effect reads or writes the waiting commands. -/
theorem execKeepsWaitingCommands : Obligations.ExecKeepsWaitingCommands := by
  intro s c t h
  obtain ⟨u, began, kept⟩ := exec_followsFrom h
  rw [kept.pending]
  cases began <;> rfl

end Sys2Proof.Machine
end

section
/-! What writes leave of a byte, whatever form the memory has: only the write at its own address counts, for the beats of an
operation go up through the addresses. And the commands that stop. -/

namespace Sys2Proof.Machine

/-! ### One write among others -/

/-- A write changes no byte at another address. -/
theorem Memory.read_write_ne {m : Memory} {a x : Nat} (b : Byte) (h : x ≠ a) : (m.write a b).read x = m.read x := by
  induction m with
  | nil =>
    simp only [Memory.write]
    split
    · rfl
    · rw [Memory.read_cons, if_neg h]
  | cons d rest ih =>
    obtain ⟨k, v⟩ := d
    simp only [Memory.write]
    split
    · split
      · rfl
      · rw [Memory.read_cons, if_neg h]
    · split
      · subst a
        split
        · rw [Memory.read_cons, if_neg h]
        · rw [Memory.read_cons, Memory.read_cons, if_neg h, if_neg h]
      · rw [Memory.read_cons, Memory.read_cons, ih]

/-- What a write leaves at its address does not turn on a write below it. -/
theorem Memory.read_write_above {m : Memory} {a x : Nat} (b c : Byte) (h : x < a) :
    ((m.write x c).write a b).read a = (m.write a b).read a := by
  have skips : ∀ (k : Nat) (v : Byte) (rest : Memory), k < a →
      Memory.read (Memory.write ((k, v) :: rest) a b) a = (rest.write a b).read a := by
    intro k v rest hk
    rw [Memory.write, if_neg (by omega), if_neg (by omega), Memory.read_cons, if_neg (by omega)]
  induction m with
  | nil =>
    rw [show Memory.write [] x c = if c = Config.freshByte then [] else [(x, c)] from rfl]
    split
    · rfl
    · exact skips x c [] h
  | cons d rest ih =>
    obtain ⟨k, v⟩ := d
    rw [show Memory.write ((k, v) :: rest) x c = if x < k then (if c = Config.freshByte then (k, v) :: rest
      else (x, c) :: (k, v) :: rest) else if x = k then (if c = Config.freshByte then rest else (x, c) :: rest)
        else (k, v) :: Memory.write rest x c from rfl]
    split
    · split
      · rfl
      · exact skips x c _ h
    · split
      · subst x
        rw [skips k v rest h]
        split
        · rfl
        · exact skips k c rest h
      · rw [skips k v rest (by omega), skips k v _ (by omega), ih]

/-! ### The bytes of a write in their order -/

/-- Bytes stored one after the other. -/
def Memory.store (m : Memory) (cells : List Host.Cell) : Memory := cells.foldl (fun m c => m.write c.1 c.2) m

/-- The byte a lane stores at its address, where it is strobed. -/
def laneCell (a : Nat) (b : Option Byte) : List Host.Cell := b.toList.map fun v => (a, v)

/-- The bytes a beat stores. -/
def wordCells (w : Nat) (d : LaneData) : List Host.Cell :=
  laneCell (4 * w) d.b0 ++ laneCell (4 * w + 1) d.b1 ++ laneCell (4 * w + 2) d.b2 ++ laneCell (4 * w + 3) d.b3

/-- The bytes the beats of a write store. -/
def beatCells (w : Nat) : List LaneData → List Host.Cell
  | [] => []
  | d :: rest => wordCells w d ++ beatCells (w + 1) rest

theorem Memory.store_append (m : Memory) (cs ds : List Host.Cell) : m.store (cs ++ ds) = (m.store cs).store ds :=
  List.foldl_append

theorem Memory.writeLane_eq (m : Memory) (a : Nat) (b : Option Byte) : m.writeLane a b = m.store (laneCell a b) := by
  cases b <;> rfl

theorem Memory.writeWord_eq (m : Memory) (w : Nat) (d : LaneData) : m.writeWord w d = m.store (wordCells w d) := by
  simp only [Memory.writeWord, Memory.writeLane_eq, wordCells, Memory.store_append]

/-- The beats of a write store their bytes in turn (R152). -/
theorem Memory.writeBeats_eq (m : Memory) (w : Nat) (ds : List LaneData) : m.writeBeats w ds = m.store (beatCells w ds) := by
  induction ds generalizing m w with
  | nil => rfl
  | cons d rest ih => rw [Memory.writeBeats, ih, Memory.writeWord_eq, beatCells, Memory.store_append]

theorem mem_laneCell {a : Nat} {b : Option Byte} {c : Host.Cell} : c ∈ laneCell a b ↔ c.1 = a ∧ b = some c.2 := by
  obtain ⟨x, v⟩ := c
  cases b with
  | none => simp [laneCell]
  | some u => simp [laneCell, eq_comm]

theorem mem_wordCells {w : Nat} {d : LaneData} {c : Host.Cell} (h : c ∈ wordCells w d) : 4 * w ≤ c.1 ∧ c.1 < 4 * w + 4 := by
  simp only [wordCells, List.mem_append, mem_laneCell] at h
  omega

theorem laneCell_pairwise (a : Nat) (b : Option Byte) : (laneCell a b).Pairwise fun c d => c.1 < d.1 := by
  cases b <;> simp [laneCell]

theorem wordCells_pairwise (w : Nat) (d : LaneData) : (wordCells w d).Pairwise fun c d => c.1 < d.1 := by
  simp only [wordCells, List.pairwise_append, laneCell_pairwise, List.mem_append, mem_laneCell, true_and]
  refine ⟨⟨fun c hc e he => by omega, fun c hc e he => by omega⟩, fun c hc e he => by omega⟩

/-- A write stores within its own words. -/
theorem mem_beatCells {w : Nat} {ds : List LaneData} {c : Host.Cell} (h : c ∈ beatCells w ds) :
    4 * w ≤ c.1 ∧ c.1 < 4 * (w + ds.length) := by
  induction ds generalizing w with
  | nil => cases h
  | cons d rest ih =>
    rw [List.length_cons]
    rcases List.mem_append.1 h with h | h
    · have := mem_wordCells h
      omega
    · have := ih h
      omega

/-- And goes up through the addresses (R152). -/
theorem beatCells_pairwise (w : Nat) (ds : List LaneData) : (beatCells w ds).Pairwise fun c d => c.1 < d.1 := by
  induction ds generalizing w with
  | nil => exact .nil
  | cons d rest ih =>
    refine List.pairwise_append.2 ⟨wordCells_pairwise w d, ih _, fun c hc e he => ?_⟩
    have := mem_wordCells hc
    have := mem_beatCells he
    omega

/-- A byte that no store names is as it was. -/
theorem Memory.read_store_unnamed {m : Memory} {cells : List Host.Cell} {a : Nat} (h : ∀ c ∈ cells, c.1 ≠ a) :
    (m.store cells).read a = m.read a := by
  induction cells generalizing m with
  | nil => rfl
  | cons c rest ih =>
    have later : ((m.write c.1 c.2).store rest).read a = (m.write c.1 c.2).read a :=
      ih fun d hd => h d (List.mem_cons_of_mem _ hd)
    have first : c.1 ≠ a := h c (by simp)
    exact later.trans (Memory.read_write_ne _ (Ne.symm first))

/-- Of rising stores, the one at an address alone says what it reads. -/
theorem Memory.read_store_named {m : Memory} {cells : List Host.Cell} {a : Nat} {b : Byte}
    (rising : cells.Pairwise fun c d => c.1 < d.1) (h : (a, b) ∈ cells) : (m.store cells).read a = (m.write a b).read a := by
  induction cells generalizing m with
  | nil => cases h
  | cons c rest ih =>
    obtain ⟨above, rising⟩ := List.pairwise_cons.1 rising
    rcases List.mem_cons.1 h with rfl | h
    · exact Memory.read_store_unnamed (m := m.write a b) fun d hd => by have := above d hd; omega
    · exact (ih (m := m.write c.1 c.2) rising h).trans (Memory.read_write_above _ _ (above _ h))

/-! ### Torn writes -/

theorem tornBeats_length (tear : List Lanes) (ds : List LaneData) : (tornBeats tear ds).length ≤ ds.length := by
  induction tear generalizing ds with
  | nil => simp [tornBeats]
  | cons l ls ih =>
    cases ds with
    | nil => simp [tornBeats]
    | cons d rest => simpa [tornBeats] using ih rest

/-- A torn beat stores no byte but those of the beat (R136). -/
theorem wordCells_restrict {w : Nat} {l : Lanes} {d : LaneData} {c : Host.Cell}
    (h : c ∈ wordCells w (LaneData.restrict l d)) : c ∈ wordCells w d := by
  have lane : ∀ (p : Prop) [Decidable p] (b : Option Byte) (v : Byte), (if p then b else none) = some v → b = some v := by
    intro p _ b v
    split
    · exact id
    · exact nofun
  simp only [wordCells, LaneData.restrict, List.mem_append, mem_laneCell] at h ⊢
  rcases h with ((⟨at0, h⟩ | ⟨at1, h⟩) | ⟨at2, h⟩) | ⟨at3, h⟩
  · exact .inl (.inl (.inl ⟨at0, lane _ _ _ h⟩))
  · exact .inl (.inl (.inr ⟨at1, lane _ _ _ h⟩))
  · exact .inl (.inr ⟨at2, lane _ _ _ h⟩)
  · exact .inr ⟨at3, lane _ _ _ h⟩

theorem beatCells_tornBeats {w : Nat} {tear : List Lanes} {ds : List LaneData} {c : Host.Cell}
    (h : c ∈ beatCells w (tornBeats tear ds)) : c ∈ beatCells w ds := by
  induction tear generalizing w ds with
  | nil => cases h
  | cons l ls ih =>
    cases ds with
    | nil => cases h
    | cons d rest =>
      rcases List.mem_append.1 h with h | h
      · exact List.mem_append.2 (.inl (wordCells_restrict h))
      · exact List.mem_append.2 (.inr (ih h))

theorem stores_length (o : MemOp) : o.stores.length ≤ o.length := by
  unfold MemOp.stores
  split
  · exact List.length_take_le _ _
  · exact Nat.zero_le _

theorem isWrite_of_stores {o : MemOp} (h : o.stores ≠ []) : o.kind.isWrite = true := by
  by_contra read
  exact h (if_neg read)

/-- What a cut-off leaves: the memory, or the write in progress torn (R136). -/
theorem tornMemory_cases {s : State} {tear : List Lanes} {m : Memory} (h : s.tornMemory tear = some m) :
    m = s.mem ∨ ∃ o ∈ s.port.op, o.kind.isWrite = true ∧ m = s.mem.writeBeats o.start (tornBeats tear o.stores) := by
  unfold State.tornMemory at h
  split at h
  · cases h
    exact .inl rfl
  · rename_i o underway
    split at h
    · cases h
      exact .inl rfl
    · rename_i writes
      split at h
      · cases h
        exact .inr ⟨o, underway, isWrite_of_stores writes, rfl⟩
      · cases h

/-- A byte that the beats of a write change lies in its words. -/
theorem within_of_writeBeats {m : Memory} {w a : Nat} {ds : List LaneData} (h : (m.writeBeats w ds).read a ≠ m.read a) :
    4 * w ≤ a ∧ a < 4 * (w + ds.length) := by
  rw [Memory.writeBeats_eq] at h
  by_contra outside
  refine h (Memory.read_store_unnamed fun c hc => ?_)
  have := mem_beatCells hc
  omega

/-- Settles O19: a torn write stores some of the bytes of the write, each as the write would. -/
theorem cutOffTearsOnlyTheWrite : Obligations.CutOffTearsOnlyTheWrite := by
  intro s tear m a torn
  rcases tornMemory_cases torn with rfl | ⟨o, underway, write, rfl⟩
  · exact .inl rfl
  · by_cases named : ∃ b, (a, b) ∈ beatCells o.start (tornBeats tear o.stores)
    · obtain ⟨b, hb⟩ := named
      have whole := beatCells_tornBeats hb
      obtain ⟨low, high⟩ := mem_beatCells whole
      have := stores_length o
      refine .inr ⟨o, underway, write, ?_, low, by dsimp only at high; omega⟩
      rw [Memory.writeBeats_eq, Memory.writeBeats_eq, Memory.read_store_named (beatCells_pairwise ..) hb,
        Memory.read_store_named (beatCells_pairwise ..) whole]
    · refine .inl ?_
      rw [Memory.writeBeats_eq]
      refine Memory.read_store_unnamed fun c hc same => named ⟨c.2, ?_⟩
      rwa [← same]

/-- The commands that complete a write, each with its kind of operation ("Operations by requester" of 10). -/
theorem completes_write {c : Instr} {k : OpKind} (named : Instr.completes c = some k) (write : k.isWrite = true) :
    (k = .drainWrite ∧ c = .drainWriteComplete) ∨ (k = .recordWrite ∧ c = .recordWriteComplete)
      ∨ (k = .restoreWrite ∧ c = .restoreWriteComplete)
      ∨ (k = .headerWrite ∧ c ∈ (headerCompletions 0).map Prod.fst) := by
  cases c with
  | drainWriteComplete => cases named; exact .inl ⟨rfl, rfl⟩
  | recordWriteComplete => cases named; exact .inr (.inl ⟨rfl, rfl⟩)
  | restoreWriteComplete => cases named; exact .inr (.inr (.inl ⟨rfl, rfl⟩))
  | markWriteComplete | sealComplete | recoverySealComplete | clearingWriteComplete | formatWriteComplete =>
    cases named
    refine .inr (.inr (.inr ⟨rfl, ?_⟩))
    simp [headerCompletions]
  | preImageReadComplete | recordReadComplete | headerReadComplete | hostReadComplete => cases named; cases write
  | _ => cases named

/-- Settles O16: from its beginning on a command leaves the memory alone. -/
theorem memoryChangesOnlyByWritesInProgress : Obligations.MemoryChangesOnlyByWritesInProgress := by
  intro s c t a h changed
  obtain ⟨u, began, kept⟩ := exec_followsFrom h
  rw [kept.mem] at changed
  cases began with
  | here => exact absurd rfl changed
  | @completion o named underway =>
    have stores : (s.mem.writeBeats o.start o.stores).read a ≠ s.mem.read a := changed
    obtain ⟨low, high⟩ := within_of_writeBeats stores
    have := stores_length o
    have write : o.kind.isWrite = true := isWrite_of_stores fun none => by rw [none] at stores; exact stores rfl
    exact ⟨o, underway, write, low, by omega, .inr (completes_write named write)⟩
  | @cutOff tear m named torn =>
    have stores : m.read a ≠ s.mem.read a := changed
    rcases tornMemory_cases torn with rfl | ⟨o, underway, write, rfl⟩
    · exact absurd rfl stores
    · obtain ⟨low, high⟩ := within_of_writeBeats stores
      have := tornBeats_length tear o.stores
      have := stores_length o
      exact ⟨o, underway, write, low, by omega, .inl ⟨tear, named⟩⟩

/-! ### The commands that stop -/

/-- A command that names an operation's event is never refused, and faults on one past the memory alone (R2). -/
theorem onOperation_stops {s : State} {k : OpKind} (effect : MemOp → State) :
    (∀ r, s.onOperation k effect ≠ .refused r)
      ∧ (∀ r, s.onOperation k effect = .fault r → ∃ o ∈ s.port.op, s.size / 4 < o.start + o.length) := by
  unfold State.onOperation
  split
  · exact ⟨nofun, nofun⟩
  · rename_i beyond
    refine ⟨nofun, fun _ _ => ?_⟩
    unfold State.completing at beyond
    split at beyond
    · cases beyond
    · rename_i o underway
      split at beyond
      · split at beyond
        · cases beyond
        · rename_i outside
          refine ⟨o, underway, ?_⟩
          simpa [MemOp.inside, State.size] using outside
      · cases beyond
  · exact ⟨nofun, nofun⟩

theorem cutOff_stops (s : State) (tear : List Lanes) :
    (∀ r, s.cutOff tear ≠ .refused r)
      ∧ (∀ r, s.cutOff tear = .fault r → ∃ o ∈ s.port.op, s.size / 4 < o.start + o.length) := by
  unfold State.cutOff
  split
  · exact ⟨nofun, nofun⟩
  · rename_i none
    refine ⟨nofun, fun _ _ => ?_⟩
    unfold State.tornMemory at none
    split at none
    · cases none
    · rename_i o underway
      split at none
      · cases none
      · split at none
        · cases none
        · rename_i outside
          refine ⟨o, underway, ?_⟩
          simpa [MemOp.inside, State.size] using outside

/-- Settles O3: every other command answers. -/
theorem execStopsOnlyBeyondMemory : Obligations.ExecStopsOnlyBeyondMemory := by
  intro s c
  cases c with
  | resetnAssert tear => exact cutOff_stops s tear
  | supplyCollapse tear => exact cutOff_stops s tear
  | hostReadWordArrival | hostReadComplete | drainWriteComplete | preImageReadComplete | recordWriteComplete
  | markWriteComplete | sealComplete | recordReadComplete | restoreWriteComplete | headerReadComplete
  | recoverySealComplete | clearingWriteComplete | formatWriteComplete => exact onOperation_stops _
  | _ => exact ⟨nofun, nofun⟩

end Sys2Proof.Machine
end

section
/-! The statements of tier 1: the step, the reset, the cut-off, the release and the restart, the queue's and the table's own
operations, the handshake. -/

namespace Sys2Proof.Machine

/-! ### The step and the reset -/

/-- Settles O1. -/
theorem stepRunsFrontCommand : Obligations.StepRunsFrontCommand := by
  intro s c rest
  unfold step
  exact ⟨fun h => by rw [h], fun h => by rw [h]⟩

section Reset

set_option Elab.async false
set_option synthInstance.maxSize 4000

theorem reset_lawful : State.reset.Lawful := by constructor <;> decide +kernel

end Reset

/-- Settles O15: the state at reset is lawful. -/
theorem resetMeetsInvariants : Obligations.ResetMeetsInvariants := by
  have l := reset_lawful
  exact ⟨l.canonical, l.bounded, l.table, l.consistent, l.fits, l.entries, l.cycle, l.drainingFirst, l.drainMatches, l.ages,
    l.heldWrite, l.handshake, l.request, l.working, l.nothingDue, l.configured, l.addressed, l.contents, l.capture, l.engine,
    l.header, l.link, l.host, l.gates, l.port, l⟩

/-- Settles O18. -/
theorem cutOffResetsEverything : Obligations.CutOffResetsEverything := by
  intro s c tear m named torn
  have cuts : s.cutOff tear = .next (s.resetBy m) := by rw [State.cutOff, torn]
  rcases named with rfl | rfl
  · exact cuts
  · exact cuts

/-! ### The release and the restart -/

/-- The end of a start-up in FAULT answers a straddling request REFUSED, and has none to answer where EREQ is low (R78, R81). -/
theorem endStartUp_fault {s : State} (hf : s.ctl.state = .fault) (hl : s.ctl.lowSeen = false) (hr : s.ctl.remembered = none) :
    s.endStartUp = if s.pins.ereq then s.answers (Operation.ofEop s.pins.eop) .refused else s := by
  unfold State.endStartUp
  cases he : s.pins.ereq <;> simp [hl, hf, hr, driveAnswer_eq]

/-- A start-up begun with a legal strap code, everything volatile at its reset value (R1, R115). -/
theorem startUp_legal {u : State} {size : Nat} (hm : u.pins.msz.toNat < 7) (hs : size = 2 ^ (20 + u.pins.msz.toNat)) :
    u.cleared.startUp = { u.cleared with
      dec := ⟨some size, none, none⟩
      header := { HeaderUnit.reset with readRequest := some ⟨.a, true⟩ }
      port := ⟨some ⟨.headerRead, (size - 512) / 4, 64, [], 0⟩, BitVec.ofNat 24 ((size - 512) / 4), 0⟩ } := by
  have legal : u.cleared.pins.msz ≠ 7#3 := by
    intro h
    rw [show u.cleared.pins = u.pins from rfl] at h
    simp [h] at hm
  rw [State.startUp, sampleStrap_legal legal, hs]
  rfl

/-- With code 7 the strap sample ends the start-up in FAULT (R1, R81). -/
theorem sampleStrap_cleared {u : State} (hm : u.pins.msz = 7#3) :
    u.cleared.sampleStrap = { u.cleared with ctl := strapFault u.pins } := by
  have illegal : u.cleared.pins.msz = 7#3 := hm
  have pins : (u.cleared.enterFault .strap).pins = u.pins := rfl
  rw [sampleStrap_illegal illegal, endStartUp_fault rfl rfl rfl, pins]
  cases he : u.pins.ereq <;> simp [strapFault, he] <;> rfl

/-- And nothing is granted then. -/
theorem startUp_illegal {u : State} (hm : u.pins.msz = 7#3) : u.cleared.startUp = { u.cleared with ctl := strapFault u.pins } := by
  rw [State.startUp, sampleStrap_cleared hm]
  rfl

end Sys2Proof.Machine
end

section
namespace Sys2Proof.Machine

/-- What PARKED is entered with, taken apart (R132). -/
theorem parked_eq {u v : State} {e : BitVec 48} {d : DeviceState} (entered : u.entering .parked = v) (epoch : u.epochNumber = e)
    (left : u.ctl.parkedFrom = some d) : u.parked = v.raise .powerParked e (0#8 ++ 0#8 ++ 0#8 ++ d.code) := by
  unfold State.parked
  rw [entered, epoch, left]
  rfl

/-- PFW leaves nothing of a request that FAULT refused but the level of ERES (R128). -/
theorem strapFault_park (x : Pins) : (strapFault x).park = { EpochController.reset with
    state := .parking, parkedFrom := some .fault, eres := if x.ereq = true then .refused else .ok } := by
  unfold strapFault
  cases x.ereq <;> rfl

/-- PFW taken on the first sample in STARTING, everything volatile at its reset value (R127, R132). -/
theorem parkAtStart_cleared (u : State) (order : StartOrder) : u.cleared.parkAtStart order = u.cleared.parkedAtStart order := by
  have pins : u.cleared.pins = u.pins := rfl
  cases order with
  | pfwFirst =>
    rw [parkAtStart_pfwFirst, noteParked_eq]
    simp only [State.parkedAtStart, reduceCtorEq, false_and, decide_false, Bool.false_eq_true, if_false]
    exact parked_eq (d := .starting) rfl rfl rfl
  | strapFirst =>
    by_cases hm : u.pins.msz = 7#3
    · have parks : ({ u.cleared with ctl := strapFault u.pins } : State).enterParking
          = { u.cleared with ctl := (strapFault u.pins).park } := rfl
      rw [State.parkAtStart, sampleStrap_cleared hm, parks, strapFault_park, noteParked_eq]
      simp only [State.parkedAtStart, pins, hm, and_self, decide_true, true_and, if_true, ne_eq, not_true_eq_false,
        and_false, if_false]
      exact parked_eq (d := .fault) rfl rfl rfl
    · have legal : u.cleared.pins.msz ≠ 7#3 := hm
      have parks : ((u.cleared.setDec { u.cleared.dec with memorySize := some (2 ^ (20 + u.cleared.pins.msz.toNat)) }).setHeader
          { u.cleared.header with readRequest := some ⟨.a, false⟩ }).enterParking
            = { u.cleared with
                dec := ⟨some (2 ^ (20 + u.pins.msz.toNat)), none, none⟩, ctl := EpochController.reset.park } := rfl
      rw [State.parkAtStart, sampleStrap_legal legal, parks, noteParked_eq]
      simp only [State.parkedAtStart, pins, hm, and_false, decide_false, ne_eq, not_false_eq_true, and_self, if_true,
        Bool.false_eq_true, false_and, if_false]
      exact parked_eq (d := .starting) rfl rfl rfl

/-- While RESETN is asserted there is nothing to clear (R134). -/
theorem cleared_of_heldInReset {s : State} (x : Pins) (low : s.pins.resetLow = true) (held : s.heldInReset) :
    (s.setPins x).cleared = s.setPins x := by
  rw [held low]
  rfl

/-- Settles O20. -/
theorem releaseStartsUp : Obligations.ReleaseStartsUp := by
  intro s msz order size low held
  have releases : exec (.resetnRelease ⟨msz, order⟩) s
      = .next (if s.pins.pfw then (s.setPins { s.pins with resetLow := false, msz := msz }).parkAtStart order
        else (s.setPins { s.pins with resetLow := false, msz := msz }).startUp) := by
    show Host.Outcome.next _ = _
    rw [if_pos low]
  have cleared := cleared_of_heldInReset { s.pins with resetLow := false, msz := msz } low held
  refine ⟨fun released => ?_, fun asserted => ?_⟩
  · rw [releases, if_neg (by simp [released]), ← cleared]
    refine ⟨fun legal hs => ?_, fun illegal => ?_⟩
    · rw [startUp_legal legal hs, cleared]
      rfl
    · rw [startUp_illegal illegal, cleared]
      rfl
  · rw [releases, if_pos asserted, ← cleared, parkAtStart_cleared]

/-- What a restart begins with (R133). -/
theorem volatileReset_eq (s : State) : s.volatileReset = s.cleared := rfl

/-- Settles O21. -/
theorem restartBeginsInParkedOnly : Obligations.RestartBeginsInParkedOnly := by
  intro s msz again order size released
  have restarts : ∀ again, exec (.restart ⟨msz, again⟩) s
      = .next (if s.ctl.state = .parked then (s.setPins { s.pins with pfw := false, msz := msz }).beginRestart again
        else if s.ctl.state = .parking then { s with
          pins := { s.pins with pfw := false, msz := msz }, ctl := { s.ctl with again := again } }
        else { s with pins := { s.pins with pfw := false, msz := msz } }) := by
    intro again
    show Host.Outcome.next _ = _
    rw [if_neg (by simp [released])]
    rfl
  refine ⟨fun parked parking => ?_, fun parking => ?_, fun parked legal hs => ?_, fun parked illegal => ?_, fun parked => ?_⟩
  · rw [restarts, if_neg parked, if_neg parking]
  · rw [restarts, if_neg (by simp [parking]), if_pos parking]
  · rw [restarts, if_pos parked]
    exact congrArg Host.Outcome.next (startUp_legal legal hs)
  · rw [restarts, if_pos parked]
    exact congrArg Host.Outcome.next (startUp_illegal illegal)
  · rw [restarts, if_pos parked]
    exact congrArg Host.Outcome.next (parkAtStart_cleared (s.setPins { s.pins with pfw := true, msz := msz }) order)

end Sys2Proof.Machine
end

section
/-! The queue's, the table's and the host read's own operations, and the handshake's answers (tier 1). -/

namespace Sys2Proof.Machine

/-! ### The posting queue -/

theorem mergeNewest_append (d : LaneData) (front : List QueueEntry) (e : QueueEntry) :
    mergeNewest d (front ++ [e]) = front ++ [{ e with lanes := LaneData.over d e.lanes }] := by
  induction front with
  | nil => rfl
  | cons f rest ih =>
    cases rest with
    | nil => rfl
    | cons g rest => exact congrArg (f :: ·) ih

/-- The newest entry merges a beat of its word and its gate while it is not draining (R59). -/
theorem merges_newest {q : PostingQueue} {front : List QueueEntry} {e : QueueEntry} (word : Nat) (gate : Gate)
    (h : q.entries = front ++ [e]) : q.merges word gate = decide (e.word = word ∧ e.draining = false ∧ e.gate = gate) := by
  unfold PostingQueue.merges
  rw [h, List.getLast?_append, List.getLast?_singleton, Bool.eq_iff_iff]
  simp [and_assoc]

/-- Settles O30. -/
theorem queueMergesOrAppends : Obligations.QueueMergesOrAppends := by
  intro q front e word data cls gate
  refine ⟨fun empty => ?_, fun newest same => ?_, fun newest other => ?_⟩
  · have merges : q.merges word gate = false := by simp [PostingQueue.merges, empty]
    simp [PostingQueue.accepts, PostingQueue.enqueue, merges, empty, Config.queueDepth]
  · have merges : q.merges word gate = true := by rw [merges_newest word gate newest]; exact decide_eq_true same
    simp [PostingQueue.accepts, PostingQueue.enqueue, merges, newest, mergeNewest_append]
  · have merges : q.merges word gate = false := by rw [merges_newest word gate newest]; exact decide_eq_false other
    exact ⟨by simp [PostingQueue.accepts, merges, Config.queueDepth]; congr, by simp [PostingQueue.enqueue, merges]⟩

/-! ### The granule table -/

/-- The oldest LOGGED entry is evicted from behind the CAPTURING ones (R41). -/
theorem evictOldest_found {older newer : List TableEntry} {gone : TableEntry} (h : gone.state = .logged)
    (hc : ∀ e ∈ older, e.state = .capturing) : evictOldest (older ++ gone :: newer) = older ++ newer := by
  induction older with
  | nil => exact if_pos h
  | cons e rest ih =>
    have capturing : ¬e.state = .logged := by simp [hc e (by simp)]
    refine (if_neg capturing).trans (congrArg (e :: ·) (ih fun f hf => hc f (List.mem_cons_of_mem _ hf)))

/-- Settles O33. -/
theorem admissionAppendsAndEvicts : Obligations.AdmissionAppendsAndEvicts := by
  intro table granule older newer gone
  refine ⟨rfl, fun room => ?_, fun full parts logged capturing => ?_⟩
  · simp [GranuleTable.enrol, Config.tableDepth, Nat.not_le.2 room]
  · have evicts : Config.tableDepth ≤ table.entries.length := full
    simp only [GranuleTable.enrol, if_pos evicts]
    rw [parts, evictOldest_found logged capturing]

/-! ### The words of a host read -/

/-- Settles O39, by induction on the room. -/
theorem hostReadStopsAtQueuedWord : Obligations.HostReadStopsAtQueuedWord := by
  intro q word room
  induction room generalizing word with
  | zero =>
    intro k
    exact ⟨Nat.le_refl _, fun h => absurd h (Nat.not_lt_zero k), fun h => absurd h (Nat.lt_irrefl 0)⟩
  | succ n ih =>
    intro k
    by_cases free : (q.matching word).isEmpty = true
    · have next : q.freeRun word (n + 1) = 1 + q.freeRun (word + 1) n := if_pos free
      obtain ⟨within, -, stops⟩ := ih (word + 1) 0
      rw [next]
      refine ⟨by omega, fun hk => ?_, fun ends => ?_⟩
      · cases k with
        | zero => exact List.isEmpty_iff.1 free
        | succ k =>
          obtain ⟨-, unqueued, -⟩ := ih (word + 1) k
          rw [show word + (k + 1) = word + 1 + k by omega]
          exact unqueued (by omega)
      · rw [show word + (1 + q.freeRun (word + 1) n) = word + 1 + q.freeRun (word + 1) n by omega]
        exact stops (by omega)
    · have stop : q.freeRun word (n + 1) = 0 := if_neg free
      rw [stop]
      refine ⟨Nat.zero_le _, fun hk => absurd hk (Nat.not_lt_zero k), fun _ => ?_⟩
      simpa [List.isEmpty_iff] using free

/-! ### The handshake -/

/-- With no request remembered a low sample finds the level seen low, and the answer or the phase decides the rest (R79, R80). -/
theorem ereqLow_eq {s : State} (unasked : s.ctl.remembered = none) :
    s.ereqLow = match s.ctl.answer with
      | some a => (s.seenLow.recordResult a).setCtl { (s.seenLow.recordResult a).ctl with phase := .idle }
      | none => match s.ctl.phase with
        | .working => s.seenLow.setCtl { s.seenLow.ctl with
            phase := .idle, pendingRequest := s.ctl.pendingRequest.map (fun r => { r with abandoned := true }) }
        | .answered => s.seenLow.setCtl { s.seenLow.ctl with phase := .idle, eack := false }
        | .idle => s.seenLow := by
  obtain ⟨_, _, _, _, _, _, ⟨_, _, _, phase, _, _, _, _, _, _, _, answer, _⟩, _, _, _, _, _, _, _, _⟩ := s
  obtain rfl := unasked
  cases answer with
  | some a => rfl
  | none => cases phase <;> rfl

/-- An event raised and a change of the controller are made in either order (R172). -/
theorem raise_setCtl (s : State) (k : EventKind) (e : BitVec 48) (d : BitVec 32) (x : EpochController) :
    (s.raise k e d).setCtl x = (s.setCtl x).raise k e d := by
  by_cases room : s.events.records.length < 16
  · rw [raise_joins room, raise_joins (s := s.setCtl x) room]
    rfl
  · rw [raise_lost (Nat.not_lt.1 room), raise_lost (s := s.setCtl x) (Nat.not_lt.1 room)]
    rfl

/-- A remembered request is forgotten with REQUEST_ABANDONED (R77). -/
theorem ereqLow_forgets {s : State} {op : Operation} (asked : s.ctl.remembered = some op) (noAnswer : s.ctl.answer = none)
    (idle : s.ctl.phase = .idle) : s.ereqLow = (s.seenLow.setCtl { s.seenLow.ctl with remembered := none }).raise
      .requestAbandoned s.epochNumber (0#8 ++ 0#8 ++ op.code ++ 0xFF#8) := by
  rw [← raise_setCtl]
  unfold State.ereqLow
  simp only [setCtl_ctl, setPins_ctl, asked, raise_keeps, noAnswer, idle]
  simp only [State.seenLow, setCtl_ctl, asked, noAnswer, idle]
  rfl

/-- Settles O46. -/
theorem acknowledgeAndFall : Obligations.AcknowledgeAndFall := by
  intro s a op r released
  have falls : exec .ereqFall s = .next s.ereqLow := congrArg Host.Outcome.next (if_neg (by simp [released]))
  refine ⟨fun answer => ⟨?_, fun none c hc => ?_⟩, fun answer working none request => ?_, fun answer answered none => ?_,
    fun answer idle none => ?_, fun answer idle some => ?_⟩
  · show execAnswerAck true s = _
    simp only [execAnswerAck, answer]
    rfl
  · have low := ereqLow_eq none
    simp only [answer, recordResult_eq] at low
    simp only [List.mem_cons, List.not_mem_nil, or_false] at hc
    rcases hc with rfl | rfl
    · rw [← low]
      show execAnswerAck false s = _
      simp [execAnswerAck, answer]
    · rw [falls, low]
  · rw [falls, ereqLow_eq none, answer, working, request]
    rfl
  · rw [falls, ereqLow_eq none, answer, answered]
  · rw [falls, ereqLow_eq none, answer, idle]
  · rw [falls, ereqLow_forgets some answer idle]

end Sys2Proof.Machine
end

section
/-! The bytes of the management link (chapter 11): what they spell, and what the link's commands answer. -/

namespace Sys2Proof.Machine

/-! ### The commands and their bytes -/

theorem bytes32_spell (v : BitVec 32) :
    v.extractLsb' 24 8 ++ v.extractLsb' 16 8 ++ v.extractLsb' 8 8 ++ v.extractLsb' 0 8 = v := by
  calc v.extractLsb' 24 8 ++ v.extractLsb' 16 8 ++ v.extractLsb' 8 8 ++ v.extractLsb' 0 8
      = v.extractLsb' 16 16 ++ v.extractLsb' 8 8 ++ v.extractLsb' 0 8 := by
        rw [BitVec.extractLsb'_append_extractLsb'_eq_extractLsb' (x := v) (start₁ := 16) (len₁ := 8) rfl]
    _ = v.extractLsb' 8 24 ++ v.extractLsb' 0 8 := by
        rw [BitVec.extractLsb'_append_extractLsb'_eq_extractLsb' (x := v) (start₁ := 8) (len₁ := 8) rfl]
    _ = v := BitVec.extractLsb'_append_extractLsb' (w := 24) (len := 8)

theorem bytes16_append (b1 b0 : Byte) : bytes16 (b1 ++ b0) = [b1, b0] := by
  unfold bytes16
  rw [BitVec.extractLsb'_append_eq_left, BitVec.extractLsb'_append_eq_right]

theorem bytes32_append (b3 b2 b1 b0 : Byte) : bytes32 (b3 ++ b2 ++ b1 ++ b0) = [b3, b2, b1, b0] := by
  have upper : ∀ k, (b3 ++ b2 ++ b1 ++ b0).extractLsb' (8 + k) 8 = (b3 ++ b2 ++ b1).extractLsb' k 8 := fun k => by
    rw [BitVec.extractLsb'_append_eq_of_le (by omega), Nat.add_sub_cancel_left]
  have middle : ∀ k, (b3 ++ b2 ++ b1).extractLsb' (8 + k) 8 = (b3 ++ b2).extractLsb' k 8 := fun k => by
    rw [BitVec.extractLsb'_append_eq_of_le (by omega), Nat.add_sub_cancel_left]
  unfold bytes32
  rw [upper 16, upper 8, upper 0, middle 8, middle 0, BitVec.extractLsb'_append_eq_left, BitVec.extractLsb'_append_eq_right,
    BitVec.extractLsb'_append_eq_right, BitVec.extractLsb'_append_eq_right]

/-- The bytes of a staged region, log and format, from the bytes of their arguments (R176). -/
theorem linkBytes_stageRegion (i p c b1 b0 l1 l0 : Byte) :
    linkBytes (.stageRegion i p c (b1 ++ b0) (l1 ++ l0)) = some [0x10#8, i, p, c, b1, b0, l1, l0] := by
  show some ([0x10#8, i, p, c] ++ bytes16 (b1 ++ b0) ++ bytes16 (l1 ++ l0)) = _
  rw [bytes16_append, bytes16_append]
  rfl

theorem linkBytes_stageLog (n1 n0 p w : Byte) : linkBytes (.stageLog (n1 ++ n0) p w) = some [0x11#8, n1, n0, p, w] := by
  show some ([0x11#8] ++ bytes16 (n1 ++ n0) ++ [p, w]) = _
  rw [bytes16_append]
  rfl

theorem linkBytes_format (f3 f2 f1 f0 : Byte) : linkBytes (.format (f3 ++ f2 ++ f1 ++ f0)) = some [0x30#8, f3, f2, f1, f0] := by
  show some (0x30#8 :: bytes32 (f3 ++ f2 ++ f1 ++ f0)) = _
  rw [bytes32_append]

/-- A byte R165 does not name is an unknown command's. -/
theorem linkCommand_unnamed {code : Byte} (h : code ∉ namedCommandBytes) : linkCommand [code] = some (.unknownCommand code) := by
  simp only [namedCommandBytes, List.mem_cons, List.not_mem_nil, or_false, not_or] at h
  obtain ⟨h1, h2, h3, h4, h10, h11, h20, h21, h30⟩ := h
  simp [linkCommand, argumentCount, *]

/-- A byte it names is not. -/
theorem linkCommand_named : ∀ code ∈ namedCommandBytes, linkCommand [code] ≠ some (.unknownCommand code) := by decide

/-- What a link command travels as is read back as the command (R165, R176). -/
theorem linkCommand_linkBytes {c : Instr} {bytes : List Byte} (wf : c.wf = true) (h : linkBytes c = some bytes) :
    linkCommand bytes = some c := by
  cases c
  case stageRegion index present cls base length =>
    obtain rfl := Option.some.inj h
    show some (Instr.stageRegion index present cls _ _) = _
    rw [BitVec.extractLsb'_append_extractLsb', BitVec.extractLsb'_append_extractLsb']
  case stageLog capacity policy watermark =>
    obtain rfl := Option.some.inj h
    show some (Instr.stageLog _ policy watermark) = _
    rw [BitVec.extractLsb'_append_extractLsb']
  case format number =>
    obtain rfl := Option.some.inj h
    show some (Instr.format _) = _
    rw [bytes32_spell]
  case unknownCommand code =>
    obtain rfl := Option.some.inj h
    exact linkCommand_unnamed (by simpa [Instr.wf] using wf)
  case getStatus | popEvent | getActive | getStaged | apply | unstage =>
    obtain rfl := Option.some.inj h
    rfl
  all_goals cases h

/-- What the bytes of a frame spell travels as those bytes (R165, R176). -/
theorem linkBytes_linkCommand {bytes : List Byte} {d : Instr} (h : linkCommand bytes = some d) :
    linkBytes d = some bytes ∧ d.wf = true := by
  cases bytes with
  | nil => cases h
  | cons code args =>
    have counted : args.length = argumentCount code := by
      by_contra other
      simp [linkCommand, other] at h
    simp only [linkCommand, if_neg (not_not.2 counted)] at h
    by_cases single : code ∈ [0x01#8, 0x02#8, 0x03#8, 0x04#8, 0x20#8, 0x21#8]
    · simp only [List.mem_cons, List.not_mem_nil, or_false] at single
      rcases single with rfl | rfl | rfl | rfl | rfl | rfl <;>
        (obtain rfl := List.length_eq_zero_iff.1 counted; obtain rfl := Option.some.inj h; exact ⟨rfl, rfl⟩)
    simp only [List.mem_cons, List.not_mem_nil, or_false, not_or] at single
    obtain ⟨h1, h2, h3, h4, h20, h21⟩ := single
    rw [if_neg h1, if_neg h2, if_neg h3, if_neg h4, if_neg h20, if_neg h21] at h
    split at h
    · rename_i region
      subst region
      split at h
      · obtain rfl := Option.some.inj h
        exact ⟨linkBytes_stageRegion .., rfl⟩
      · cases h
    · split at h
      · rename_i log
        subst log
        split at h
        · obtain rfl := Option.some.inj h
          exact ⟨linkBytes_stageLog .., rfl⟩
        · cases h
      · split at h
        · rename_i format
          subst format
          split at h
          · obtain rfl := Option.some.inj h
            exact ⟨linkBytes_format .., rfl⟩
          · cases h
        · rename_i h10 h11 h30
          obtain rfl := Option.some.inj h
          have noArguments : args = [] := List.length_eq_zero_iff.1 (counted.trans (by simp [argumentCount, *]))
          subst noArguments
          exact ⟨rfl, by simp [Instr.wf, namedCommandBytes, *]⟩

/-- Settles O4. -/
theorem linkCommandsReadBack : Obligations.LinkCommandsReadBack := by
  intro c bytes wf
  refine ⟨fun travels => ?_, fun d spelled => linkBytes_linkCommand spelled⟩
  have back := linkCommand_linkBytes wf travels
  exact ⟨back, decodeTableWord_bytes back⟩

/-! ### Numbers and bytes -/

@[simp] theorem be_length (n v : Nat) : (be n v).length = n := by
  induction n with
  | zero => rfl
  | succ n ih => exact congrArg (· + 1) ih

theorem ofBe_foldl (bs : List Byte) (acc : Nat) :
    bs.foldl (fun a b => a * 256 + b.toNat) acc = acc * 256 ^ bs.length + ofBe bs := by
  induction bs generalizing acc with
  | nil => simp [ofBe]
  | cons b rest ih =>
    have first : ofBe (b :: rest) = b.toNat * 256 ^ rest.length + ofBe rest := by
      have := ih (0 * 256 + b.toNat)
      simpa [ofBe] using this
    rw [List.foldl_cons, ih, first, List.length_cons, Nat.pow_succ]
    ring

/-- The number bytes spell, its first byte apart. -/
theorem ofBe_cons (b : Byte) (rest : List Byte) : ofBe (b :: rest) = b.toNat * 256 ^ rest.length + ofBe rest := by
  have := ofBe_foldl rest (0 * 256 + b.toNat)
  simpa [ofBe] using this

/-- The bytes of a number spell it, as far as they reach. -/
theorem ofBe_be (n v : Nat) : ofBe (be n v) = v % 256 ^ n := by
  induction n with
  | zero => simp [be, ofBe, Nat.mod_one]
  | succ n ih =>
    show ofBe (BitVec.ofNat 8 (v >>> (8 * n)) :: be n v) = _
    have shifted : v >>> (8 * n) = v / 256 ^ n := by rw [Nat.shiftRight_eq_div_pow, Nat.pow_mul]
    rw [ofBe_cons, be_length, ih, BitVec.toNat_ofNat, shifted, Nat.pow_succ 256, Nat.mod_mul (x := v)]
    ring

theorem ofBe_lt (bs : List Byte) : ofBe bs < 256 ^ bs.length := by
  induction bs with
  | nil => simp [ofBe]
  | cons b rest ih =>
    rw [ofBe_cons, List.length_cons, Nat.pow_succ]
    have := b.isLt
    calc b.toNat * 256 ^ rest.length + ofBe rest < b.toNat * 256 ^ rest.length + 256 ^ rest.length := by omega
      _ = (b.toNat + 1) * 256 ^ rest.length := by ring
      _ ≤ 256 * 256 ^ rest.length := Nat.mul_le_mul_right _ (by omega)
      _ = 256 ^ rest.length * 256 := Nat.mul_comm _ _

theorem be16 (v : BitVec 16) : be 2 v.toNat = bytes16 v := rfl

theorem be32 (v : BitVec 32) : be 4 v.toNat = bytes32 v := rfl

end Sys2Proof.Machine
end

section
namespace Sys2Proof.Machine

/-! ### Events and frames -/

/-- Settles O58. -/
theorem eventsPoppedInFrames : Obligations.EventsPoppedInFrames := by
  intro s e rest released
  have receives : s.link.phase = .receiving → s.linkReceiving = true := fun h => by simp [State.linkReceiving, released, h]
  have removal : s.link.phase = .responding → s.link.command = [0x02#8] →
      execPopEventRemoval s = .next (let t := s.setLink { s.link with phase := .spent, byteCount := 15, pendingRemoval := false }
        if s.link.pendingRemoval then t.setEvents { t.events with records := t.events.records.drop 1 } else t) :=
    fun phase command => congrArg Host.Outcome.next (if_pos ⟨by simp [released], phase, command⟩)
  refine ⟨fun phase records => ?_, fun phase records => ?_, fun phase command waits records => ?_,
    fun phase command kept => ?_, ?_, fun high => ?_⟩
  · rw [show exec .popEvent s = execPopEvent s from rfl, execPopEvent,
      onLink_taken (sent := [0x02#8]) _ rfl rfl (receives phase), records]
    rfl
  · rw [show exec .popEvent s = execPopEvent s from rfl, execPopEvent,
      onLink_taken (sent := [0x02#8]) _ rfl rfl (receives phase), records]
    exact congrArg (fun l => Host.Outcome.next (State.setEvents _ ⟨l, false⟩)) records
  · refine (removal phase command).trans ?_
    simp only [waits]
    simp [records]
  · refine (removal phase command).trans ?_
    simp [kept]
  · exact congrArg Host.Outcome.next (if_neg (by simp [released]))
  · exact congrArg Host.Outcome.next ((if_neg (by simp [high])).trans (if_neg (by simp [released])))

/-! ### Staging -/

/-- The entry of an index below 8 is replaced, and no other (R166). -/
theorem setEntry_toList (t : RegionTable) {i : Nat} (e : RegionEntry) (h : i < 8) :
    (t.setEntry i e).toList = t.toList.set i e := by
  interval_cases i <;> rfl

theorem staging_iff (d : DeviceState) :
    d.staging = true ↔ d ∈ [DeviceState.unformatted, .fault, .opened, .draining, .rollingBack, .sealing] := by
  cases d <;> decide

theorem applying_iff (d : DeviceState) : d.applying = true ↔ d ∈ [DeviceState.opened, .draining, .rollingBack, .sealing] := by
  cases d <;> decide

/-- Settles O59. -/
theorem stagingCarriedOut : Obligations.StagingCarriedOut := by
  intro s index present cls base length capacity policy watermark c receiving
  have region : exec (.stageRegion index present cls base length) s = .next
      (if !s.ctl.state.staging then s.responds ([0x10#8, index, present, cls] ++ bytes16 base ++ bytes16 length) [0x02#8]
      else if 8 ≤ index.toNat then s.responds ([0x10#8, index, present, cls] ++ bytes16 base ++ bytes16 length) [0x03#8]
      else (s.responds ([0x10#8, index, present, cls] ++ bytes16 base ++ bytes16 length) [0x01#8]).staging { s.link.staged with
        regions := s.link.staged.regions.setEntry index.toNat ⟨present, cls, base, length⟩ }) := by
    show execStageRegion index present cls base length s = _
    rw [execStageRegion, onLink_taken _ rfl (linkCommand_linkBytes rfl rfl) receiving]
    rfl
  have log : exec (.stageLog capacity policy watermark) s = .next
      (if !s.ctl.state.staging then s.responds ([0x11#8] ++ bytes16 capacity ++ [policy, watermark]) [0x02#8]
      else (s.responds ([0x11#8] ++ bytes16 capacity ++ [policy, watermark]) [0x01#8]).staging
        ⟨policy, watermark, capacity, s.link.staged.regions⟩) := by
    show execStageLog capacity policy watermark s = _
    rw [execStageLog, onLink_taken _ rfl (linkCommand_linkBytes rfl rfl) receiving]
    rfl
  have apply : exec .apply s = .next
      (if !s.ctl.state.applying then s.responds [0x20#8] [0x02#8]
      else if !s.link.staged.valid s.size then s.responds [0x20#8] [0x03#8]
      else (s.responds [0x20#8] [0x01#8]).setHeader (s.header.applyStaged s.link.staged)) := by
    show execApply s = _
    rw [execApply, onLink_taken _ rfl rfl receiving]
    rfl
  have unstage : exec .unstage s = .next
      (if !s.ctl.state.applying then s.responds [0x21#8] [0x02#8]
      else ((s.responds [0x21#8] [0x01#8]).staging (s.header.active.getD s.link.staged)).setHeader
        { s.header with pendingConfig := none }) := by
    show execUnstage s = _
    rw [execUnstage, onLink_taken _ rfl rfl receiving]
    rfl
  refine ⟨fun carries => ?_, fun refuses => ?_, fun carries => ?_, fun refuses => ?_⟩
  · have stages := (staging_iff s.ctl.state).2 carries
    rw [region, log, stages]
    refine ⟨fun below => ⟨_, congrArg Host.Outcome.next (if_neg (Nat.not_le.2 below)), rfl, rfl,
      setEntry_toList _ _ below⟩, fun above => ?_, rfl⟩
    exact congrArg Host.Outcome.next (if_pos above)
  · have stays : s.ctl.state.staging = false := by
      simp only [List.mem_cons, List.not_mem_nil, or_false] at refuses
      rcases refuses with h | h | h | h | h <;> rw [h] <;> rfl
    rw [region, log, stays]
    exact ⟨rfl, rfl⟩
  · have applies := (applying_iff s.ctl.state).2 carries
    rw [apply, unstage, applies]
    refine ⟨fun valid => ?_, fun invalid => by rw [invalid]; rfl, fun active => by rw [active]; rfl⟩
    rw [valid]
    refine ⟨_, rfl, rfl, ?_, fun w hw granted => ?_⟩
    · show ((s.header.writeRequest.map _).map _) = _
      rw [Option.map_map]
      congr 1
      funext w
      by_cases granted : w.granted = true <;> simp [granted]
    · obtain ⟨v, -, rfl⟩ := Option.map_eq_some_iff.1 (show (s.header.writeRequest.map _) = some w from hw)
      by_cases before : v.granted = true
      · simp [before]
      · simp [before] at granted
  · have stays : s.ctl.state.applying = false := by
      simp only [List.mem_cons, List.not_mem_nil, or_false] at refuses
      rcases refuses with h | h | h | h | h | h | h <;> rw [h] <;> rfl
    rw [apply, unstage, stays]
    exact ⟨rfl, rfl⟩

/-! ### FORMAT -/

/-- The header unit's request goes first (R158). -/
theorem arbitrate_header {s : State} {o : MemOp} (idle : s.port.op = none) (parking : s.ctl.state ≠ .parking)
    (parked : s.ctl.state ≠ .parked) (standing : s.standing .header = some o) : s.arbitrate = s.grant .header o := by
  have chosen : s.choice = some .header := if_pos (by simp [standing])
  unfold State.arbitrate
  rw [if_neg (by simp [idle, parking, parked]), chosen]
  simp only [standing]

theorem bears_iff (number : BitVec 32) (v : Option SlotSurvey) :
    bears number v = true ↔ ∃ x ∈ v, x.judgement ≠ .absent ∧ x.number = some number := by
  cases v <;> simp [bears]

theorem formatAllowed_iff (s : State) :
    s.formatAllowed = true ↔ s.ctl.state = .unformatted ∨ s.ctl.state = .fault ∧ s.ctl.faultReason ≠ some .strap := by
  simp [State.formatAllowed]

/-- Settles O60. -/
theorem formatDecidedAndBegun : Obligations.FormatDecidedAndBegun := by
  intro s number receiving
  have format : exec (.format number) s = .next
      (if !s.formatAllowed then s.responds (0x30#8 :: bytes32 number) [0x02#8]
      else if !s.link.staged.valid s.size then s.responds (0x30#8 :: bytes32 number) [0x03#8]
      else if bears number s.header.surveyA ∨ bears number s.header.surveyB then s.responds (0x30#8 :: bytes32 number) [0x03#8]
      else (s.responds (0x30#8 :: bytes32 number) [0x01#8]).beginFormat number) := by
    show execFormat number s = _
    rw [execFormat, onLink_taken _ rfl (linkCommand_linkBytes rfl rfl) receiving]
    rfl
  refine ⟨fun refused => ?_, fun allowed => ⟨fun invalid => ?_, fun valid a b idle => ?_⟩⟩
  · have stays : s.formatAllowed = false := by rw [← Bool.not_eq_true, formatAllowed_iff]; exact refused
    rw [format, stays]
    rfl
  · rw [format, (formatAllowed_iff s).2 allowed]
    rcases invalid with h | h
    · rw [h]
      rfl
    · have bearing : bears number s.header.surveyA = true ∨ bears number s.header.surveyB = true :=
        h.imp (bears_iff _ _).2 (bears_iff _ _).2
      rw [if_pos bearing]
      simp
  · have free : ¬(bears number s.header.surveyA = true ∨ bears number s.header.surveyB = true) := by
      rw [bears_iff, bears_iff]
      rintro (⟨v, hv, marked, same⟩ | ⟨v, hv, marked, same⟩)
      · exact (a v hv).elim marked (· same)
      · exact (b v hv).elim marked (· same)
    rw [format, (formatAllowed_iff s).2 allowed, valid, if_neg free]
    have granted := arbitrate_header (s := (((s.responds (0x30#8 :: bytes32 number) [0x01#8]).setCtl { s.ctl with
      state := .formatting, faultReason := none }).requestWrite (.clearing number) .b)) idle DeviceState.noConfusion
      DeviceState.noConfusion rfl
    exact congrArg Host.Outcome.next granted

end Sys2Proof.Machine
end

section
namespace Sys2Proof.Machine

/-! ### The status record and the alarm conditions -/

/-- The alarm byte by its conditions, bit by bit (R176). -/
theorem alarmByte_bits : ∀ lost fault unformatted broken exhausted watermark : Bool,
    let b : Byte := 0#2 ++ BitVec.ofBool lost ++ BitVec.ofBool fault ++ BitVec.ofBool unformatted ++ BitVec.ofBool broken
      ++ BitVec.ofBool exhausted ++ BitVec.ofBool watermark
    (b.getLsbD 0 = watermark ∧ b.getLsbD 1 = exhausted ∧ b.getLsbD 2 = broken ∧ b.getLsbD 3 = unformatted
        ∧ b.getLsbD 4 = fault ∧ b.getLsbD 5 = lost ∧ b.getLsbD 6 = false ∧ b.getLsbD 7 = false)
      ∧ (b != 0#8) = (watermark || exhausted || broken || unformatted || fault || lost) := by
  decide

/-- The device state that UNFORMATTED and FAULT follow (R132, R174; log 31). -/
theorem alarmState_iff (s : State) {d : DeviceState} (running : d ≠ .parking ∧ d ≠ .parked) :
    s.alarmState = d ↔ s.alarmed d := by
  unfold State.alarmState State.alarmed
  by_cases stopped : s.ctl.state = .parking ∨ s.ctl.state = .parked
  · rw [if_pos stopped]
    have elsewhere : s.ctl.state ≠ d := by rintro rfl; exact stopped.elim running.1 running.2
    have stops : s.ctl.state.stopped = true := by rcases stopped with h | h <;> rw [h] <;> rfl
    cases left : s.ctl.parkedFrom <;> simp [elsewhere, stops]
  · rw [if_neg stopped]
    have runs : s.ctl.state.stopped = false := by
      cases h : s.ctl.state <;> simp_all <;> rfl
    simp [runs]

/-- The alarm byte says what it codes (R174, R176), but under RESETN. -/
theorem alarmBits_says {s : State} (released : s.pins.resetLow = false) : s.alarmSays s.alarmBits := by
  have bits := (alarmByte_bits s.events.lost (s.alarmState == .fault) (s.alarmState == .unformatted) s.alarms.broken
    s.alarms.exhausted s.alarms.watermark).1
  have byte : s.alarmBits = 0#2 ++ BitVec.ofBool s.events.lost ++ BitVec.ofBool (s.alarmState == .fault)
      ++ BitVec.ofBool (s.alarmState == .unformatted) ++ BitVec.ofBool s.alarms.broken
      ++ BitVec.ofBool s.alarms.exhausted ++ BitVec.ofBool s.alarms.watermark := if_neg (by simp [released])
  have conditions : ∀ d : DeviceState, d ≠ .parking ∧ d ≠ .parked → (s.alarmState == d) = decide (s.alarmed d) :=
    fun d running => by rw [Bool.eq_iff_iff, beq_iff_eq, decide_eq_true_iff, alarmState_iff s running]
  rw [conditions DeviceState.fault (by decide), conditions DeviceState.unformatted (by decide)] at bits byte
  rw [State.alarmSays, byte]
  exact bits

/-- ALARM is high while a condition holds (R174). -/
theorem alarm_iff (s : State) : s.alarm = true ↔ s.pins.resetLow = false ∧ (s.alarms.watermark = true
    ∨ s.alarms.exhausted = true ∨ s.alarms.broken = true ∨ s.alarmed .unformatted ∨ s.alarmed .fault ∨ s.events.lost = true) := by
  cases reset : s.pins.resetLow with
  | true => simp [State.alarm, State.alarmBits, reset]
  | false =>
    have byte : s.alarm = (s.alarms.watermark || s.alarms.exhausted || s.alarms.broken || s.alarmState == .unformatted
        || s.alarmState == .fault || s.events.lost) := by
      rw [State.alarm, State.alarmBits, if_neg (by simp [reset])]
      exact (alarmByte_bits ..).2
    rw [byte]
    simp [alarmState_iff s (d := DeviceState.fault) (by decide), alarmState_iff s (d := DeviceState.unformatted) (by decide),
      or_assoc]

/-- The last result's two bytes in the status record (R176). -/
def resultBytes : Option Answer → Byte × Byte
  | some a => (a.op.code, a.result.code)
  | none => (0x00#8, 0x00#8)

/-- The status record, its bytes in a row (R176). -/
theorem statusRecord_eq (s : State) : s.statusRecord =
    [s.shownState.code, faultCode s.ctl.faultReason, statusCode s.table.status,
      if s.header.pendingConfig.isSome then 0x01#8 else 0x00#8, if s.events.lost then 0x01#8 else 0x00#8, s.alarmBits]
    ++ be 6 s.epochNumber.toNat ++ be 2 s.capture.tail ++ be 2 s.capacity
    ++ be 1 s.table.reservations ++ be 1 s.queue.entries.length ++ be 2 s.table.entries.length
    ++ [(resultBytes s.ctl.lastResult).1, (resultBytes s.ctl.lastResult).2]
    ++ be 1 s.events.records.length ++ [0x00#8] := by
  unfold State.statusRecord
  cases s.ctl.lastResult <;> rfl

/-- The status record says what R171 has it say. -/
theorem statusRecord_says {s : State} (released : s.pins.resetLow = false) : s.statusSays s.statusRecord := by
  rw [statusRecord_eq]
  have number : ∀ n v : Nat, v < 256 ^ n → ofBe (be n v) = v := fun n v below => (ofBe_be n v).trans (Nat.mod_eq_of_lt below)
  refine ⟨rfl, fun p hp shows => ?_, fun p hp reason => ?_, fun p hp status => ?_, ?_, rfl, ⟨_, rfl, alarmBits_says released⟩,
    ?_, ofBe_be 2 _, ?_, ofBe_be 1 _, ofBe_be 1 _, ofBe_be 2 _, fun result => ?_,
    fun a result => ⟨fun p hp op => ?_, fun p hp value => ?_⟩, ofBe_be 1 _, rfl⟩
  · have code : ∀ p ∈ stateCodes, p.1.code = p.2 := by decide
    rw [← code p hp, (shows_iff s p.1).1 shows]
    rfl
  · have code : ∀ p ∈ [(none, 0#8), (some FaultReason.strap, 1#8), (some .header, 2#8), (some .config, 3#8),
      (some .epochLimit, 4#8)], faultCode p.1 = p.2 := by decide
    rw [← code p hp, ← reason]
    rfl
  · have code : ∀ p ∈ [(none, 0#8), (some EpochStatus.intact, 1#8), (some .broken, 2#8), (some .breaking, 3#8)],
      statusCode p.1 = p.2 := by decide
    rw [← code p hp, ← status]
    rfl
  · cases s.header.pendingConfig <;> rfl
  · refine (number 6 s.epochNumber.toNat s.epochNumber.isLt).trans ?_
    unfold State.epochNumber
    cases s.ctl.epoch <;> rfl
  · have below : s.capacity < 256 ^ 2 := by
      unfold State.capacity
      cases s.header.active with
      | none => decide
      | some c => exact c.capacity.isLt
    refine (number 2 s.capacity below).trans ?_
    unfold State.capacity
    cases s.header.active <;> rfl
  · rw [result]
    exact ⟨rfl, rfl⟩
  · have code : ∀ p ∈ [(Operation.commit, 1#8), (.rollback, 2#8), (.flush, 3#8), (.illegal, 4#8)], p.1.code = p.2 := by decide
    rw [← code p hp, ← op, Option.mem_def.1 result]
    rfl
  · have code : ∀ p ∈ [(EpochResult.ok, 0#8), (.partly, 1#8), (.refused, 2#8), (.interrupted, 3#8)], p.1.code = p.2 := by decide
    rw [← code p hp, ← value, Option.mem_def.1 result]
    rfl

/-- Settles O57. -/
theorem linkQueriesAnswered : Obligations.LinkQueriesAnswered := by
  intro s code c
  refine ⟨fun receiving => ⟨⟨s.statusRecord, ?_, ?_⟩, fun active => ?_, fun absent => ?_, ?_, fun unnamed => ?_, fun named => ?_⟩, alarm_iff s,
    fun active => ?_, fun absent => ?_⟩
  · show execGetStatus s = _
    rw [execGetStatus, onLink_taken _ rfl rfl receiving]
    rfl
  · refine statusRecord_says ?_
    simp only [State.linkReceiving, Bool.and_eq_true, Bool.not_eq_true'] at receiving
    exact receiving.1
  · show execGetActive s = _
    rw [execGetActive, onLink_taken _ rfl rfl receiving, active]
    rfl
  · show execGetActive s = _
    rw [execGetActive, onLink_taken _ rfl rfl receiving, absent]
    rfl
  · show execGetStaged s = _
    rw [execGetStaged, onLink_taken _ rfl rfl receiving]
    rfl
  · show execUnknownCommand code s = _
    rw [execUnknownCommand, onLink_taken _ rfl (linkCommand_unnamed unnamed) receiving]
    rfl
  · exact congrArg Host.Outcome.next (if_neg fun taken => linkCommand_named code named taken.2)
  · unfold State.watermarkTest
    rw [active]
    rfl
  · unfold State.watermarkTest
    rw [absent]

end Sys2Proof.Machine
end


section
/-! The region decoder (R6 to R12) and the stored layouts (R21 to R24, R109, R110, R175). -/

namespace Sys2Proof.Machine

/-! ### The region decoder -/

theorem contains_iff (e : RegionEntry) (a : Nat) : e.contains a = true ↔ e.holds a := by
  simp [RegionEntry.contains, RegionEntry.isPresent, and_assoc]

/-- The first entry that contains the address decides (R12). -/
theorem findRegion_first {a : Nat} {e : RegionEntry} {cls : DecodeClass} (holds : e.holds a) (class_ : e.decodeClass = some cls) :
    ∀ (l : List RegionEntry) (i k : Nat), l[i]? = some e → (∀ f ∈ l.take i, ¬f.holds a) → findRegion a k l = some (cls, k + i)
  | [], i, k, at_, _ => by simp at at_
  | f :: rest, 0, k, at_, _ => by
    obtain rfl : f = e := by simpa using at_
    simp [findRegion, (contains_iff _ _).2 holds, class_]
  | f :: rest, i + 1, k, at_, before => by
    have passed : ¬f.contains a = true := by rw [contains_iff]; exact before f (by simp)
    have next := findRegion_first holds class_ rest i (k + 1) (by simpa using at_) fun g hg => before g (by simp [hg])
    rw [findRegion, if_neg passed, next]
    congr 2
    omega

/-- No entry that contains the address, no class of an entry (R12). -/
theorem findRegion_none {a : Nat} {l : List RegionEntry} (h : ∀ f ∈ l, ¬f.holds a) (k : Nat) : findRegion a k l = none := by
  induction l generalizing k with
  | nil => rfl
  | cons f rest ih =>
    have passed : ¬f.contains a = true := by rw [contains_iff]; exact h f (by simp)
    rw [findRegion, if_neg passed]
    exact ih (fun g hg => h g (by simp [hg])) _

theorem decode_eq {d : RegionDecoder} {g : Geometry} {table : RegionTable} (a : Nat) (geometry : d.geometry = some g)
    (copy : d.table = some table) : d.decode a = if g.memorySize ≤ a then (.outside, none)
      else if g.granuleFloor ≤ a then (.reserved, none)
      else match findRegion a 0 table.toList with
        | some (c, i) => (c, some i)
        | none => (.plain, none) := by
  unfold RegionDecoder.decode
  rw [geometry, copy] <;> rfl

theorem usableLimit_eq (size n : Nat) : usableLimit size n = size - (512 + 80 * n) := Nat.sub_sub ..

theorem geometryOf_eq (size n : Nat) : geometryOf size n = ⟨size, n, size - (512 + 80 * n), size - (512 + 80 * n),
    64 * ((size - (512 + 80 * n)) / 64), (size - (512 + 80 * n)) / 65536⟩ := by
  rw [← usableLimit_eq]
  rfl

/-- The class byte names a class (R175). -/
theorem decodeClass_of_byte {e : RegionEntry} {cls : DecodeClass}
    (h : (e.cls, cls) ∈ [(0x01#8, DecodeClass.guarded), (0x02#8, .plain), (0x03#8, .fixed)]) : e.decodeClass = some cls := by
  simp only [List.mem_cons, Prod.mk.injEq, List.not_mem_nil, or_false] at h
  rcases h with ⟨byte, rfl⟩ | ⟨byte, rfl⟩ | ⟨byte, rfl⟩ <;> simp [RegionEntry.decodeClass, byte]

/-- The tests of R9 on one entry. -/
theorem fits_iff (ceiling : Nat) (e : RegionEntry) : e.fits ceiling = true ↔ (e.present = 0x01#8 →
    (e.cls = 0x01#8 ∨ e.cls = 0x02#8 ∨ e.cls = 0x03#8) ∧ 1 ≤ e.length.toNat ∧ e.length.toNat ≤ 1024
      ∧ e.base.toNat ≤ 1023 ∧ e.base.toNat + e.length.toNat ≤ ceiling) := by
  have named : e.decodeClass.isSome = true ↔ e.cls = 0x01#8 ∨ e.cls = 0x02#8 ∨ e.cls = 0x03#8 := by
    unfold RegionEntry.decodeClass
    split_ifs <;> simp_all
  by_cases present : e.present = 0x01#8
  · simp [RegionEntry.fits, RegionEntry.isPresent, present, named, and_assoc]
  · simp [RegionEntry.fits, RegionEntry.isPresent, present]

/-- Two entries are apart (R9). -/
theorem apart_iff (e f : RegionEntry) : e.apart f = true ↔ (e.present = 0x01#8 → f.present = 0x01#8 →
    e.base.toNat + e.length.toNat ≤ f.base.toNat ∨ f.base.toNat + f.length.toNat ≤ e.base.toNat) := by
  by_cases pe : e.present = 0x01#8 <;> by_cases pf : f.present = 0x01#8 <;>
    simp [RegionEntry.apart, RegionEntry.isPresent, pe, pf]

theorem allApart_iff (l : List RegionEntry) : allApart l = true ↔ l.Pairwise fun e f => e.apart f = true := by
  induction l with
  | nil => simp [allApart]
  | cons e rest ih => simp [allApart, ih]

/-- Settles O25. -/
theorem addressesDecodeInOrder : Obligations.AddressesDecodeInOrder := by
  intro d table size n a i e cls c msz
  refine ⟨memorySizeOf_eq msz, geometryOf_eq size n, fun geometry copy => ?_, ?_⟩
  · have decodes := decode_eq a geometry copy
    rw [geometryOf_eq] at decodes
    have floor : 64 * ((size - (512 + 80 * n)) / 64) ≤ size := by omega
    refine ⟨fun outside => ?_, fun inside reserved => ?_, fun below at_ holds byte before => ?_, fun below none => ?_⟩
    · rw [decodes, if_pos outside]
    · rw [decodes, if_neg (Nat.not_le.2 inside), if_pos reserved]
    · rw [decodes, if_neg (Nat.not_le.2 (below.trans_le floor)), if_neg (Nat.not_le.2 below),
        findRegion_first holds (decodeClass_of_byte byte) _ i 0 at_ before, Nat.zero_add]
    · rw [decodes, if_neg (Nat.not_le.2 (below.trans_le floor)), if_neg (Nat.not_le.2 below), findRegion_none none]
  · have regions : c.regions.valid (geometryOf size c.capacity.toNat).regionCeiling = true ↔
        (∀ e ∈ c.regions.toList, e.present = 0x01#8 →
          (e.cls = 0x01#8 ∨ e.cls = 0x02#8 ∨ e.cls = 0x03#8) ∧ 1 ≤ e.length.toNat ∧ e.length.toNat ≤ 1024
            ∧ e.base.toNat ≤ 1023 ∧ e.base.toNat + e.length.toNat ≤ (size - (512 + 80 * c.capacity.toNat)) / 65536)
        ∧ c.regions.toList.Pairwise fun e f => e.present = 0x01#8 → f.present = 0x01#8 →
            e.base.toNat + e.length.toNat ≤ f.base.toNat ∨ f.base.toNat + f.length.toNat ≤ e.base.toNat := by
      rw [RegionTable.valid, Bool.and_eq_true, List.all_eq_true, allApart_iff, geometryOf_eq]
      simp only [fits_iff, apart_iff]
    simp only [Configuration.valid, Bool.and_eq_true, decide_eq_true_eq, Bool.or_eq_true, beq_iff_eq, regions, and_assoc]
    rw [show 512 + 80 * c.capacity.toNat + 65536 = 65536 + 512 + 80 * c.capacity.toNat by omega]

/-! ### Stored layouts -/

theorem bytesOf_append (a b : List MWord) : bytesOf (a ++ b) = bytesOf a ++ bytesOf b := List.flatMap_append

theorem bytesOf_length (ws : List MWord) : (bytesOf ws).length = 4 * ws.length := by
  induction ws with
  | nil => rfl
  | cons w rest ih =>
    show (w.bytes ++ bytesOf rest).length = _
    rw [List.length_append, ih, List.length_cons]
    show 4 + 4 * rest.length = _
    omega

/-- Bytes in whole words are the bytes of those words. -/
theorem bytesOf_wordsOf : ∀ (n : Nat) (bs : List Byte), bs.length = 4 * n → bytesOf (wordsOf bs) = bs ∧ (wordsOf bs).length = n
  | 0, bs, h => by
    obtain rfl := List.length_eq_zero_iff.1 h
    exact ⟨rfl, rfl⟩
  | n + 1, a :: b :: c :: d :: rest, h => by
    obtain ⟨same, count⟩ := bytesOf_wordsOf n rest (by simp only [List.length_cons] at h; omega)
    refine ⟨?_, congrArg (· + 1) count⟩
    show [a, b, c, d] ++ bytesOf (wordsOf rest) = _
    rw [same]
    rfl
  | n + 1, [], h => by simp at h
  | n + 1, [_], h => by simp only [List.length_cons, List.length_nil] at h; omega
  | n + 1, [_, _], h => by simp only [List.length_cons, List.length_nil] at h; omega
  | n + 1, [_, _, _], h => by simp only [List.length_cons, List.length_nil] at h; omega

theorem ofBe_single (b : Byte) : ofBe [b] = b.toNat := by simp [ofBe]

/-- A field that starts where the bytes before it end. -/
theorem field_append (a b : List Byte) (n : Nat) : field (a ++ b) a.length n = field b 0 n := by
  simp [field]

/-- A number is read back from the bytes that hold it. -/
theorem ofBe_toNat {w n : Nat} (v : BitVec w) (h : w ≤ 8 * n) : ofBe (be n v.toNat) = v.toNat := by
  rw [ofBe_be]
  refine Nat.mod_eq_of_lt (v.isLt.trans_le ?_)
  rw [show (256 : Nat) = 2 ^ 8 from rfl, ← Nat.pow_mul]
  exact Nat.pow_le_pow_right (by decide) h

/-- A region entry is read back from its bytes (R175). -/
theorem ofBytes_entry (e : RegionEntry) (rest : List Byte) : RegionEntry.ofBytes (e.bytes ++ rest) = e := by
  obtain ⟨present, cls, base, length⟩ := e
  show (⟨BitVec.ofNat 8 (ofBe [present]), BitVec.ofNat 8 (ofBe [cls]), BitVec.ofNat 16 (ofBe (be 2 base.toNat)),
    BitVec.ofNat 16 (ofBe (be 2 length.toNat))⟩ : RegionEntry) = _
  rw [ofBe_single, ofBe_single, ofBe_toNat base (by decide), ofBe_toNat length (by decide)]
  simp

/-- So is a region table. -/
theorem ofBytes_table (t : RegionTable) (rest : List Byte) : RegionTable.ofBytes (t.bytes ++ rest) = t := by
  obtain ⟨e0, e1, e2, e3, e4, e5, e6, e7⟩ := t
  have entries : RegionTable.bytes ⟨e0, e1, e2, e3, e4, e5, e6, e7⟩ ++ rest = e0.bytes ++ (e1.bytes ++ (e2.bytes ++ (e3.bytes
      ++ (e4.bytes ++ (e5.bytes ++ (e6.bytes ++ (e7.bytes ++ rest))))))) := by
    simp [RegionTable.bytes, RegionTable.toList]
  rw [entries]
  show (⟨RegionEntry.ofBytes (e0.bytes ++ _), RegionEntry.ofBytes (e1.bytes ++ _), RegionEntry.ofBytes (e2.bytes ++ _),
    RegionEntry.ofBytes (e3.bytes ++ _), RegionEntry.ofBytes (e4.bytes ++ _), RegionEntry.ofBytes (e5.bytes ++ _),
    RegionEntry.ofBytes (e6.bytes ++ _), RegionEntry.ofBytes (e7.bytes ++ _)⟩ : RegionTable) = _
  simp only [ofBytes_entry]

end Sys2Proof.Machine
end

section
namespace Sys2Proof.Machine

/-! ### Headers read back -/

/-- The 32 bytes of a header before its region table (R175). -/
def headerFront (h : HeaderRecord) : List Byte :=
  be 4 Config.formatMark ++ [0x01#8, statusByte h.broken, h.config.policy, h.config.watermark]
    ++ be 8 h.generation.toNat ++ be 6 h.epoch.toNat ++ be 2 h.config.capacity.toNat ++ be 4 h.formatNumber.toNat
    ++ List.replicate 4 0x00#8

theorem covered_eq (h : HeaderRecord) :
    h.covered = headerFront h ++ (h.config.regions.bytes ++ List.replicate 156 0x00#8) := by
  unfold HeaderRecord.covered headerFront
  simp only [List.append_assoc]

theorem headerFront_length (h : HeaderRecord) : (headerFront h).length = 32 := rfl

theorem covered_length (h : HeaderRecord) : h.covered.length = 252 := by
  rw [covered_eq, List.length_append, headerFront_length, List.length_append, List.length_replicate,
    show h.config.regions.bytes.length = 64 from rfl]

/-- A header's words carry its covered bytes and their check code (R110). -/
theorem headerWords_bytes (h : HeaderRecord) :
    bytesOf h.words = h.covered ++ be 4 (headerCode h.covered).toNat ∧ h.words.length = 64 :=
  bytesOf_wordsOf 64 _ (by rw [List.length_append, covered_length, be_length])

/-- A header is read back whole from bytes that begin as its own do (R175). -/
theorem ofBytes_header (h : HeaderRecord) (rest : List Byte) :
    HeaderRecord.ofBytes (headerFront h ++ (h.config.regions.bytes ++ rest)) = h := by
  obtain ⟨broken, generation, epoch, number, policy, watermark, capacity, regions⟩ := h
  have behind : (headerFront ⟨broken, generation, epoch, number, policy, watermark, capacity, regions⟩
      ++ (regions.bytes ++ rest)).drop 32 = regions.bytes ++ rest := List.drop_left' (headerFront_length _)
  unfold HeaderRecord.ofBytes
  rw [behind, ofBytes_table]
  show (⟨ofBe [statusByte broken] == 2, BitVec.ofNat 64 (ofBe (be 8 generation.toNat)), BitVec.ofNat 48 (ofBe (be 6 epoch.toNat)),
    BitVec.ofNat 32 (ofBe (be 4 number.toNat)), ⟨BitVec.ofNat 8 (ofBe [policy]), BitVec.ofNat 8 (ofBe [watermark]),
      BitVec.ofNat 16 (ofBe (be 2 capacity.toNat)), regions⟩⟩ : HeaderRecord) = _
  rw [ofBe_toNat generation (by decide), ofBe_toNat epoch (by decide), ofBe_toNat number (by decide),
    ofBe_toNat capacity (by decide), ofBe_single, ofBe_single, ofBe_single]
  cases broken <;> simp [statusByte]

/-- A written header is judged VALID and read back whole (R116). -/
theorem header_judgedValid {h : HeaderRecord} {size : Nat} (valid : h.config.valid size = true) (epoch : h.epoch ≠ 0)
    (generation : h.generation ≠ 0) :
    judgeSlot size false (bytesOf h.words) = .valid ∧ HeaderRecord.ofBytes (bytesOf h.words) = h := by
  have bytes : bytesOf h.words = h.covered ++ be 4 (headerCode h.covered).toNat := (headerWords_bytes h).1
  have read : HeaderRecord.ofBytes (bytesOf h.words) = h := by
    rw [bytes, covered_eq, List.append_assoc, List.append_assoc]
    exact ofBytes_header h _
  refine ⟨?_, read⟩
  have code : field (bytesOf h.words) 252 4 = (headerCode h.covered).toNat := by
    rw [bytes, ← covered_length h, field_append]
    exact (congrArg ofBe (List.take_of_length_le (by simp))).trans (ofBe_toNat _ (by decide))
  have covers : (bytesOf h.words).take 252 = h.covered := by rw [bytes]; exact List.take_left' (covered_length h)
  have mark : field (bytesOf h.words) 0 4 = Config.formatMark := by rw [bytes]; rfl
  have layout : field (bytesOf h.words) 4 1 = 1 := by rw [bytes]; rfl
  have status : field (bytesOf h.words) 5 1 = (statusByte h.broken).toNat := by rw [bytes]; exact ofBe_single _
  have named : ¬((statusByte h.broken).toNat ≠ 1 ∧ (statusByte h.broken).toNat ≠ 2) := by cases h.broken <;> decide
  have nonzero : ¬(h.epoch = 0 ∨ h.generation = 0) := by simp only [not_or]; exact ⟨epoch, generation⟩
  unfold judgeSlot
  rw [read, code, covers, mark, layout, status]
  simp only [named, false_or, if_neg nonzero, valid]
  simp

/-- The clearing write's zeros bear no mark (R110, R116). -/
theorem zeros_judgedAbsent (size : Nat) : judgeSlot size false (bytesOf (List.replicate 64 MWord.zero)) = .absent := by
  have unmarked : field (bytesOf (List.replicate 64 MWord.zero)) 0 4 ≠ Config.formatMark := by decide
  unfold judgeSlot
  simp only [Bool.false_eq_true, if_false]
  exact if_pos unmarked

/-! ### Records read back -/

/-- A record's words carry its head, its check code and its image (R21, R22). -/
theorem recordWords_bytes {number : BitVec 32} {slot granule : Nat} {epoch : BitVec 48} {image : List MWord} :
    bytesOf (recordWords number slot granule epoch image) = recordHead slot granule epoch
        ++ be 4 (recordCode number (recordHead slot granule epoch ++ bytesOf image)).toNat ++ bytesOf image
      ∧ (recordWords number slot granule epoch image).length = 4 + image.length := by
  obtain ⟨bytes, count⟩ := bytesOf_wordsOf 4 (recordHead slot granule epoch
    ++ be 4 (recordCode number (recordHead slot granule epoch ++ bytesOf image)).toNat) rfl
  unfold recordWords
  exact ⟨by rw [bytesOf_append, bytes], by rw [List.length_append, count]⟩

theorem recordImage_words (number : BitVec 32) (slot granule : Nat) (epoch : BitVec 48) (image : List MWord) :
    recordImage (recordWords number slot granule epoch image) = image :=
  List.drop_left' (bytesOf_wordsOf 4 _ rfl).2

theorem recordGranule_words {granule : Nat} (number : BitVec 32) (slot : Nat) (epoch : BitVec 48) (image : List MWord)
    (h : granule < 16777216) : recordGranule (recordWords number slot granule epoch image) = granule := by
  unfold recordGranule
  rw [recordWords_bytes.1]
  exact (ofBe_be 3 granule).trans (Nat.mod_eq_of_lt h)

/-- What a record's check covers, and the code it is held to (R23, R24). -/
theorem recordPasses_words {number : BitVec 32} {slot granule : Nat} {epoch : BitVec 48} {image : List MWord}
    (other : BitVec 32) (h : image.length = 16) :
    recordPasses other (recordWords number slot granule epoch image)
      = ((recordCode other (recordHead slot granule epoch ++ bytesOf image)).toNat
          == (recordCode number (recordHead slot granule epoch ++ bytesOf image)).toNat) := by
  have whole : (bytesOf image).length = 64 := by rw [bytesOf_length, h]
  unfold recordPasses
  rw [recordWords_bytes.1]
  have code : field (recordHead slot granule epoch
      ++ be 4 (recordCode number (recordHead slot granule epoch ++ bytesOf image)).toNat ++ bytesOf image) 12 4
        = (recordCode number (recordHead slot granule epoch ++ bytesOf image)).toNat := ofBe_toNat (n := 4) _ (by decide)
  have head : (recordHead slot granule epoch
      ++ be 4 (recordCode number (recordHead slot granule epoch ++ bytesOf image)).toNat ++ bytesOf image).take 12
        = recordHead slot granule epoch := rfl
  have behind : (recordHead slot granule epoch
      ++ be 4 (recordCode number (recordHead slot granule epoch ++ bytesOf image)).toNat ++ bytesOf image).drop 16
        = bytesOf image := rfl
  dsimp only
  rw [code, head, behind, List.take_of_length_le whole.le]

/-- One clock of the check register keeps two contents apart (R23): the generator's lowest bit shows what was shifted out. -/
theorem crcBit_injective {r q : BitVec 32} {bit : Bool} (h : crcBit r bit = crcBit q bit) : r = q := by
  have low : ∀ x : BitVec 32, (crcBit x bit).getLsbD 0 = (bit ^^ x.msb) := by
    intro x
    unfold crcBit
    split
    · rename_i set
      rw [set, BitVec.getLsbD_xor]
      simp [Config.generator]
    · rename_i clear
      rw [Bool.not_eq_true] at clear
      rw [clear]
      simp
  have top : r.msb = q.msb := by
    have both := low r
    rw [h, low q] at both
    exact (Bool.xor_right_inj.1 both).symm
  have shifted : r <<< 1 = q <<< 1 := by
    unfold crcBit at h
    rw [top] at h
    split at h
    · exact (BitVec.xor_left_inj _).1 h
    · exact h
  apply BitVec.eq_of_getLsbD_eq
  intro i hi
  by_cases last : i = 31
  · subst last
    simpa [BitVec.msb_eq_getLsbD_last] using top
  · have bits := congrArg (fun x => x.getLsbD (i + 1)) shifted
    rw [BitVec.getLsbD_eq_getElem hi, BitVec.getLsbD_eq_getElem hi]
    simpa [show i + 1 < 32 by omega] using bits

theorem crcByte_injective {r q : BitVec 32} {b : Byte} (h : crcByte r b = crcByte q b) : r = q :=
  crcBit_injective (crcBit_injective (crcBit_injective (crcBit_injective (crcBit_injective (crcBit_injective
    (crcBit_injective (crcBit_injective h)))))))

/-- The record check tells format numbers apart (R24). -/
theorem recordCode_injective {a b : BitVec 32} {bs : List Byte} (h : recordCode a bs = recordCode b bs) : a = b := by
  have loads : ∀ (bs : List Byte) (r q : BitVec 32), bs.foldl crcByte r = bs.foldl crcByte q → r = q := by
    intro bs
    induction bs with
    | nil => exact fun _ _ same => same
    | cons c rest ih => exact fun r q same => crcByte_injective (ih _ _ same)
  have same := loads bs _ _ (BitVec.not_inj.1 h)
  exact (BitVec.xor_left_inj _).1 same

/-- A record that was written is good in its slot, its epoch and its format (R24, R100). -/
theorem recordGood_words {number : BitVec 32} {slot granule floor : Nat} {epoch : BitVec 48} {image : List MWord}
    (hs : slot < 65536) (hg : granule < 16777216) (hi : image.length = 16) (below : granule < floor / 64) :
    recordGood number epoch floor slot (recordWords number slot granule epoch image) = true := by
  have kind : field (bytesOf (recordWords number slot granule epoch image)) 0 1 = Config.preImageKind.toNat := by
    rw [recordWords_bytes.1]; rfl
  have slot_ : field (bytesOf (recordWords number slot granule epoch image)) 1 2 = slot := by
    rw [recordWords_bytes.1]; exact (ofBe_be 2 slot).trans (Nat.mod_eq_of_lt hs)
  have epoch_ : field (bytesOf (recordWords number slot granule epoch image)) 6 6 = epoch.toNat := by
    rw [recordWords_bytes.1]; exact ofBe_toNat (n := 6) epoch (by decide)
  unfold recordGood
  simp [kind, slot_, epoch_, recordPasses_words number hi, recordGranule_words number slot epoch image hg, below]

/-- The record a capture is writing is that of its image (R28), and good. -/
theorem capture_recordGood {s : State} (h : s.Lawful) (writing : s.capture.phase = .writing) :
    recordGood (s.header.formatNumber.getD 0) s.epochNumber s.granuleFloor s.capture.tail s.capture.record = true
      ∧ s.capture.granule = some (recordGranule s.capture.record) := by
  obtain ⟨hostGranules, -, -, writes⟩ := h.capture
  obtain ⟨-, slot, image, record⟩ := writes writing
  obtain ⟨-, -, -, -, -, -, -, -, -, ⟨-, inFlight⟩, -⟩ := h.consistent
  obtain ⟨e, he, -, granule⟩ := inFlight (by rw [writing]; decide)
  obtain ⟨-, -, -, -, -, inMemory, -, inLog, -⟩ := h.addressed
  have below := hostGranules e he
  have small : e.granule < 16777216 := by
    have := inMemory e he
    obtain ⟨sizes, -⟩ := h.configured
    have size : s.size ≤ 67108864 := by
      unfold State.size
      cases strap : s.dec.memorySize with
      | none => decide
      | some m =>
        have := sizes m strap
        simp only [strapSizes, List.mem_cons, List.not_mem_nil, or_false] at this
        simp only [Option.getD_some]
        omega
    unfold State.words at this
    omega
  have slots : s.capture.tail < 65536 := by
    obtain ⟨i, hi, inside⟩ := inLog writing
    rw [slot] at hi
    obtain rfl := Option.some.inj hi
    obtain ⟨-, -, -, -, -, -, geometry, -⟩ := h.configured
    unfold State.logCapacity at inside
    rw [geometry] at inside
    cases active : s.header.active with
    | none => simp [active] at inside
    | some c =>
      simp only [active, Option.map_some] at inside
      exact inside.trans_le c.capacity.isLt.le
  rw [record, granule, Option.getD_some]
  exact ⟨recordGood_words slots small image below, by rw [recordGranule_words _ _ _ _ small]⟩

/-- Settles O26. -/
theorem writtenLayoutsJudgedGood : Obligations.WrittenLayoutsJudgedGood := by
  intro s h size number other slot granule floor epoch image
  refine ⟨fun valid epoch generation => ⟨(headerWords_bytes h).2, header_judgedValid valid epoch generation⟩, zeros_judgedAbsent size,
    fun hs hg hi => ⟨?_, recordGranule_words number slot epoch image hg, recordImage_words .., recordGood_words hs hg hi,
      fun differs => ?_⟩, capture_recordGood⟩
  · rw [recordWords_bytes.2, hi]
  · rw [recordPasses_words other hi, beq_eq_false_iff_ne]
    exact fun same => differs (recordCode_injective (BitVec.eq_of_toNat_eq same))

end Sys2Proof.Machine
end


section
/-! Host bus cycles (chapter 9): the first beat that the device state answers, the writes that pass no admission, and the
read beats. -/

namespace Sys2Proof.Machine

/-! ### The end of an event whose beat does not stir -/

/-- The tests and the grant that end an event in which no presented beat stirs (R26, R86, R97, R104, R159). -/
theorem settle_eq (before : State) {u : State} (hu : u.rests) :
    State.settle before u = u.takeCapture.commitTest.rollbackTest.arbitrate.takeCapture := by
  have host : u.takeCapture.commitTest.rollbackTest.host = u.host := by simp
  have queue : u.takeCapture.commitTest.rollbackTest.queue = u.queue := by simp
  obtain ⟨-, -, -, -, -, -, -, -, -, undrained, -, -, -, kept, -⟩ := endsIn_arbitrate u.takeCapture.commitTest.rollbackTest
  have rests : u.takeCapture.commitTest.rollbackTest.arbitrate.rests :=
    rests_of_eq hu (by rw [kept, host]) (by rw [kept, host]) (by rw [undrained, queue])
  rw [State.settle, reoffer_rests hu, releaseRead_rests hu, State.grantAndOffer, reoffer_rests rests]

/-- An event ends as it does, by whatever way its effects are written. -/
theorem settle_ends {before u v : State} (same : v = u) (hu : u.rests) : u.endsIn (State.settle before v) := by
  rw [same]
  exact settle_endsIn before hu

/-- A grant leaves a host read's words and its cycle's end as they are (R148, R150, R157). -/
theorem arbitrate_read (s : State) : s.arbitrate.host.read.map (fun r => (r.start, r.length, r.stale))
    = s.host.read.map fun r => (r.start, r.length, r.stale) := by
  rcases arbitrate_cases s with h | ⟨r, o, -, -, -, -, -, h⟩ <;> rw [h]
  cases r with
  | hostRead =>
    simp only [State.grant, State.tellGranted]
    cases hr : s.host.read <;> simp [hr]
  | header =>
    simp only [State.grant, State.tellGranted]
    split
    · rfl
    · split <;> rfl
  | engine | capture | drain => rfl

/-- A host read that is granted is as it was after the arbiter (R161). -/
theorem arbitrate_readGranted {s : State} (h : ∀ r ∈ s.host.read, r.granted = true) : s.arbitrate.host = s.host := by
  rcases arbitrate_cases s with e | ⟨r, o, -, -, -, -, standing, e⟩ <;> rw [e]
  cases r with
  | hostRead =>
    simp only [State.standing] at standing
    split at standing
    · rename_i read hr
      simp [h read hr] at standing
    · cases standing
  | header =>
    simp only [State.grant, State.tellGranted]
    split
    · rfl
    · split <;> rfl
  | engine | capture | drain => rfl

/-- As an event ends that leaves the beat alone, a read requested keeps its words (R148). -/
theorem settle_read (before : State) {u : State} (hu : u.rests) :
    (State.settle before u).host.read.map (fun r => (r.start, r.length, r.stale))
      = u.host.read.map fun r => (r.start, r.length, r.stale) := by
  rw [settle_eq before hu, (takeCapture_keeps _).2.2.2.2.2.2.2.2.2.1, arbitrate_read]
  simp

/-- And one that is granted stays as it is. -/
theorem settle_readGranted (before : State) {u : State} (hu : u.rests) (h : ∀ r ∈ u.host.read, r.granted = true) :
    (State.settle before u).host = u.host := by
  have host : u.takeCapture.commitTest.rollbackTest.host = u.host := by simp
  rw [settle_eq before hu, (takeCapture_keeps _).2.2.2.2.2.2.2.2.2.1, arbitrate_readGranted (by rwa [host]), host]

/-- So what is said of a granted read is said of it as the event ends. -/
theorem settle_leftRead {before u v : State} {α : Type} {f : HostRead → α} {x : Option α} (same : v = u) (hu : u.rests)
    (h : ∀ r ∈ u.host.read, r.granted = true) (hr : u.host.read.map f = x) :
    (State.settle before v).host.read.map f = x := by
  rw [same, settle_readGranted before hu h, hr]

/-- A read beat held does not stir, but where the entries it waited for have left (R69). -/
theorem held_rests {u : State} {c : Cycle} {b : Beat} (hc : u.host.cycle = some c) (hw : c.write = false)
    (hm : b.reason = .partlyCovered → u.queue.matching c.word ≠ []) : (u.held b).rests := by
  intro d hd e he
  obtain rfl : c = d := Option.some.inj (hc.symm.trans hd)
  obtain rfl : b = e := Option.some.inj he
  exact ⟨hw, hm⟩

/-! ### The answer the device state gives -/

theorem truncate_ctl (s : State) : s.truncate.ctl = s.ctl := by unfold State.truncate; split <;> rfl

theorem truncate_dec (s : State) : s.truncate.dec = s.dec := by unfold State.truncate; split <;> rfl

theorem lengthOf_legal {hlen : BitVec 3} (h : hlen.toNat < 5) : lengthOf hlen = some (2 ^ hlen.toNat) := by
  rw [lengthOf, if_neg (by omega), Nat.one_shiftLeft]

theorem takesFirstBeat_of {s : State} (reset : s.pins.resetLow = false) (beat : s.host.beat = none) :
    s.takesFirstBeat = true := by simp [State.takesFirstBeat, reset, beat]

/-- A first write beat answered before any decode (R140, R142). -/
theorem exec_writeAnswered {s : State} {word : BitVec 24} {hlen : BitVec 3} {lanes : Lanes} {data : MWord} {r : HostResponse}
    (reset : s.pins.resetLow = false) (beat : s.host.beat = none) (early : s.earlyResponse true hlen = some r) :
    ∃ t, exec (.hostWriteFirstBeat word hlen lanes data) s = .next t ∧ (s.closed r LaneData.empty).endsIn t := by
  have same : s.truncate.earlyResponse true hlen = some r := by rw [← early, State.earlyResponse, truncate_ctl]; rfl
  refine ⟨_, congrArg Host.Outcome.next (if_pos (takesFirstBeat_of reset beat)), ?_⟩
  rw [same]
  dsimp only
  rw [truncate_closeBeat]
  exact settle_ends rfl (closed_rests _ _ _)

/-- A first read beat answered before any decode (R140, R142). -/
theorem exec_readAnswered {s : State} {word : BitVec 24} {hlen : BitVec 3} {lanes : Lanes} {r : HostResponse}
    (reset : s.pins.resetLow = false) (beat : s.host.beat = none) (early : s.earlyResponse false hlen = some r) :
    ∃ t, exec (.hostReadFirstBeat word hlen lanes) s = .next t ∧ (s.closed r LaneData.empty).endsIn t := by
  have same : s.truncate.earlyResponse false hlen = some r := by rw [← early, State.earlyResponse, truncate_ctl]; rfl
  refine ⟨_, congrArg Host.Outcome.next (if_pos (takesFirstBeat_of reset beat)), ?_⟩
  rw [same]
  dsimp only
  rw [truncate_closeBeat]
  exact settle_ends rfl (closed_rests _ _ _)

/-- Settles O27. -/
theorem firstBeatAnsweredByState : Obligations.FirstBeatAnsweredByState := by
  intro s word hlen lanes data r reset beat
  have illegal : 5 ≤ hlen.toNat → lengthOf hlen = none := fun h => if_pos h
  refine ⟨fun answered => exec_writeAnswered reset beat ?_, fun answered => exec_readAnswered reset beat ?_⟩
  · rcases answered with ⟨state, rfl⟩ | ⟨state, rfl⟩ | ⟨state, long, rfl⟩
    · simp only [List.mem_cons, List.not_mem_nil, or_false] at state
      rcases state with h | h | h | h | h | h | h <;> simp [State.earlyResponse, h, responseByState]
    · simp only [List.mem_cons, List.not_mem_nil, or_false] at state
      rcases state with h | h | h <;> simp [State.earlyResponse, h, responseByState]
    · simp [State.earlyResponse, state, responseByState, illegal long]
  · rcases answered with ⟨state, rfl⟩ | ⟨state, rfl⟩ | ⟨serves, long, rfl⟩
    · simp only [List.mem_cons, List.not_mem_nil, or_false] at state
      rcases state with h | h | h | h <;> simp [State.earlyResponse, h, responseByState]
    · simp only [List.mem_cons, List.not_mem_nil, or_false] at state
      rcases state with h | h | h <;> simp [State.earlyResponse, h, responseByState]
    · cases h : s.ctl.state <;> simp [h, DeviceState.servesReads] at serves <;>
        simp [State.earlyResponse, h, responseByState, illegal long]

/-! ### Writes that pass no admission -/

/-- A first write beat in OPEN is decoded, and the event ends (R142, R144). -/
theorem exec_writeDecoded {s : State} {word : BitVec 24} {hlen : BitVec 3} (lanes : Lanes) (data : MWord)
    (hp : s.presents hlen) (ho : s.ctl.state = .opened) :
    exec (.hostWriteFirstBeat word hlen lanes data) s
      = .next (State.settle s (s.truncate.decodeWrite word.toNat (2 ^ hlen.toNat) lanes data)) := by
  obtain ⟨reset, beat, legal⟩ := hp
  have early : s.truncate.earlyResponse true hlen = none := by
    simp [State.earlyResponse, responseByState, truncate_ctl, ho, lengthOf_legal legal]
  show Host.Outcome.next _ = _
  rw [if_pos (takesFirstBeat_of reset beat), early, lengthOf_legal legal]
  rfl

/-- Settles O28. -/
theorem writeRefusedByClass : Obligations.WriteRefusedByClass := by
  intro s word hlen lanes data hp ho refused
  have elsewhere : ¬(s.classOf word = .guarded ∨ s.classOf word = .plain) := by
    simp only [List.mem_cons, List.not_mem_nil, or_false] at refused
    rcases refused with h | h | h <;> rw [h] <;> decide
  have decoded : s.truncate.decodeWrite word.toNat (2 ^ hlen.toNat) lanes data
      = (s.closed .error LaneData.empty).raise .writeRefused s.epochNumber
          (refusedDetail (s.classOf word) (s.firstPortion word).region (word.toNat / 16)) := by
    have cls : ¬((s.dec.decode (4 * word.toNat)).1 = .guarded ∨ (s.dec.decode (4 * word.toNat)).1 = .plain) := elsewhere
    have epoch : s.truncate.epochNumber = s.epochNumber := by rw [State.epochNumber, truncate_ctl]; rfl
    simp only [State.decodeWrite, truncate_dec, if_neg cls, State.refuseWrite, closeBeat_eq, raise_closed, epoch]
    rw [← closeBeat_eq, truncate_closeBeat]
    rfl
  refine ⟨_, exec_writeDecoded lanes data hp ho, ?_⟩
  rw [decoded]
  refine settle_ends rfl fun c hc => ?_
  simp [State.closed] at hc

/-- A write beat that passes no admission (R145): posted with its gate and answered, where the queue takes it. -/
theorem offerWrite_posts {u : State} {c : Cycle} {p : Portion} {b : Beat} (hc : u.host.cycle = some c)
    (admitted : ¬(p.cls = .guarded ∧ b.first = true)) (ht : u.takesBeat c b (u.beatGate p)) :
    u.offerWrite c p b = (u.posted c.word b.lanes b.data p.cls (u.beatGate p)).answered c LaneData.empty := by
  unfold State.offerWrite
  rw [if_neg admitted, if_pos ht, post_eq]
  exact finishBeat_eq _ (by simp [hc])

/-- Else it is held (R62). -/
theorem offerWrite_holds {u : State} {c : Cycle} {p : Portion} {b : Beat}
    (admitted : ¬(p.cls = .guarded ∧ b.first = true)) (hr : b.reason = .queueFull) (ht : ¬u.takesBeat c b (u.beatGate p)) :
    u.offerWrite c p b = u.held b := by
  unfold State.offerWrite
  rw [if_neg admitted, if_neg ht, holdBeat_eq, ← hr]

/-- A beat that passes no admission, held for the queue's room, is held on through the grant (R62). -/
theorem settle_heldUnadmitted {before u v : State} {c : Cycle} {p : Portion} {b : Beat} (ho : u.ctl.state = .opened)
    (hc : u.host.cycle = some c) (hw : c.write = true) (hp : u.host.portion = some p)
    (admitted : ¬(p.cls = .guarded ∧ b.first = true)) (hr : b.reason = .queueFull) (hq : u.queue = before.queue)
    (ht : ¬u.takesBeat c b (u.beatGate p)) (same : v = u.held b) : (u.held b).endsIn (State.settle before v) := by
  rw [same]
  refine settle_heldOn (u := u.held b) ho hc hw
    (reoffer_notDue rfl (offerDue_queueFull hr (congrArg PostingQueue.entries hq))) ?_
  obtain ⟨n, queue⟩ := arbitrate_queue (u.held b).takeCapture
  have kept : (u.held b).takeCapture.queue = u.queue := by simp [State.held]
  obtain ⟨-, -, -, -, -, -, -, -, -, -, -, -, -, host, -⟩ := endsIn_grant (u.held b)
  generalize (u.held b).takeCapture.arbitrate = granted at *
  have gate : granted.beatGate p = u.beatGate p := by unfold State.beatGate; rw [host]; rfl
  have full : ¬granted.takesBeat c b (granted.beatGate p) := by
    rw [gate]
    rintro (none | room)
    · exact ht (.inl none)
    · rw [queue, kept] at room
      exact ht (.inr (accepts_markDraining n room))
  have beat : granted.host.beat = some b := by rw [host]; rfl
  refine reoffer_waitsOn (by rw [host]; exact hc) (by rw [host]; exact hp) beat ?_
  rw [offerWrite_holds admitted hr full]
  exact held_again beat (by rw [host]; rfl) (by rw [host]; rfl)

/-- Settles O29. -/
theorem plainWritePostedOrHeld : Obligations.PlainWritePostedOrHeld := by
  intro s word hlen lanes data hp ho plain
  have cls : (s.firstPortion word).cls = .plain := plain
  have admitted : ¬((s.firstPortion word).cls = .guarded ∧ (Beat.mk lanes (LaneData.select lanes data) true .queueFull).first = true) := by
    rw [cls]
    exact fun h => DecodeClass.noConfusion h.1
  have gate : (s.beganWrite word hlen).beatGate (s.firstPortion word) = .opened := if_neg (by rw [cls]; decide)
  have decoded : s.truncate.decodeWrite word.toNat (2 ^ hlen.toNat) lanes data
      = (s.beganWrite word hlen).offerWrite (firstCycle true word hlen) (s.firstPortion word)
          ⟨lanes, LaneData.select lanes data, true, .queueFull⟩ := by
    have class_ : (s.dec.decode (4 * word.toNat)).1 = .plain := plain
    have portion : s.firstPortion word = ⟨.plain, (s.dec.decode (4 * word.toNat)).2, granuleOf word.toNat⟩ := by
      rw [State.firstPortion, plain]; rfl
    simp only [State.decodeWrite, truncate_dec, class_, or_true, if_true, beginCycle_eq]
    rw [State.beganWrite, portion]
    rfl
  have takes : (s.beganWrite word hlen).takesBeat (firstCycle true word hlen) ⟨lanes, LaneData.select lanes data, true, .queueFull⟩
      ((s.beganWrite word hlen).beatGate (s.firstPortion word)) ↔ lanes = 0 ∨ s.queue.accepts word.toNat .opened = true := by
    rw [gate]
    exact beganWrite_takesBeat ..
  refine ⟨fun room => ⟨_, exec_writeDecoded lanes data hp ho, ?_⟩, fun lane full => ⟨_, exec_writeDecoded lanes data hp ho, ?_⟩⟩
  · rw [decoded, offerWrite_posts rfl admitted (takes.2 room), gate, cls]
    exact settle_ends rfl (answered_rests _ _ _)
  · have holds := mt takes.1 (not_or.2 ⟨lane, by simp [full]⟩)
    rw [decoded, offerWrite_holds admitted rfl holds]
    exact settle_heldUnadmitted (by simpa using ho) rfl rfl rfl admitted rfl (began_queue ..) holds rfl

/-- A later write beat in OPEN is offered, and outside it refused (R143, R145). -/
theorem exec_laterWrite {s : State} {c : Cycle} {p : Portion} (lanes : Lanes) (data : MWord) (reset : s.pins.resetLow = false)
    (hc : s.host.cycle = some c) (hw : c.write = true) (hp : s.host.portion = some p) (hb : s.host.beat = none) :
    exec (.hostWriteLaterBeat lanes data) s = .next (State.settle s (s.laterWrite c p lanes data)) := by
  have later : s.laterBeat true = some (c, p) := by simp [State.laterBeat, hc, hp, hb, reset, hw]
  show Host.Outcome.next _ = _
  rw [later]

/-- Settles O36. -/
theorem laterWriteBeatOffered : Obligations.LaterWriteBeatOffered := by
  intro s lanes data c p gate reset hc hw hp hb hgate
  have own : s.beatGate p = gate := by
    rcases hgate with ⟨guarded, portion⟩ | ⟨plain, rfl⟩
    · simp [State.beatGate, guarded, portion]
    · simp [State.beatGate, plain]
  have admitted : ¬(p.cls = .guarded ∧ (Beat.mk lanes (LaneData.select lanes data) false .queueFull).first = true) :=
    fun h => Bool.noConfusion h.2
  have runs := exec_laterWrite lanes data reset hc hw hp hb
  refine ⟨fun ho going => ?_, fun elsewhere => ⟨_, runs, ?_⟩⟩
  · have offered : s.laterWrite c p lanes data = s.offerWrite c p ⟨lanes, LaneData.select lanes data, false, .queueFull⟩ :=
      if_pos ⟨ho, going⟩
    rw [offered] at runs
    refine ⟨fun room => ⟨_, runs, ?_⟩, fun lane full => ⟨_, runs, ?_⟩⟩
    · have takes : s.takesBeat c ⟨lanes, LaneData.select lanes data, false, .queueFull⟩ (s.beatGate p) := by rw [own]; exact room
      rw [offerWrite_posts hc admitted takes, own]
      exact settle_ends rfl (answered_rests _ _ _)
    · have holds : ¬s.takesBeat c ⟨lanes, LaneData.select lanes data, false, .queueFull⟩ (s.beatGate p) := by
        rw [own]
        rintro (none | room)
        · exact lane none
        · simp [full] at room
      rw [offerWrite_holds admitted rfl holds]
      exact settle_heldUnadmitted ho hc hw hp admitted rfl rfl holds rfl
  · have refused : s.laterWrite c p lanes data = s.closed .busy LaneData.empty := if_neg fun h => elsewhere h.1
    rw [refused]
    exact settle_ends rfl (closed_rests _ _ _)

/-! ### Reads -/

/-- A beat's host read requested (R148). -/
theorem requestRead_free {u : State} {c : Cycle} {b : Beat} (h : u.host.read = none) :
    u.requestRead c b = (u.held { b with reason := .wordPending }).readRequested c.word
      (1 + u.queue.freeRun (c.word + 1) (min c.remaining (16 - c.word % 16) - 1)) := by
  unfold State.requestRead
  rw [if_neg (by simp [h])]
  rfl

/-- Or waited for behind another (R148). -/
theorem requestRead_outstanding {u : State} {c : Cycle} {b : Beat} (h : u.host.read ≠ none) :
    u.requestRead c b = u.held { b with reason := .readPending } :=
  if_pos (Option.isSome_iff_ne_none.2 h)

section Serving

variable {u : State} {c : Cycle} {b : Beat}

theorem serveRead_empty (hc : u.host.cycle = some c) (hl : b.lanes = 0) : u.serveRead c b = u.answered c LaneData.empty :=
  (if_pos hl).trans (finishBeat_eq _ hc)

theorem serveRead_arrived {data : MWord} {merr : Bool} (hl : b.lanes ≠ 0) (hp : u.host.place c.word = some (.arrived data merr)) :
    u.serveRead c b = u.answerWord c.word b.lanes data merr := by
  unfold State.serveRead
  rw [if_neg hl, hp]

theorem serveRead_requested (hl : b.lanes ≠ 0) (hp : u.host.place c.word = some .requested) :
    u.serveRead c b = u.held { b with reason := .wordPending } := by
  unfold State.serveRead
  rw [if_neg hl, hp]
  rfl

theorem serveRead_covered (hc : u.host.cycle = some c) (hl : b.lanes ≠ 0) (hp : u.host.place c.word = none)
    (hm : u.queue.matching c.word ≠ []) (covered : LaneData.covers b.lanes (u.queue.forwarded c.word) = true) :
    u.serveRead c b = u.answered c (LaneData.restrict b.lanes (u.queue.forwarded c.word)) := by
  unfold State.serveRead
  rw [if_neg hl, hp]
  dsimp only
  rw [if_neg (by simpa [List.isEmpty_iff] using hm), if_pos covered, finishBeat_eq _ hc]

theorem serveRead_partly (hl : b.lanes ≠ 0) (hp : u.host.place c.word = none) (hm : u.queue.matching c.word ≠ [])
    (covered : LaneData.covers b.lanes (u.queue.forwarded c.word) = false) :
    u.serveRead c b = u.held { b with reason := .partlyCovered } := by
  unfold State.serveRead
  rw [if_neg hl, hp]
  dsimp only
  rw [if_neg (by simpa [List.isEmpty_iff] using hm), if_neg (by simp [covered]), holdBeat_eq]

theorem serveRead_memory (hl : b.lanes ≠ 0) (hp : u.host.place c.word = none) (hm : u.queue.matching c.word = []) :
    u.serveRead c b = u.requestRead c b := by
  unfold State.serveRead
  rw [if_neg hl, hp]
  dsimp only
  rw [if_pos (by simp [hm])]

/-- A read requested as its event ends (R148). -/
theorem settle_requestRead (before : State) (hc : u.host.cycle = some c) (hw : c.write = false) (hr : u.host.read = none) :
    ((u.held { b with reason := .wordPending }).readRequested c.word
        (1 + u.queue.freeRun (c.word + 1) (min c.remaining (16 - c.word % 16) - 1))).endsIn
          (State.settle before (u.requestRead c b))
      ∧ (State.settle before (u.requestRead c b)).host.read.map (fun r => (r.start, r.length, r.stale)) = some (c.word,
          1 + u.queue.freeRun (c.word + 1) (min c.remaining (16 - c.word % 16) - 1), false) := by
  have rests : ((u.held { b with reason := .wordPending }).readRequested c.word
      (1 + u.queue.freeRun (c.word + 1) (min c.remaining (16 - c.word % 16) - 1))).rests :=
    held_rests (b := { b with reason := .wordPending }) hc hw (fun h => WaitReason.noConfusion h)
  rw [requestRead_free hr]
  exact ⟨settle_endsIn before rests, settle_read before rests⟩

end Serving

/-- A first read beat in the states that serve reads is decoded (R142, R147). -/
theorem exec_readDecoded {s : State} {word : BitVec 24} {hlen : BitVec 3} (lanes : Lanes) (hp : s.presents hlen)
    (serves : s.ctl.state.servesReads = true) :
    exec (.hostReadFirstBeat word hlen lanes) s
      = .next (State.settle s (s.truncate.decodeRead word.toNat (2 ^ hlen.toNat) lanes)) := by
  obtain ⟨reset, beat, legal⟩ := hp
  have early : s.truncate.earlyResponse false hlen = none := by
    cases h : s.ctl.state <;> simp [h, DeviceState.servesReads] at serves <;>
      simp [State.earlyResponse, truncate_ctl, h, responseByState, lengthOf_legal legal]
  show Host.Outcome.next _ = _
  rw [if_pos (takesFirstBeat_of reset beat), early, lengthOf_legal legal]
  rfl

/-- Settles O37. -/
theorem firstReadBeatServed : Obligations.FirstReadBeatServed := by
  intro s word hlen lanes hp serves
  have runs := exec_readDecoded (word := word) lanes hp serves
  have cls : (s.dec.decode (4 * word.toNat)).1 = s.classOf word := rfl
  refine ⟨fun outside => ⟨_, runs, ?_⟩, fun guarded rolling => ⟨_, runs, ?_⟩, fun accepted going => ?_⟩
  · have decoded : s.truncate.decodeRead word.toNat (2 ^ hlen.toNat) lanes = s.closed .error LaneData.empty := by
      simp only [List.mem_cons, List.not_mem_nil, or_false] at outside
      simp only [State.decodeRead, truncate_dec, cls, if_pos outside, truncate_closeBeat]
    rw [decoded]
    exact settle_ends rfl (closed_rests _ _ _)
  · have decoded : s.truncate.decodeRead word.toNat (2 ^ hlen.toNat) lanes = s.closed .busy LaneData.empty := by
      simp [State.decodeRead, truncate_dec, cls, guarded, truncate_ctl, rolling, truncate_closeBeat]
    rw [decoded]
    exact settle_ends rfl (closed_rests _ _ _)
  · have decoded : s.truncate.decodeRead word.toNat (2 ^ hlen.toNat) lanes
        = (s.began (firstCycle false word hlen) (s.firstPortion word)).serveRead (firstCycle false word hlen)
            ⟨lanes, LaneData.empty, true, .queueFull⟩ := by
      have inside : ¬(s.classOf word = .reserved ∨ s.classOf word = .outside) := by
        simp only [List.mem_cons, List.not_mem_nil, or_false] at accepted
        rcases accepted with h | h | h <;> rw [h] <;> decide
      simp only [State.decodeRead, truncate_dec, cls, if_neg inside, truncate_ctl, if_neg going, beginCycle_eq]
      rfl
    rw [decoded] at runs
    generalize hu : s.began (firstCycle false word hlen) (s.firstPortion word) = u at *
    have hc : u.host.cycle = some (firstCycle false word hlen) := by rw [← hu]; rfl
    have empty : u.host.place word.toNat = none := by rw [← hu]; rfl
    have queue : s.queue = u.queue := by rw [← hu, began_queue]
    rw [queue]
    refine ⟨fun none => ⟨_, runs, ?_⟩, fun lane matched covered => ⟨_, runs, ?_⟩, fun lane matched covered => ⟨_, runs, ?_⟩,
      fun lane unmatched free => ⟨_, runs, ?_⟩, fun lane unmatched taken => ⟨_, runs, ?_⟩⟩
    · rw [serveRead_empty (b := ⟨lanes, LaneData.empty, true, .queueFull⟩) hc none]
      exact settle_ends rfl (answered_rests _ _ _)
    · rw [serveRead_covered (b := ⟨lanes, LaneData.empty, true, .queueFull⟩) hc lane empty matched covered]
      exact settle_ends rfl (answered_rests _ _ _)
    · rw [serveRead_partly (b := ⟨lanes, LaneData.empty, true, .queueFull⟩) lane empty matched covered]
      exact settle_ends rfl (held_rests hc rfl fun _ => matched)
    · rw [serveRead_memory (b := ⟨lanes, LaneData.empty, true, .queueFull⟩) lane empty unmatched]
      exact settle_requestRead s hc rfl free
    · have rests : (u.held ⟨lanes, LaneData.empty, true, .readPending⟩).rests :=
        held_rests hc rfl (fun h => WaitReason.noConfusion h)
      rw [serveRead_memory (b := ⟨lanes, LaneData.empty, true, .queueFull⟩) lane empty unmatched, requestRead_outstanding taken]
      refine ⟨settle_ends rfl rests, fun cycle => ?_⟩
      have left : u.host.read = s.host.leftRead := by
        rw [← hu]
        simp only [State.began, if_pos cycle]
        rfl
      have granted : ∀ r ∈ u.host.read, r.granted = true ∧ r.stale = true := by
        rw [left]
        intro r hr
        unfold HostPort.leftRead at hr
        split at hr
        · split at hr
          · obtain rfl := Option.some.inj hr
            exact ⟨‹_›, rfl⟩
          · cases hr
        · cases hr
      refine settle_leftRead rfl rests (fun r hr => (granted r hr).1) ?_
      obtain ⟨r, hr⟩ := Option.ne_none_iff_exists'.1 taken
      obtain ⟨g, stale⟩ := granted r hr
      show u.host.read.map _ = _
      rw [hr, Option.map_some, g, stale]

/-- Settles O38. -/
theorem laterReadBeatServed : Obligations.LaterReadBeatServed := by
  intro s lanes c p reset hc hw hp hb
  have later : s.laterBeat false = some (c, p) := by simp [State.laterBeat, hc, hp, hb, reset, hw]
  have runs : exec (.hostReadLaterBeat lanes) s = .next (State.settle s (if s.ctl.state.servesReads then
      s.serveRead c ⟨lanes, LaneData.empty, false, .queueFull⟩ else s.closeBeat .busy LaneData.empty)) := by
    show Host.Outcome.next _ = _
    rw [later]
    rfl
  refine ⟨fun stopped => ⟨_, runs, ?_⟩, fun serves none => ⟨_, runs, ?_⟩, fun serves lane => ?_⟩
  · have refuses : s.ctl.state.servesReads = false := by rcases stopped with h | h <;> rw [h] <;> rfl
    rw [refuses]
    exact settle_ends rfl (closed_rests _ _ _)
  · rw [if_pos serves, serveRead_empty hc none]
    exact settle_ends rfl (answered_rests _ _ _)
  · rw [if_pos serves] at runs
    refine ⟨fun d hd w word => ⟨_, runs, ?_⟩, fun d hd w word => ⟨_, runs, ?_⟩, fun requested => ⟨_, runs, ?_⟩,
      fun empty matched => ⟨fun covered => ⟨_, runs, ?_⟩, fun covered => ⟨_, runs, ?_⟩⟩,
      fun empty unmatched => ⟨fun taken => ⟨_, runs, ?_⟩, fun free => ⟨_, runs, ?_⟩⟩⟩
    · obtain ⟨rfl⟩ : d = .arrived w false := by
        cases d with
        | requested => cases word
        | arrived v m => cases m <;> simp_all [Place.wordOf]
      rw [serveRead_arrived (b := ⟨lanes, LaneData.empty, false, .queueFull⟩) lane hd]
      rw [State.answerWord, if_neg Bool.false_ne_true, finishBeat_eq _ hc]
      exact settle_ends rfl (answered_rests _ _ _)
    · obtain ⟨rfl⟩ : d = .arrived w true := by
        cases d with
        | requested => cases word
        | arrived v m => cases m <;> simp_all [Place.wordOf]
      rw [serveRead_arrived (b := ⟨lanes, LaneData.empty, false, .queueFull⟩) lane hd]
      rw [State.answerWord, if_pos rfl, State.failRead, closeBeat_eq, raise_closed]
      refine settle_ends rfl fun d hd => ?_
      simp [State.closed] at hd
    · rw [serveRead_requested (b := ⟨lanes, LaneData.empty, false, .queueFull⟩) lane requested]
      exact settle_ends rfl (held_rests hc hw (fun h => WaitReason.noConfusion h))
    · rw [serveRead_covered (b := ⟨lanes, LaneData.empty, false, .queueFull⟩) hc lane empty matched covered]
      exact settle_ends rfl (answered_rests _ _ _)
    · rw [serveRead_partly (b := ⟨lanes, LaneData.empty, false, .queueFull⟩) lane empty matched covered]
      exact settle_ends rfl (held_rests hc hw fun _ => matched)
    · rw [serveRead_memory (b := ⟨lanes, LaneData.empty, false, .queueFull⟩) lane empty unmatched, requestRead_outstanding (Option.isSome_iff_ne_none.1 taken)]
      exact settle_ends rfl (held_rests hc hw (fun h => WaitReason.noConfusion h))
    · rw [serveRead_memory (b := ⟨lanes, LaneData.empty, false, .queueFull⟩) lane empty unmatched]
      exact settle_requestRead s hc hw free

end Sys2Proof.Machine
end

section
/-! PFW and the completions in PARKING (chapter 8). -/

namespace Sys2Proof.Machine

/-! ### PFW taken -/

/-- The host port as PFW leaves it (R129). -/
def HostPort.parked (h : HostPort) : HostPort :=
  if h.beat.isSome then ⟨none, none, none, none, [], h.leftRead, .busy, LaneData.empty⟩ else { h with read := h.leftRead }

theorem parkHost_eq (s : State) : s.parkHost = s.setHost s.host.parked := by
  unfold State.parkHost HostPort.parked
  split <;> rfl

/-- PARKING entered, block by block (R71, R128, R129). -/
theorem enterParking_eq (s : State) : s.enterParking = { s with
    ctl := s.ctl.park, header := s.header.park, engine := s.engine.park, host := s.host.parked
    queue := { s.queue with entries := s.queue.entries.filter QueueEntry.draining, mark := none }
    port := { s.port with aging := if (s.queue.entries.filter QueueEntry.draining).isEmpty then 0 else s.port.aging } } := by
  simp only [State.enterParking, parkHost_eq, State.keepEntries, State.setCtl, State.setHeader, State.setEngine, State.setHost,
    State.setQueue, State.setPort]

/-- The detail of POWER_PARKED is the code of the state left (R132, R176). -/
theorem parkedDetail_eq (d : DeviceState) : 0#8 ++ 0#8 ++ 0#8 ++ d.code = BitVec.ofNat 32 d.code.toNat := by
  cases d <;> rfl

/-- Settles O22. -/
theorem pfwParksTheDevice : Obligations.PfwParksTheDevice := by
  intro s released
  have taken : exec .pfwTaken s = .next (if s.ctl.state = .parking ∨ s.ctl.state = .parked then
        (s.setPins { s.pins with pfw := true }).setCtl { s.ctl with again := none }
      else if s.port.op.isSome then (s.setPins { s.pins with pfw := true }).enterParking
      else (s.setPins { s.pins with pfw := true }).enterParking.noteParked) :=
    congrArg Host.Outcome.next (if_neg (by simp [released]))
  refine ⟨fun stopped => by rw [taken, if_pos stopped]; rfl, fun parking parked => ?_⟩
  have engine : ∀ e : RollbackEngine, (e.granted = true → e.park = e) ∧ (e.granted = false → e.park.phase = .idle) := by
    intro e
    cases h : e.granted <;> simp [RollbackEngine.park, h, RollbackEngine.toIdle]
  have host : (s.host.beat.isSome → s.host.parked = (s.closed .busy LaneData.empty).host)
      ∧ (s.host.beat = none → s.host.parked = { s.host with read := (s.closed .busy LaneData.empty).host.read }) :=
    ⟨fun beat => if_pos beat, fun none => if_neg (by simp [none])⟩
  rw [taken, if_neg (by simp [parking, parked])]
  by_cases busy : s.port.op.isSome = true
  · refine ⟨_, congrArg Host.Outcome.next (if_pos busy), ?_⟩
    rw [enterParking_eq]
    refine ⟨rfl, rfl, fun _ => ⟨rfl, rfl⟩, fun idle => by simp [idle] at busy, rfl, rfl, rfl, rfl, rfl, rfl, rfl, rfl, rfl,
      rfl, (engine _).1, (engine _).2, host.1, host.2⟩
  · refine ⟨_, congrArg Host.Outcome.next (if_neg busy), ?_⟩
    have left : (s.setPins { s.pins with pfw := true }).enterParking.ctl.parkedFrom = some s.ctl.state := by
      rw [enterParking_eq]; rfl
    rw [noteParked_eq, parked_eq rfl rfl left]
    simp only [raise_keeps]
    rw [enterParking_eq]
    refine ⟨rfl, rfl, fun some => absurd some busy, fun _ => ⟨rfl, fun room => ?_, fun full => ?_⟩, rfl, rfl, rfl, rfl, rfl, rfl,
      rfl, rfl, rfl, rfl, (engine _).1, (engine _).2, host.1, host.2⟩
    · rw [raise_joins (by exact room), parkedDetail_eq]
      rfl
    · rw [raise_lost (by exact full)]
      rfl

/-! ### A completion in PARKING -/

/-- A restart from PARKED (R1, R133). -/
theorem volatileReset_startUp (u : State) : u.volatileReset.startUp = u.restarted := by
  rw [volatileReset_eq]
  unfold State.restarted
  split
  · rename_i illegal
    exact startUp_illegal illegal
  · rename_i legal
    have below : u.pins.msz.toNat < 7 := by
      have := u.pins.msz.isLt
      have other : u.pins.msz.toNat ≠ 7 := fun h => legal (BitVec.eq_of_toNat_eq h)
      omega
    exact startUp_legal below rfl

/-- What follows a completion in PARKING whose effects make `u` (R130, R132, R133). -/
theorem parksAs_of {s u : State} {c : Instr} (completes : exec c s = .next (State.afterCompletion s u))
    (parking : u.ctl.state = .parking) (pins : u.pins = s.pins) (again : u.ctl.again = s.ctl.again) : s.parksAs c u := by
  show exec c s = _
  rw [completes, afterCompletion_parking parking]
  cases pfw : s.pins.pfw with
  | true => rw [enterParked_held (by rw [pins, pfw])]; rfl
  | false =>
    have low : u.pins.pfw = false := by rw [pins, pfw]
    cases ha : s.ctl.again with
    | none =>
      rw [enterParked_released low (by rw [again, ha]), volatileReset_startUp]
      rfl
    | some order =>
      have same : u.parked.pins = u.pins := by simp [State.parked, State.entering]
      rw [enterParked_again low (by rw [again, ha]), same]
      exact congrArg Host.Outcome.next (parkAtStart_cleared (u.parked.setPins { u.pins with pfw := true }) order)

/-- The one CAPTURING entry of a granule holds one reservation (R39, R42). -/
theorem capturingCount_of_granule {es : List TableEntry} {g : Nat} (distinct : (es.map TableEntry.granule).Nodup)
    (present : (⟨g, .capturing⟩ : TableEntry) ∈ es) : capturingCount (es.filter fun e => e.granule == g) = 1 := by
  induction es with
  | nil => simp at present
  | cons e rest ih =>
    simp only [List.map_cons, List.nodup_cons] at distinct
    by_cases same : e.granule = g
    · have mine : e = ⟨g, .capturing⟩ := by
        rcases List.mem_cons.1 present with h | h
        · exact h.symm
        · exact absurd (List.mem_map_of_mem (f := TableEntry.granule) h) (by rw [show (TableEntry.mk g .capturing).granule = e.granule from same.symm]; exact distinct.1)
      have others : rest.filter (fun e => e.granule == g) = [] := by
        rw [List.filter_eq_nil_iff]
        intro f hf other
        exact distinct.1 (by rw [same, ← beq_iff_eq.1 other]; exact List.mem_map_of_mem hf)
      rw [List.filter_cons_of_pos (by simp [same]), others, mine]
      rfl
    · rw [List.filter_cons_of_neg (by simp [same])]
      refine ih distinct.2 ((List.mem_cons.1 present).resolve_left ?_)
      rintro rfl
      exact same rfl

/-- The granule of the capture in flight is CAPTURING in the table (R25). -/
theorem inFlight_entry {s : State} {g : Nat} (h : s.inFlight) (busy : s.capture.phase ≠ .idle) (hg : s.capture.granule = some g) :
    (⟨g, .capturing⟩ : TableEntry) ∈ s.table.entries := by
  obtain ⟨e, he, capturing, granule⟩ := h.2 busy
  obtain rfl : g = e.granule := Option.some.inj (hg.symm.trans granule)
  rw [← capturing]
  exact he

/-- A record write's end in the table (R29, R42, R53). -/
theorem complete_eq {t : GranuleTable} {g : Nat} (lawful : t.lawful) (present : (⟨g, .capturing⟩ : TableEntry) ∈ t.entries) :
    t.complete g = { t with
      entries := if t.status = some .broken then t.entries.filter fun e => e.granule ≠ g
        else t.entries.map fun e => if e.granule = g then ⟨g, .logged⟩ else e
      reservations := t.reservations - 1 } := by
  obtain ⟨-, distinct, -, -⟩ := lawful
  have one := capturingCount_of_granule distinct present
  unfold GranuleTable.complete
  split
  · rename_i broken
    unfold GranuleTable.drop
    rw [one]
    congr 2
    funext e
    by_cases h : e.granule = g <;> simp [h]
  · unfold GranuleTable.logEntry
    rw [one]
    congr 2
    funext e
    by_cases h : e.granule = g
    · subst h; simp
    · simp [h]

/-- What is not removed keeps its reservations (R42). -/
theorem drop_eq {t : GranuleTable} (lawful : t.lawful) (gone : TableEntry → Bool) : t.drop gone = { t with
    entries := t.entries.filter fun e => !gone e
    reservations := capturingCount (t.entries.filter fun e => !gone e) } := by
  obtain ⟨-, -, -, reserved⟩ := lawful
  have parts : capturingCount t.entries
      = capturingCount (t.entries.filter gone) + capturingCount (t.entries.filter fun e => !gone e) := by
    unfold capturingCount
    rw [List.countP_eq_countP_filter_add]
  unfold GranuleTable.drop
  rw [reserved, parts, Nat.add_sub_cancel_left]

/-- A completed header's effects (R112). -/
theorem selectWritten_eq (s : State) (target : Slot) (h : HeaderRecord) : s.selectWritten target h = s.headerWritten target h := by
  cases target <;> rfl

/-- A watermark test and a turn of gates are made in either order. -/
theorem turned_watermarkTest (s : State) (f : Gate → Gate) : (s.turned f).watermarkTest = s.watermarkTest.turned f := by
  unfold State.watermarkTest
  cases active : s.header.active with
  | none => simp [State.turned, active]
  | some c =>
    simp only [State.turned, setHost_header, setQueue_header, active]
    by_cases room : c.threshold ≤ s.capture.tail + s.table.reservations
    · rw [if_pos (c := c.threshold ≤ s.capture.tail + s.table.reservations) room]
      exact if_pos room
    · rw [if_neg (c := c.threshold ≤ s.capture.tail + s.table.reservations) room]
      exact if_neg room

/-- A completed mark write's effects (R53). -/
theorem takeMark_eq {s : State} {w : WriteRequest} {h : HeaderRecord} (lawful : s.table.lawful) (content : w.content = some h) :
    s.takeMark w = ((((((s.headerWritten w.target h).setTable { s.table with
      status := some .broken
      entries := s.table.entries.filter fun e => some e.granule = s.capture.granule
      reservations := capturingCount (s.table.entries.filter fun e => some e.granule = s.capture.granule)
        }).watermarkTest).turned fun gate => if gate = .waitMark then .opened else gate).raise .epochBroken h.epoch
          (BitVec.ofNat 32 s.capture.tail)).withBroken) := by
  have gates : Gate.afterMark = fun gate => if gate = .waitMark then .opened else gate := funext afterMark_eq
  have header : w.header = h := by rw [WriteRequest.header, content]; rfl
  have broken : ({ s.table with status := some .broken } : GranuleTable).lawful := lawful
  have left : (fun e : TableEntry => !(some e.granule != s.capture.granule)) = fun e => decide (some e.granule = s.capture.granule) := by
    funext e
    by_cases same : some e.granule = s.capture.granule <;> simp [same]
  have table := drop_eq broken fun e => some e.granule != s.capture.granule
  rw [left] at table
  have dropped : (((s.headerWritten w.target h).setTable { s.table with status := some .broken }).mapGates Gate.afterMark).dropEntries
      (fun e => some e.granule != s.capture.granule)
      = (((s.headerWritten w.target h).setTable { s.table with
          status := some .broken
          entries := s.table.entries.filter fun e => some e.granule = s.capture.granule
          reservations := capturingCount (s.table.entries.filter fun e => some e.granule = s.capture.granule)
            }).watermarkTest).turned fun gate => if gate = .waitMark then .opened else gate := by
    rw [← turned_watermarkTest, gates, mapGates_eq]
    show (((((s.headerWritten w.target h).setTable _).turned _).setTable
      (({ s.table with status := some .broken } : GranuleTable).drop _)).watermarkTest) = _
    rw [table]
    rfl
  rw [← dropped]
  unfold State.takeMark
  simp only [header, selectWritten_eq]
  have epoch : ((((s.headerWritten w.target h).setTable { s.table with status := some .broken }).mapGates Gate.afterMark).dropEntries
      (fun e => some e.granule != s.capture.granule)).epochNumber = h.epoch := by
    simp [State.epochNumber, State.dropEntries]
    rfl
  have tail : ((((s.headerWritten w.target h).setTable { s.table with status := some .broken }).mapGates Gate.afterMark).dropEntries
      (fun e => some e.granule != s.capture.granule)).capture.tail = s.capture.tail := by
    simp [State.dropEntries]
    rfl
  rw [← epoch, ← tail]
  rfl

/-- A seal that left the configuration as it stands (R89). -/
theorem applySeal_kept {s : State} {w : WriteRequest} (h : HeaderRecord) (kept : w.wrotePending = false) :
    s.applySeal w h = (s.headerWritten w.target h).newEpoch := by
  unfold State.applySeal
  rw [selectWritten_eq, kept]
  rfl

/-- A seal that took the pending configuration (R89, R114). -/
theorem applySeal_took {s : State} {w : WriteRequest} (h : HeaderRecord) (took : w.wrotePending = true) :
    s.applySeal w h = (((s.headerWritten w.target h).configuredBy h.config (if w.newer then s.header.pendingConfig else none)).raise
      .configApplied h.epoch (BitVec.ofNat 32 h.config.capacity.toNat)).newEpoch := by
  unfold State.applySeal
  rw [selectWritten_eq, took]
  rfl

/-- A beat is offered again in OPEN alone (R146). -/
theorem reoffer_elsewhere {before u : State} (h : u.ctl.state ≠ .opened) : State.reoffer before u = u := by
  unfold State.reoffer
  split
  · exact if_neg fun due => h due.1
  · rfl

/-- Without a flush mark there is nothing to test (R73). -/
theorem flushTest_unmarked {u : State} (h : u.queue.mark = none) : u.flushTest = u := by
  simp [State.flushTest, PostingQueue.flushed, h]

/-- A remembered request is taken in OPEN alone (R78). -/
theorem takeRemembered_elsewhere {u : State} (h : u.ctl.state ≠ .opened) : u.takeRemembered = u := by
  unfold State.takeRemembered
  split
  · exact if_neg fun taken => h taken.1
  · rfl

/-- A completion whose effects make `u`. -/
theorem onCompletion {s u : State} {k : OpKind} {o : MemOp} {effect : MemOp → State} (underway : s.completing k = .underway o)
    (made : effect o = u) :
    s.onOperation k (fun o => State.afterCompletion s (effect o)) = .next (State.afterCompletion s u) := by
  rw [onOperation_underway _ underway, made]

/-- A header write's completion whose effects make `u`. -/
theorem onHeaderWrite_completes {s u : State} {o : MemOp} {w : WriteRequest} (mine : WriteKind → Bool)
    (effect : State → WriteRequest → State) (underway : s.completing .headerWrite = .underway o)
    (request : s.header.writeRequest = some w) (kind : mine w.kind = true) (made : effect (s.ended o) w = u) :
    s.onHeaderWrite mine effect = .next (State.afterCompletion s u) := by
  unfold State.onHeaderWrite
  rw [onOperation_underway _ underway, request]
  exact congrArg Host.Outcome.next ((if_pos kind).trans (congrArg (State.afterCompletion s) made))

theorem WriteRequest.header_eq {w : WriteRequest} {h : HeaderRecord} (content : w.content = some h) : w.header = h := by
  rw [WriteRequest.header, content]; rfl

/-- A new epoch touches the capture unit, the table and the alarm conditions alone (R20, R36, R56). -/
@[simp] theorem newEpoch_keeps (s : State) :
    s.newEpoch.pins = s.pins ∧ s.newEpoch.mem = s.mem ∧ s.newEpoch.dec = s.dec ∧ s.newEpoch.queue = s.queue
      ∧ s.newEpoch.ctl = s.ctl ∧ s.newEpoch.engine = s.engine ∧ s.newEpoch.header = s.header ∧ s.newEpoch.port = s.port
      ∧ s.newEpoch.host = s.host ∧ s.newEpoch.link = s.link ∧ s.newEpoch.events = s.events ∧ s.newEpoch.pending = s.pending := by
  and_intros <;> rfl

/-- A header written touches the header unit and the epoch number alone (R112). -/
@[simp] theorem headerWritten_keeps (s : State) (slot : Slot) (h : HeaderRecord) :
    (s.headerWritten slot h).pins = s.pins ∧ (s.headerWritten slot h).mem = s.mem ∧ (s.headerWritten slot h).dec = s.dec
      ∧ (s.headerWritten slot h).capture = s.capture ∧ (s.headerWritten slot h).table = s.table
      ∧ (s.headerWritten slot h).queue = s.queue ∧ (s.headerWritten slot h).ctl = { s.ctl with epoch := some h.epoch }
      ∧ (s.headerWritten slot h).engine = s.engine ∧ (s.headerWritten slot h).port = s.port
      ∧ (s.headerWritten slot h).host = s.host ∧ (s.headerWritten slot h).link = s.link
      ∧ (s.headerWritten slot h).events = s.events ∧ (s.headerWritten slot h).alarms = s.alarms
      ∧ (s.headerWritten slot h).pending = s.pending := by
  and_intros <;> rfl

/-- A configuration become active touches the header unit and the decoder alone (R7, R8, R114). -/
@[simp] theorem configuredBy_keeps (s : State) (c : Configuration) (p : Option Configuration) :
    (s.configuredBy c p).pins = s.pins ∧ (s.configuredBy c p).mem = s.mem ∧ (s.configuredBy c p).capture = s.capture
      ∧ (s.configuredBy c p).table = s.table ∧ (s.configuredBy c p).queue = s.queue ∧ (s.configuredBy c p).ctl = s.ctl
      ∧ (s.configuredBy c p).engine = s.engine ∧ (s.configuredBy c p).port = s.port ∧ (s.configuredBy c p).host = s.host
      ∧ (s.configuredBy c p).link = s.link ∧ (s.configuredBy c p).events = s.events ∧ (s.configuredBy c p).alarms = s.alarms
      ∧ (s.configuredBy c p).pending = s.pending := by
  and_intros <;> rfl

/-- Gates turn in the queue and on the portion alone (R49, R63). -/
@[simp] theorem turned_keeps (s : State) (f : Gate → Gate) :
    (s.turned f).pins = s.pins ∧ (s.turned f).mem = s.mem ∧ (s.turned f).dec = s.dec ∧ (s.turned f).capture = s.capture
      ∧ (s.turned f).table = s.table ∧ (s.turned f).ctl = s.ctl ∧ (s.turned f).engine = s.engine ∧ (s.turned f).header = s.header
      ∧ (s.turned f).port = s.port ∧ (s.turned f).link = s.link ∧ (s.turned f).events = s.events
      ∧ (s.turned f).alarms = s.alarms ∧ (s.turned f).pending = s.pending ∧ (s.turned f).host.cycle = s.host.cycle
      ∧ (s.turned f).host.beat = s.host.beat ∧ (s.turned f).host.portion = s.host.portion := by
  and_intros <;> rfl

/-- The alarm condition BROKEN is an alarm condition alone (R53). -/
@[simp] theorem withBroken_keeps (s : State) :
    s.withBroken.pins = s.pins ∧ s.withBroken.mem = s.mem ∧ s.withBroken.dec = s.dec ∧ s.withBroken.capture = s.capture
      ∧ s.withBroken.table = s.table ∧ s.withBroken.queue = s.queue ∧ s.withBroken.ctl = s.ctl ∧ s.withBroken.engine = s.engine
      ∧ s.withBroken.header = s.header ∧ s.withBroken.port = s.port ∧ s.withBroken.host = s.host ∧ s.withBroken.link = s.link
      ∧ s.withBroken.events = s.events ∧ s.withBroken.pending = s.pending := by
  and_intros <;> rfl

/-- A memory operation's end touches the memory and the port alone (R152, R156). -/
@[simp] theorem ended_keeps (s : State) (o : MemOp) :
    (s.ended o).pins = s.pins ∧ (s.ended o).dec = s.dec ∧ (s.ended o).capture = s.capture ∧ (s.ended o).table = s.table
      ∧ (s.ended o).queue = s.queue ∧ (s.ended o).ctl = s.ctl ∧ (s.ended o).engine = s.engine ∧ (s.ended o).header = s.header
      ∧ (s.ended o).host = s.host ∧ (s.ended o).link = s.link ∧ (s.ended o).events = s.events ∧ (s.ended o).alarms = s.alarms
      ∧ (s.ended o).pending = s.pending := by
  and_intros <;> rfl

/-- A pre-image read that returned MERR is reported (R30, R31, R33). -/
theorem noteFailure_eq {s : State} {g : Nat} (merr : List BadBeat) (granule : s.capture.granule = some g) :
    s.noteFailure merr = if merr = [] then s else s.raise .captureFailed s.epochNumber (BitVec.ofNat 32 g) := by
  simp [State.noteFailure, List.isEmpty_iff, granule]

/-- Settles O23. -/
theorem completionInParkingParks : Obligations.CompletionInParkingParks := by
  intro s merr o g w h r judged read parking consistent lawful
  obtain ⟨-, -, -, -, -, -, -, -, -, inFlight, ⟨-, -, -, -, -, stopped⟩, -⟩ := consistent
  obtain ⟨-, unasked, -, unmarked, -, -⟩ := stopped (by rw [parking]; rfl)
  have closed : s.ctl.state ≠ .opened := by rw [parking]; decide
  refine ⟨fun underway => ?_, fun underway last => ?_, fun underway granule => ?_, fun underway granule => ?_, fun underway => ?_,
    fun underway => ?_, fun underway slot judges reads => ?_, fun underway request =>
      ⟨fun kind content => ?_, fun kind content kept => ?_, fun kind content took => ?_, fun kind content => ?_, fun kind => ?_,
        fun kind content => ?_⟩⟩
  · refine parksAs_of (onCompletion underway ?_) parking rfl rfl
    rw [keepEntries_eq, reoffer_elsewhere (by exact closed), flushTest_unmarked (by exact unmarked)]
  · refine parksAs_of (u := (s.ended o).setHost { s.host with read := none }) ?_ parking rfl rfl
    refine (onOperation_underway _ underway).trans (congrArg Host.Outcome.next ((if_pos last).trans ?_))
    exact congrArg (State.afterCompletion s) (if_pos (by exact parking))
  · refine parksAs_of (onCompletion underway ?_) ?_ ?_ ?_
    · rw [State.takePreImage, if_pos (by exact parking), noteFailure_eq merr (by exact granule)]
      split <;> simp <;> rfl
    all_goals split <;> simp [parking]
  · obtain ⟨-, -, waits, -⟩ := completing_underway.1 underway
    have busy : s.capture.phase ≠ .idle := by
      simp only [State.ownerWaits, Bool.and_eq_true, beq_iff_eq] at waits
      rw [waits.1]
      decide
    have table := complete_eq lawful (inFlight_entry inFlight busy granule)
    refine parksAs_of (onCompletion underway ?_) (by simpa using parking) (by simp) (by simp)
    rw [State.completeCapture, if_pos (by exact parking), finishOp_eq]
    rw [← table]
    show State.watermarkTest (((s.ended o).setCapture _).setTable (s.table.complete (s.capture.granule.getD 0))) = _
    rw [granule]
    rfl
  · exact parksAs_of (onCompletion underway (if_pos (by exact parking))) parking rfl rfl
  · exact parksAs_of (onCompletion underway (if_pos (by exact parking))) parking rfl rfl
  · refine parksAs_of (onCompletion underway ?_) parking rfl rfl
    rw [slot, judges, reads]
    cases r <;> exact if_pos parking
  · refine parksAs_of (onHeaderWrite_completes (· == .mark) State.takeMark underway request (by rw [kind]; rfl) (takeMark_eq (by exact lawful) content))
      (by simp [parking]) (by simp) (by simp)
  · refine parksAs_of (onHeaderWrite_completes (· == .commitSeal) State.takeSeal underway request (by rw [kind]; rfl) ?_) parking rfl rfl
    rw [State.takeSeal, WriteRequest.header_eq content, applySeal_kept h kept]
    exact if_pos (by exact parking)
  · refine parksAs_of (onHeaderWrite_completes (· == .commitSeal) State.takeSeal underway request (by rw [kind]; rfl) ?_)
      (by simp [parking]) (by simp) (by simp)
    rw [State.takeSeal, WriteRequest.header_eq content, applySeal_took h took]
    exact if_pos (by simp [parking])
  · refine parksAs_of (onHeaderWrite_completes (· == .recoverySeal) State.takeRecoverySeal underway request (by rw [kind]; rfl) ?_)
      (by simp [parking]) (by simp) (by simp)
    rw [State.takeRecoverySeal, WriteRequest.header_eq content, selectWritten_eq]
    refine (if_pos ?_).trans rfl
    rw [(raise_keeps _ _ _ _).2.2.2.2.2.2.1]
    exact parking
  · exact parksAs_of (onHeaderWrite_completes WriteKind.isClearing State.takeClearing underway request kind (if_pos (by exact parking))) parking rfl rfl
  · refine parksAs_of (onHeaderWrite_completes WriteKind.isFormatWrite State.takeFormat underway request kind ?_) parking rfl rfl
    rw [State.takeFormat, WriteRequest.header_eq content, selectWritten_eq]
    refine (congrArg State.takeRemembered (if_pos (by exact parking))).trans ?_
    exact takeRemembered_elsewhere (by exact closed)

end Sys2Proof.Machine
end

section
/-! The end of an event whose presented beat waits on, and the events of the epoch control port (chapter 5). -/

namespace Sys2Proof.Machine

/-! ### The tests compose -/

/-- Requesting a seal is one of the things that end an event (R87, R104). -/
theorem endsIn_requestSeal {u : State} (h : u.ctl.state = .draining ∨ u.ctl.state = .rollingBack) : u.endsIn u.requestSeal := by
  refine ⟨rfl, rfl, rfl, rfl, rfl, rfl, rfl, rfl, rfl, rfl, rfl, .inr ⟨h, rfl⟩, rfl, rfl, rfl, fun _ => rfl, fun _ => rfl,
    fun _ => ⟨rfl, rfl⟩⟩

/-- So is the commit's test (R86). -/
theorem endsIn_commitTest (u : State) : u.endsIn u.commitTest := by
  rcases commitTest_cases u with same | ⟨draining, sealing⟩
  · rw [same]; exact endsIn_refl u
  · rw [sealing]; exact endsIn_requestSeal (.inl draining)

/-- And the beginning of a walk (R97). -/
theorem endsIn_beginWalk {u : State} (h : u.ctl.state = .rollingBack) : u.endsIn u.beginWalk := by
  refine ⟨by simp, by simp, by simp, by simp, by simp, by simp, by simp, by simp, by simp, by simp, by simp, by simp, by simp,
    by simp, by simp, fun _ => by simp, fun other => absurd h other, fun _ => by simp⟩

/-- And the rollback's tests (R97, R104). -/
theorem endsIn_rollbackTest (u : State) : u.endsIn u.rollbackTest := by
  by_cases rolling : u.ctl.state = .rollingBack
  · rcases rollbackTest_cases u with h | h | h | h <;> rw [h]
    · exact endsIn_refl u
    · exact endsIn_beginWalk rolling
    · exact endsIn_requestSeal (.inr rolling)
    · exact endsIn_trans (endsIn_beginWalk rolling) (endsIn_requestSeal (.inr (by simp [rolling])))
  · rw [rollbackTest_elsewhere rolling]; exact endsIn_refl u

/-- The tests that lead to the grant. -/
abbrev State.tested (u : State) : State := u.takeCapture.commitTest.rollbackTest

theorem endsIn_tested (u : State) : u.endsIn u.tested :=
  endsIn_trans (endsIn_trans (endsIn_takeCapture u) (endsIn_commitTest _)) (endsIn_rollbackTest _)

/-- Where no offer and no release changes anything, an event ends with its tests, a grant, and a capture taken after it. -/
theorem settle_unmoved {before u : State} (offered : State.reoffer before u = u) (released : u.releaseRead = u)
    (again : State.reoffer u.tested u.tested.arbitrate = u.tested.arbitrate) :
    State.settle before u = u.tested.arbitrate.takeCapture := by
  rw [State.settle, offered, released, State.grantAndOffer, again]

theorem endsIn_settle {before u : State} (offered : State.reoffer before u = u) (released : u.releaseRead = u)
    (again : State.reoffer u.tested u.tested.arbitrate = u.tested.arbitrate) : u.endsIn (State.settle before u) := by
  rw [settle_unmoved offered released again]
  exact endsIn_trans (endsIn_trans (endsIn_tested u) (endsIn_arbitrate _)) (endsIn_takeCapture _)

/-- Outside OPEN no offer is made, and the event ends with its tests and the grant (R146). -/
theorem settle_closed {before u : State} (h : u.ctl.state ≠ .opened) :
    State.settle before u = u.releaseRead.tested.arbitrate.takeCapture := by
  have released : u.releaseRead.ctl = u.ctl := by
    unfold State.releaseRead State.requestRead
    split
    · split
      · split <;> rfl
      · rfl
    · rfl
  have tested : u.releaseRead.tested.ctl.state ≠ .opened := by
    obtain ⟨-, -, -, -, -, -, -, -, -, -, -, state, -⟩ := endsIn_tested u.releaseRead
    rw [released] at state
    rcases state with same | ⟨-, sealing⟩
    · rwa [same]
    · rw [sealing]; decide
  rw [State.settle, reoffer_elsewhere h, State.grantAndOffer, reoffer_elsewhere]
  simpa using tested

/-! ### A beat that waits on -/

/-- With the queue's entries and the table as they were no offer is due (R39, R62). -/
theorem reoffer_unmoved {before u : State} (entries : u.queue.entries = before.queue.entries) (table : u.table = before.table) :
    State.reoffer before u = u := by
  cases hb : u.host.beat with
  | none => unfold State.reoffer; rw [hb]; split <;> simp_all
  | some b =>
    refine reoffer_notDue hb ?_
    cases hr : b.reason with
    | queueFull => exact offerDue_queueFull hr entries
    | ninthCapture => exact offerDue_ninthCapture hr table
    | partlyCovered | wordPending | readPending => simp [State.offerDue, hr]

/-- A read beat with a matching entry left waits on (R69). -/
theorem releaseRead_waits {u : State} (h : ∀ c ∈ u.host.cycle, ∀ b ∈ u.host.beat, c.write = false → b.reason = .partlyCovered →
    u.queue.matching c.word ≠ []) : u.releaseRead = u := by
  unfold State.releaseRead
  split
  · rename_i c b hc hb
    refine if_neg ?_
    rintro ⟨read, reason, empty⟩
    exact h c hc b hb read reason (List.isEmpty_iff.1 empty)
  · rfl

/-- Where no drain request stands no entry begins to drain (R65, R159). -/
theorem arbitrate_undrained {s : State} (h : s.port.op = none → s.ctl.state ≠ .parking → s.ctl.state ≠ .parked →
    s.standing .drain = none) : s.arbitrate.queue = s.queue := by
  rcases arbitrate_cases s with e | ⟨r, o, idle, parking, parked, -, standing, e⟩ <;> rw [e]
  cases r with
  | drain => rw [h idle parking parked] at standing; cases standing
  | header =>
    simp only [State.grant, State.tellGranted]
    split
    · rfl
    · split <;> rfl
  | hostRead =>
    simp only [State.grant, State.tellGranted]
    split <;> rfl
  | engine | capture => rfl

/-- A drain request is read off the queue and the device state (R65). -/
theorem drain_standing_none (s : State) : s.standing .drain = none ↔ s.drainStands = false := by
  simp [State.standing]

/-- In a lawful state a waiting read beat has matching entries to wait for (R69). -/
theorem lawful_partlyCovered {s : State} (h : s.Lawful) {c : Cycle} {b : Beat} (hc : s.host.cycle = some c)
    (hb : s.host.beat = some b) (read : c.write = false) (reason : b.reason = .partlyCovered) :
    s.queue.matching c.word ≠ [] := by
  obtain ⟨-, -, -, -, -, cycles⟩ := h.host
  obtain ⟨-, -, -, -, -, beats⟩ := cycles c hc
  obtain ⟨-, -, waits, -⟩ := (beats b hb).2 read
  exact (waits reason).1

/-- An event that leaves no beat to stir in a lawful state ends as it should. -/
theorem settlesIn_of {s u v : State} (same : v = u) (rests : s.Lawful → u.rests) : s.settlesIn u (State.settle s v) := by
  rw [same]
  rintro (still | lawful)
  · exact settle_endsIn s still
  · exact settle_endsIn s (rests lawful)

/-- `u` is `s` in all that a waiting beat waits for, and no more of the port stands than stood. -/
structure State.asWaiting (s u : State) : Prop where
  cycle : u.host.cycle = s.host.cycle
  beat : u.host.beat = s.host.beat
  entries : u.queue.entries = s.queue.entries
  table : u.table = s.table
  state : u.ctl.state = s.ctl.state
  port : u.port.op.isSome ∨ s.pins.resetLow = false ∧ u.port.op = s.port.op

/-- From a state that keeps its laws, a beat whose queue and table are as they were waits on (R39, R62, R69). -/
theorem settlesIn_unmoved {s u v : State} (same : v = u) (waits : s.asWaiting u) : s.settlesIn u (State.settle s v) := by
  obtain ⟨cycle, beat, entries, table, state, port⟩ := waits
  rw [same]
  rintro (rests | lawful)
  · exact settle_endsIn s rests
  · refine endsIn_settle (reoffer_unmoved entries table) (releaseRead_waits fun c hc b hb read reason => ?_)
      (reoffer_unmoved ?_ (by simp))
    · rw [cycle] at hc
      rw [beat] at hb
      have := lawful_partlyCovered lawful hc hb read reason
      rwa [PostingQueue.matching, entries]
    · obtain ⟨-, -, -, -, -, -, -, -, -, -, -, left, -⟩ := endsIn_tested u
      have queue : u.tested.queue = u.queue := by simp
      have same : u.tested.port = u.port := by simp
      refine congrArg PostingQueue.entries (arbitrate_undrained fun idle parking parked => (drain_standing_none _).2 ?_)
      rw [same] at idle
      obtain ⟨reset, op⟩ := port.resolve_left (by simp [idle])
      rcases left with unchanged | ⟨-, sealing⟩
      · rw [unchanged, state] at parking parked
        have none := (lawful.working reset parking parked (op.symm.trans idle)).2.2.2.2
        rw [drain_standing_none] at none
        unfold State.drainStands at none ⊢
        rwa [queue, entries, unchanged, state]
      · simp [State.drainStands, sealing]

/-! ### Rising edges of EREQ -/

/-- Some rising edge of EREQ (R76, R78). -/
theorem exec_edge {s : State} {c : Instr} {op : Operation} (named : (c, op) ∈ edgeCommands) (reset : s.pins.resetLow = false)
    (low : s.pins.ereq = false) : exec c s = .next (State.settle s ((s.edge op).risingEdge op)) := by
  simp only [edgeCommands, List.mem_cons, Prod.mk.injEq, List.not_mem_nil, or_false] at named
  rcases named with ⟨rfl, rfl⟩ | ⟨rfl, rfl⟩ | ⟨rfl, rfl⟩ | ⟨rfl, rfl⟩ <;>
    exact congrArg Host.Outcome.next (requestEdge_eq reset low)

/-- Settles O45. -/
theorem edgesNotTaken : Obligations.EdgesNotTaken := by
  intro s c op named reset low
  have runs := exec_edge named reset low
  have state : (s.edge op).ctl.state = s.ctl.state := rfl
  refine ⟨fun busy => ⟨_, runs, ?_⟩, fun refuses => ⟨_, runs, ?_⟩, fun stopped => ⟨_, runs, ?_⟩⟩
  · have remembered : (s.edge op).risingEdge op = (s.edge op).setCtl { (s.edge op).ctl with remembered := some op } := by
      unfold State.risingEdge
      rw [state]
      rcases busy with between | ⟨opened, inHand⟩
      · simp only [List.mem_cons, List.not_mem_nil, or_false] at between
        rcases between with h | h | h | h | h | h <;> rw [h]
      · rw [opened]
        exact if_neg inHand
    exact settlesIn_unmoved remembered ⟨rfl, rfl, rfl, rfl, rfl, .inr ⟨reset, rfl⟩⟩
  · have answered : (s.edge op).risingEdge op = (s.edge op).answers op .refused := by
      unfold State.risingEdge
      rw [state]
      rcases refuses with h | h <;> rw [h] <;> rfl
    exact settlesIn_unmoved answered ⟨rfl, rfl, rfl, rfl, rfl, .inr ⟨reset, rfl⟩⟩
  · have ignored : (s.edge op).risingEdge op = s.edge op := by
      unfold State.risingEdge
      rw [state]
      rcases stopped with h | h <;> rw [h]
    exact settlesIn_unmoved ignored ⟨rfl, rfl, rfl, rfl, rfl, .inr ⟨reset, rfl⟩⟩

/-- In OPEN with no request in hand a request is taken (R78, R83). -/
theorem risingEdge_taken {s : State} (op : Operation) (opened : s.ctl.state = .opened) (free : s.ctl.pendingRequest = none) :
    (s.edge op).risingEdge op = (s.edge op).takeRequest op := by
  unfold State.risingEdge
  rw [show (s.edge op).ctl.state = .opened from opened]
  exact if_pos free

/-- A request refused at the epoch limit (R85). -/
theorem refuseAtLimit_eq {s : State} (op : Operation) (limit : s.epochNumber = 281474976710655#48) :
    s.refuseAtLimit op = (s.answers op .refused).raise .epochLimit 281474976710655#48 (0x01#8 ++ 0#8 ++ 0#8 ++ op.code) := by
  unfold State.refuseAtLimit
  rw [driveAnswer_eq, limit]
  unfold State.answers
  rw [raise_setCtl, (raise_keeps s _ _ _).2.2.2.2.2.2.1]
  rfl

/-- Settles O44. -/
theorem flushTakenAndRequestsRefused : Obligations.FlushTakenAndRequestsRefused := by
  intro s c op reset low opened free
  have runs : ∀ {c op}, (c, op) ∈ edgeCommands → exec c s = .next (State.settle s ((s.edge op).takeRequest op)) := by
    intro c op named
    rw [exec_edge named reset low, risingEdge_taken op opened free]
  refine ⟨fun e newest => ⟨_, runs (c := .flush) (op := .flush) (by simp [edgeCommands]), ?_⟩,
    fun empty => ⟨_, runs (c := .flush) (op := .flush) (by simp [edgeCommands]), ?_⟩,
    ⟨_, runs (c := .illegalOperation) (op := .illegal) (by simp [edgeCommands]), settlesIn_unmoved rfl ⟨rfl, rfl, rfl, rfl, rfl, .inr ⟨reset, rfl⟩⟩⟩,
    fun broken below => ⟨_, runs (c := .rollback) (op := .rollback) (by simp [edgeCommands]), ?_⟩,
    fun named limit => ⟨_, runs (c := c) (op := op) (by simp only [edgeCommands, List.mem_cons] at named ⊢; exact Or.imp_right (Or.imp_right fun h => nomatch h) named), ?_⟩⟩
  · have taken : (s.edge .flush).takeRequest .flush = ((s.edge .flush).setCtl { (s.edge .flush).ctl with
        phase := .working, pendingRequest := some ⟨.flush, false⟩ }).setQueue { s.queue with mark := some e.age } := by
      unfold State.takeRequest State.takeFlush
      rw [show (s.edge .flush).queue.entries.getLast? = some e from newest]
      rfl
    exact settlesIn_unmoved taken ⟨rfl, rfl, rfl, rfl, rfl, .inr ⟨reset, rfl⟩⟩
  · have taken : (s.edge .flush).takeRequest .flush = (s.edge .flush).answers .flush .ok := by
      unfold State.takeRequest State.takeFlush
      rw [show (s.edge .flush).queue.entries = [] from empty]
      rfl
    exact settlesIn_unmoved taken ⟨rfl, rfl, rfl, rfl, rfl, .inr ⟨reset, rfl⟩⟩
  · have taken : (s.edge .rollback).takeRequest .rollback = (s.edge .rollback).answers .rollback .refused := by
      refine (if_neg below).trans (if_neg fun intact => ?_)
      have intact : s.table.status = some .intact := intact
      rw [intact] at broken
      rcases broken with h | h <;> cases h
    exact settlesIn_unmoved taken ⟨rfl, rfl, rfl, rfl, rfl, .inr ⟨reset, rfl⟩⟩
  · have taken : (s.edge op).takeRequest op = ((s.edge op).answers op .refused).raise .epochLimit 281474976710655#48
        (0x01#8 ++ 0#8 ++ 0#8 ++ op.code) := by
      rw [← refuseAtLimit_eq op (by exact limit)]
      simp only [List.mem_cons, Prod.mk.injEq, List.not_mem_nil, or_false] at named
      rcases named with ⟨-, rfl⟩ | ⟨-, rfl⟩ <;> exact if_pos limit
    refine settlesIn_unmoved taken ⟨?_, ?_, ?_, ?_, ?_, .inr ⟨reset, ?_⟩⟩ <;> simp only [raise_keeps] <;> rfl

/-! ### COMMIT -/

/-- OPEN left with a write cycle in hand (R143). -/
theorem leaveOpen_eq (s : State) : s.leaveOpen = s.writeOvertaken := by
  unfold State.leaveOpen State.writeOvertaken
  cases hc : s.host.cycle with
  | none => rfl
  | some c => cases hw : c.write <;> simp [hw, closeBeat_eq]

/-- Leaving OPEN touches the host port alone (R143). -/
@[simp] theorem writeOvertaken_keeps (s : State) :
    s.writeOvertaken.pins = s.pins ∧ s.writeOvertaken.mem = s.mem ∧ s.writeOvertaken.dec = s.dec
      ∧ s.writeOvertaken.capture = s.capture ∧ s.writeOvertaken.table = s.table ∧ s.writeOvertaken.queue = s.queue
      ∧ s.writeOvertaken.ctl = s.ctl ∧ s.writeOvertaken.engine = s.engine ∧ s.writeOvertaken.header = s.header
      ∧ s.writeOvertaken.port = s.port ∧ s.writeOvertaken.link = s.link ∧ s.writeOvertaken.events = s.events
      ∧ s.writeOvertaken.alarms = s.alarms ∧ s.writeOvertaken.pending = s.pending := by
  unfold State.writeOvertaken
  split
  · split
    · and_intros <;> rfl
    · split <;> and_intros <;> rfl
  · and_intros <;> rfl

/-- Once OPEN is left no write beat waits, and a read cycle is as it was (R143). -/
theorem writeOvertaken_host (s : State) :
    s.writeOvertaken.host.beat = none ∨ s.writeOvertaken.host = s.host ∧ ∀ c ∈ s.host.cycle, c.write = false := by
  unfold State.writeOvertaken
  cases hc : s.host.cycle with
  | none => exact .inr ⟨rfl, by simp⟩
  | some c =>
    cases hw : c.write with
    | false => exact .inr ⟨by simp [hw], by simp [hw]⟩
    | true =>
      cases hb : s.host.beat with
      | none => exact .inl (by simp [hw, hb])
      | some b => exact .inl (by simp [hw, State.closed])

/-- With no beat presented none stirs. -/
theorem rests_of_noBeat {u : State} (h : u.host.beat = none) : u.rests := by
  intro c _ b hb
  simp [h] at hb

/-- Where a lawful state leaves OPEN with its queue as it is, no beat stirs. -/
theorem writeOvertaken_rests {s u : State} (lawful : s.Lawful) (host : u.host = s.host)
    (entries : u.queue.entries = s.queue.entries) : u.writeOvertaken.rests := by
  rcases writeOvertaken_host u with none | ⟨same, read⟩
  · exact rests_of_noBeat none
  · intro c hc b hb
    rw [same] at hc hb
    refine ⟨read c hc, fun reason => ?_⟩
    rw [host] at hc hb
    rw [PostingQueue.matching, (writeOvertaken_keeps u).2.2.2.2.2.1, entries]
    exact lawful_partlyCovered lawful hc hb (read c (by rw [host]; exact hc)) reason

/-- A read beat released touches the host port alone (R69). -/
@[simp] theorem releaseRead_keeps (s : State) :
    s.releaseRead.pins = s.pins ∧ s.releaseRead.mem = s.mem ∧ s.releaseRead.dec = s.dec ∧ s.releaseRead.capture = s.capture
      ∧ s.releaseRead.table = s.table ∧ s.releaseRead.queue = s.queue ∧ s.releaseRead.ctl = s.ctl
      ∧ s.releaseRead.engine = s.engine ∧ s.releaseRead.header = s.header ∧ s.releaseRead.port = s.port
      ∧ s.releaseRead.link = s.link ∧ s.releaseRead.events = s.events ∧ s.releaseRead.alarms = s.alarms
      ∧ s.releaseRead.pending = s.pending := by
  unfold State.releaseRead State.requestRead
  split
  · split
    · split <;> and_intros <;> rfl
    · and_intros <;> rfl
  · and_intros <;> rfl

/-- With no entry CAPTURING none is taken (R26). -/
theorem takeCapture_none {s : State} (h : capturingCount s.table.entries = 0) : s.takeCapture = s := by
  unfold State.takeCapture
  have none : s.table.oldestCapturing = none := List.find?_eq_none.2 (List.countP_eq_zero.1 h)
  rw [none]
  exact ite_self s

/-- A grant to the header unit leaves kind and target of its write (R112). -/
theorem arbitrate_writeRequest (s : State) :
    s.arbitrate.header.writeRequest.map (fun w => (w.kind, w.target)) = s.header.writeRequest.map fun w => (w.kind, w.target) := by
  rcases arbitrate_cases s with h | ⟨r, o, -, -, -, -, -, h⟩ <;> rw [h]
  cases r with
  | header =>
    simp only [State.grant, State.tellGranted]
    cases hw : s.header.writeRequest with
    | some w => rfl
    | none =>
      dsimp only
      split <;> simp [hw]
  | hostRead =>
    simp only [State.grant, State.tellGranted]
    split <;> rfl
  | engine | capture | drain => rfl

/-- A commit's wait that is satisfied is found satisfied on its event (R86, R87). -/
theorem settle_commitReady {before u : State} (draining : u.ctl.state = .draining)
    (settled : u.table.status = some .intact ∨ u.table.status = some .broken) (idle : u.capture.phase = .idle)
    (captured : capturingCount u.table.entries = 0) (empty : u.queue.entries = []) :
    (State.settle before u).ctl.state = .sealing
      ∧ (State.settle before u).header.writeRequest.map (fun w => (w.kind, w.target)) = some (.commitSeal, u.header.unselected) := by
  have taken : u.releaseRead.takeCapture = u.releaseRead := takeCapture_none (by simpa using captured)
  have ready : u.releaseRead.commitReady = true := by
    simp only [State.commitReady, releaseRead_keeps, draining, idle, captured, empty]
    rcases settled with h | h <;> rw [h] <;> rfl
  have tested : u.releaseRead.tested = u.releaseRead.requestSeal := by
    rw [State.tested, taken, State.commitTest, if_pos ready, rollbackTest_elsewhere]
    rw [show u.releaseRead.requestSeal.ctl.state = .sealing from rfl]
    decide
  rw [settle_closed (by rw [draining]; decide), tested]
  constructor
  · simp [State.requestSeal, State.requestWrite]
  · rw [(takeCapture_keeps _).2.2.2.2.2.2.2.1, arbitrate_writeRequest]
    simp [State.requestSeal, State.requestWrite]

/-- One that is not leaves DRAINING as it is (R86). -/
theorem settle_commitWaits {before u : State} (draining : u.ctl.state = .draining)
    (waits : u.table.status = some .breaking ∨ u.capture.phase ≠ .idle ∨ 0 < capturingCount u.table.entries
      ∨ u.queue.entries ≠ []) : (State.settle before u).ctl.state = .draining := by
  have unready : u.releaseRead.takeCapture.commitReady = false := by
    simp only [State.commitReady, takeCapture_keeps, releaseRead_keeps]
    rcases waits with breaking | busy | capturing | held
    · simp [breaking]
    · rw [takeCapture_busy (by simpa using busy)]
      simp [busy]
    · simp [Nat.ne_of_gt capturing]
    · simp [held]
  have tested : u.releaseRead.tested = u.releaseRead.takeCapture := by
    rw [State.tested, State.commitTest, if_neg (by simp [unready]), rollbackTest_elsewhere]
    simp [draining]
  rw [settle_closed (by rw [draining]; decide), tested]
  simp [draining]

/-- Settles O42. -/
theorem commitBeginsDraining : Obligations.CommitBeginsDraining := by
  intro s reset low opened free below
  have taken : (s.edge .commit).takeRequest .commit = ((s.edge .commit).setCtl { (s.edge .commit).ctl with
      state := .draining, phase := .working, pendingRequest := some ⟨.commit, false⟩ }).writeOvertaken := by
    rw [← leaveOpen_eq]
    exact if_neg below
  have runs : exec .commit s = .next (State.settle s ((s.edge .commit).takeRequest .commit)) := by
    rw [exec_edge (op := .commit) (by simp [edgeCommands]) reset low, risingEdge_taken .commit opened free]
  refine ⟨_, runs, ?_, fun status idle captured empty => ?_, fun waits => ?_⟩
  · exact settlesIn_of taken fun lawful => writeOvertaken_rests lawful rfl rfl
  · rw [taken]
    refine (settle_commitReady ?_ ?_ ?_ ?_ ?_).imp_right fun h => h.trans ?_ <;> simp only [writeOvertaken_keeps]
    · rfl
    · exact status
    · exact idle
    · exact captured
    · exact empty
    · rfl
  · rw [taken]
    refine settle_commitWaits ?_ ?_ <;> simp only [writeOvertaken_keeps]
    · rfl
    · exact waits

end Sys2Proof.Machine
end

section
/-! A host read's words and its end (chapter 9). -/

namespace Sys2Proof.Machine

/-! ### A word arrives -/

/-- A place filled with an arrived word (R139, R148). -/
theorem placeWord_fresh {s : State} {r : HostRead} (word : Nat) (data : MWord) (merr : Bool) (read : s.host.read = some r)
    (fresh : r.stale = false) : s.placeWord word data merr = s.placed word data merr := by
  unfold State.placeWord
  rw [read]
  have others : (fun q : Nat × Place => q.1 != word) = fun q => decide (q.1 ≠ word) := by
    funext q
    by_cases h : q.1 = word <;> simp [h]
  refine (if_neg (by simp [fresh])).trans ?_
  unfold State.placed setPlace
  rw [others]

/-- The words of a cycle that has ended are discarded (R150). -/
theorem placeWord_stale {s : State} {r : HostRead} (word : Nat) (data : MWord) (merr : Bool) (read : s.host.read = some r)
    (stale : r.stale = true) : s.placeWord word data merr = s := by
  unfold State.placeWord
  rw [read]
  exact if_pos stale

/-- An arrival answers no beat but one that waits for its word (R148). -/
theorem answerArrived_unawaited {s : State} (word : Nat) (data : MWord) (merr : Bool)
    (h : ∀ c ∈ s.host.cycle, ∀ b ∈ s.host.beat, c.write = false → b.reason = .wordPending → c.word ≠ word) :
    s.answerArrived word data merr = s := by
  unfold State.answerArrived
  split
  · rename_i c b hc hb
    refine if_neg ?_
    rintro ⟨read, reason, same⟩
    exact h c hc b hb read reason same
  · rfl

/-- It answers that one (R148). -/
theorem answerArrived_awaited {s : State} {c : Cycle} {b : Beat} (data : MWord) (merr : Bool) (hc : s.host.cycle = some c)
    (read : c.write = false) (hb : s.host.beat = some b) (reason : b.reason = .wordPending) :
    s.answerArrived c.word data merr = s.answerWord c.word b.lanes data merr := by
  unfold State.answerArrived
  rw [hc, hb]
  exact if_pos ⟨read, reason, rfl⟩

/-- A word of a host read in progress arrives (R148, R152, R153). -/
theorem exec_wordArrival {s : State} {merr : Option MWord} {o : MemOp} (underway : s.completing .hostRead = .underway o)
    (more : o.beat < o.length) :
    exec (.hostReadWordArrival merr) s = .next (State.settle s (((s.wordPassed o).placeWord (o.start + o.beat)
      (merr.getD (s.mem.readWord (o.start + o.beat))) merr.isSome).answerArrived (o.start + o.beat)
        (merr.getD (s.mem.readWord (o.start + o.beat))) merr.isSome)) := by
  refine (onOperation_underway _ underway).trans (congrArg Host.Outcome.next (if_pos more))

/-- Settles O40. -/
theorem hostReadWordTaken : Obligations.HostReadWordTaken := by
  intro s merr o r c b underway more read
  have runs := exec_wordArrival (merr := merr) underway more
  have same : (s.wordPassed o).host.read = some r := read
  refine ⟨fun stale unawaited => ⟨_, runs, ?_⟩, fun fresh unawaited => ⟨_, runs, ?_⟩,
    fun fresh hc reads hb reason word => ⟨fun clean => ⟨_, runs, ?_⟩, fun failed => ⟨_, runs, ?_⟩⟩⟩
  · refine settlesIn_unmoved ?_ ⟨rfl, rfl, rfl, rfl, rfl, .inl rfl⟩
    rw [placeWord_stale _ _ _ same stale]
    exact answerArrived_unawaited _ _ _ fun c _ b hb _ reason => absurd reason (unawaited b hb)
  · refine settlesIn_unmoved ?_ ⟨rfl, rfl, rfl, rfl, rfl, .inl rfl⟩
    rw [placeWord_fresh _ _ _ same fresh]
    exact answerArrived_unawaited _ _ _ unawaited
  · rw [placeWord_fresh _ _ _ same fresh, ← word, clean, answerArrived_awaited _ _ (by exact hc) reads (by exact hb) reason]
    exact settle_ends (finishBeat_eq _ hc) (answered_rests _ _ _)
  · obtain ⟨w, rfl⟩ := Option.ne_none_iff_exists'.1 failed
    rw [placeWord_fresh _ _ _ same fresh, ← word, answerArrived_awaited _ _ (by exact hc) reads (by exact hb) reason]
    refine settle_ends ?_ ?_
    · refine (raise_closed _ _ _ _ _ _).trans ?_
      rfl
    · refine rests_of_noBeat ?_
      rw [(raise_keeps _ _ _ _).2.2.2.2.2.2.2.2.2.2.1]
      rfl

end Sys2Proof.Machine
end

section
/-! The captures stopped and cancelled as the epoch breaks (R31, R51), said in the words the statements use. -/

namespace Sys2Proof.Machine

/-! ### Gates -/

/-- Gates TIED to granules whose entries leave turn WAIT_MARK (R51). -/
theorem retied_waiting (gs : List Nat) : Gate.retied gs .waitMark = Gate.waiting gs := by
  funext gate
  cases gate with
  | tied g => by_cases h : g ∈ gs <;> simp [Gate.retied, Gate.waiting, h]
  | opened | waitMark => rfl

/-- With no granule named no gate turns. -/
@[simp] theorem turned_waiting_nil (s : State) : s.turned (Gate.waiting []) = s := by
  have same : Gate.waiting [] = id := by
    funext gate
    cases gate <;> simp [Gate.waiting]
  simp [State.turned, same, State.setQueue, State.setHost]

/-- Gates turned twice (R63). -/
theorem turned_turned (s : State) (f h : Gate → Gate) : (s.turned f).turned h = s.turned (h ∘ f) := by
  simp [State.turned, State.setQueue, State.setHost, Function.comp_def]

/-- Naming granules twice is naming both. -/
theorem waiting_comp (gs hs : List Nat) : Gate.waiting hs ∘ Gate.waiting gs = Gate.waiting (gs ++ hs) := by
  funext gate
  cases gate with
  | tied g => by_cases h : g ∈ gs <;> simp [Gate.waiting, h]
  | opened | waitMark => rfl

/-- Only which granules are named matters. -/
theorem waiting_congr {gs hs : List Nat} (h : ∀ g, g ∈ gs ↔ g ∈ hs) : Gate.waiting gs = Gate.waiting hs := by
  funext gate
  cases gate with
  | tied g => simp [Gate.waiting, h]
  | opened | waitMark => rfl

/-- Under BREAKING the named gates wait for the mark (R51). -/
theorem waitForMark_eq (s : State) (gs : List Nat) :
    s.waitForMark gs = s.turned (Gate.waiting (if s.table.status = some .breaking then gs else [])) := by
  unfold State.waitForMark
  split
  · rw [mapGates_eq, retied_waiting]
  · rw [turned_waiting_nil]

/-! ### The entry in flight -/

/-- The in-flight entry leaves the table with its reservation (R30, R31, R42). -/
theorem captureGone_table {s : State} {g : Nat} (lawful : s.table.lawful) (present : (⟨g, .capturing⟩ : TableEntry) ∈ s.table.entries)
    (granule : s.capture.granule = some g) :
    s.captureGone.table = s.table.drop fun e => some e.granule == s.capture.granule := by
  obtain ⟨-, distinct, -, -⟩ := lawful
  have one := capturingCount_of_granule distinct present
  have left : (fun e : TableEntry => !(some e.granule == s.capture.granule)) = fun e => decide (some e.granule ≠ s.capture.granule) := by
    funext e
    by_cases h : some e.granule = s.capture.granule <;> simp [h]
  have gone : (fun e : TableEntry => some e.granule == s.capture.granule) = fun e => e.granule == g := by
    funext e
    rw [granule]
    rfl
  unfold State.captureGone GranuleTable.drop
  rw [left, gone, one]
  rfl

/-- The unit lets the in-flight entry go (R30, R31). -/
theorem releaseInFlight_eq {s : State} {g : Nat} (lawful : s.table.lawful) (present : (⟨g, .capturing⟩ : TableEntry) ∈ s.table.entries)
    (granule : s.capture.granule = some g) : s.releaseInFlight = s.captureGone.watermarkTest := by
  have same : s.captureGone = (s.setCapture s.capture.free).setTable s.captureGone.table := rfl
  rw [same, captureGone_table lawful present granule]
  rfl

/-- A capture ends stopped (R31). -/
theorem endStopped_eq {s : State} {g : Nat} (lawful : s.table.lawful) (present : (⟨g, .capturing⟩ : TableEntry) ∈ s.table.entries)
    (granule : s.capture.granule = some g) :
    s.endStopped = s.captureGone.watermarkTest.turned (Gate.waiting (if s.table.status = some .breaking then [g] else [])) := by
  unfold State.endStopped
  rw [releaseInFlight_eq lawful present granule, waitForMark_eq, granule]
  simp [State.captureGone]

/-! ### The waiting captures -/

/-- With one entry a granule, the entry in flight alone holds a reservation once the others are cancelled (R42, R51). -/
theorem cancelled_count {t : GranuleTable} {kept : Option Nat} (lawful : t.lawful)
    (inFlight : ∀ g ∈ kept, (⟨g, .capturing⟩ : TableEntry) ∈ t.entries) :
    capturingCount (t.entries.filter fun e => e.state = .logged ∨ kept = some e.granule) = if kept = none then 0 else 1 := by
  obtain ⟨-, distinct, -, -⟩ := lawful
  cases kept with
  | none =>
    rw [if_pos rfl, capturingCount, List.countP_filter, List.countP_eq_zero]
    intro e _
    cases e.state <;> simp
  | some g =>
    rw [if_neg (by simp), ← capturingCount_of_granule distinct (inFlight g rfl)]
    unfold capturingCount
    rw [List.countP_filter, List.countP_filter]
    refine List.countP_congr fun e _ => ?_
    cases he : e.state <;> by_cases h : g = e.granule <;> simp [h, eq_comm (a := e.granule)]

/-- The waiting captures cancelled, with no gate turned (R51, R55). -/
theorem dropWaiting_eq {s : State} (lawful : s.table.lawful)
    (inFlight : ∀ g ∈ s.capture.granule, (⟨g, .capturing⟩ : TableEntry) ∈ s.table.entries) :
    s.dropEntries s.waitsForCapture = s.waitingCancelled := by
  have left : (fun e : TableEntry => !s.waitsForCapture e) = fun e => decide (e.state = .logged ∨ s.capture.granule = some e.granule) := by
    funext e
    unfold State.waitsForCapture
    cases he : e.state <;> by_cases h : s.capture.granule = some e.granule <;> simp [h, eq_comm (a := some e.granule)]
  unfold State.dropEntries State.waitingCancelled
  rw [drop_eq lawful, left, cancelled_count lawful inFlight]

/-- The granules of the waiting captures (R51). -/
theorem waiting_granules (s : State) :
    (s.table.entries.filter s.waitsForCapture).map TableEntry.granule = s.table.capturingBut s.capture.granule := by
  unfold GranuleTable.capturingBut
  congr 1
  refine List.filter_congr fun e _ => ?_
  unfold State.waitsForCapture
  cases he : e.state <;> by_cases h : s.capture.granule = some e.granule <;> simp [h, eq_comm (a := some e.granule)]

/-- The waiting captures cancelled, gates and all (R51, R55). -/
theorem cancelWaiting_eq {s : State} (lawful : s.table.lawful)
    (inFlight : ∀ g ∈ s.capture.granule, (⟨g, .capturing⟩ : TableEntry) ∈ s.table.entries) :
    s.cancelWaiting = s.waitingCancelled.turned
      (Gate.waiting (if s.table.status = some .breaking then s.table.capturingBut s.capture.granule else [])) := by
  unfold State.cancelWaiting
  rw [dropWaiting_eq lawful inFlight, waitForMark_eq, waiting_granules]
  simp [State.waitingCancelled]

/-- A turn of gates and the cancelling of captures are made in either order. -/
theorem turned_waitingCancelled (s : State) (f : Gate → Gate) : (s.turned f).waitingCancelled = s.waitingCancelled.turned f := by
  unfold State.waitingCancelled
  rw [← turned_watermarkTest]
  rfl

/-! ### The captures stopped -/

/-- The capture unit's read is withdrawn by a stop (R31). -/
abbrev State.readWithdrawn (s : State) : Prop := s.capture.phase = .reading ∧ s.capture.granted = false

/-- The granule the unit keeps when it is stopped (R31, R51). -/
theorem captureStopped_granule (s : State) :
    s.captureStopped.capture.granule = if s.readWithdrawn then none else s.capture.granule := by
  unfold State.captureStopped
  split
  · simp [State.captureGone, CaptureUnit.free]
  · split <;> rfl

/-- What a stop leaves of the table keeps its law, and its in-flight entry (R25, R39, R42). -/
theorem captureStopped_lawful {s : State} (lawful : s.table.lawful) (inFlight : s.inFlight) :
    s.captureStopped.table.lawful
      ∧ ∀ g ∈ s.captureStopped.capture.granule, (⟨g, .capturing⟩ : TableEntry) ∈ s.captureStopped.table.entries := by
  have entry : ∀ g ∈ s.capture.granule, (⟨g, .capturing⟩ : TableEntry) ∈ s.table.entries := fun g hg =>
    inFlight_entry inFlight (fun idle => by rw [inFlight.1 idle] at hg; cases hg) hg
  by_cases withdrawn : s.readWithdrawn
  · obtain ⟨e, he, -, granule⟩ := inFlight.2 (by rw [withdrawn.1]; decide)
    have table : s.captureStopped.table = s.captureGone.table := by
      rw [State.captureStopped, if_pos withdrawn]; simp
    rw [table, captureStopped_granule, if_pos withdrawn, captureGone_table lawful (entry _ granule) granule]
    exact ⟨drop_lawful _ lawful, nofun⟩
  · have table : s.captureStopped.table = s.table := by
      rw [State.captureStopped, if_neg withdrawn]; split <;> rfl
    rw [table, captureStopped_granule, if_neg withdrawn]
    exact ⟨lawful, entry⟩

/-- A stop, gates and all (R31). -/
theorem stopCapture_eq {s : State} (lawful : s.table.lawful) (inFlight : s.inFlight) :
    s.stopCapture = s.captureStopped.turned (Gate.waiting
      (if s.table.status = some .breaking ∧ s.readWithdrawn then s.capture.granule.toList else [])) := by
  unfold State.stopCapture State.captureStopped State.readWithdrawn
  cases phase : s.capture.phase with
  | idle => simp
  | writing => simp
  | reading =>
    cases granted : s.capture.granted with
    | true => simp
    | false =>
      obtain ⟨e, he, capturing, granule⟩ := inFlight.2 (by rw [phase]; decide)
      have present := inFlight_entry inFlight (by rw [phase]; decide) granule
      simp only [and_self, and_true, if_true, Bool.false_eq_true, if_false]
      rw [endStopped_eq lawful present granule, granule]
      rfl

/-- The table's granules after the unit's read is withdrawn (R31, R51). -/
theorem capturingBut_stopped {s : State} (inFlight : s.inFlight) (g : Nat) :
    g ∈ (if s.readWithdrawn then s.capture.granule.toList else [])
        ++ s.captureStopped.table.capturingBut s.captureStopped.capture.granule
      ↔ g ∈ s.table.capturingBut s.captureStopped.capture.granule := by
  by_cases withdrawn : s.readWithdrawn
  · obtain ⟨e, he, capturing, granule⟩ := inFlight.2 (by rw [withdrawn.1]; decide)
    have table : s.captureStopped.table.entries = s.table.entries.filter fun e => some e.granule ≠ s.capture.granule := by
      rw [State.captureStopped, if_pos withdrawn]; simp [State.captureGone]
    rw [captureStopped_granule, if_pos withdrawn, if_pos withdrawn, GranuleTable.capturingBut, table, granule]
    simp only [GranuleTable.capturingBut, Option.toList_some, List.mem_append, List.mem_cons, List.not_mem_nil, or_false,
      List.mem_map, List.mem_filter, decide_eq_true_eq, ne_eq, Option.some.injEq, reduceCtorEq, not_false_eq_true, and_true]
    constructor
    · rintro (rfl | ⟨f, ⟨⟨hf, -⟩, other⟩, rfl⟩)
      · exact ⟨e, ⟨he, capturing⟩, rfl⟩
      · exact ⟨f, ⟨hf, other⟩, rfl⟩
    · rintro ⟨f, ⟨hf, other⟩, rfl⟩
      by_cases same : f.granule = e.granule
      · exact .inl same
      · exact .inr ⟨f, ⟨⟨hf, same⟩, other⟩, rfl⟩
  · have table : s.captureStopped.table = s.table := by
      rw [State.captureStopped, if_neg withdrawn]; split <;> rfl
    rw [if_neg withdrawn, table, List.nil_append]

/-- Captures stopped and cancelled together (R51, R55). -/
theorem stopAndCancel_eq {s : State} (lawful : s.table.lawful) (inFlight : s.inFlight) :
    s.stopCapture.cancelWaiting = s.captureStopped.waitingCancelled.turned (Gate.waiting
      (if s.table.status = some .breaking then s.table.capturingBut s.captureStopped.capture.granule else [])) := by
  obtain ⟨lawful', entry⟩ := captureStopped_lawful lawful inFlight
  have status : s.captureStopped.table.status = s.table.status := by
    unfold State.captureStopped
    split
    · simp [State.captureGone]
    · split <;> rfl
  rw [stopCapture_eq lawful inFlight, cancelWaiting_eq (by simpa using lawful') (by simpa using entry), turned_waitingCancelled,
    turned_turned, waiting_comp]
  refine congrArg (State.turned _) (waiting_congr fun g => ?_)
  simp only [turned_keeps, status]
  by_cases breaking : s.table.status = some .breaking
  · simpa only [breaking, true_and, if_true] using capturingBut_stopped inFlight g
  · simp [breaking]

/-- The epoch broken (R51, R52). -/
theorem enterBreaking_eq {s : State} (lawful : s.table.lawful) (inFlight : s.inFlight) (intact : s.table.status = some .intact) :
    s.enterBreaking = s.breaks := by
  obtain ⟨b, hb⟩ : ∃ b, s.setTable { s.table with status := some .breaking } = b := ⟨_, rfl⟩
  have status : b.table.status = some .breaking := by rw [← hb]; rfl
  have header : b.header = s.header := by rw [← hb]; rfl
  have entries : b.table.capturingBut = s.table.capturingBut := by rw [← hb]; rfl
  have both := stopAndCancel_eq (s := b) (by rw [← hb]; exact lawful) (by rw [← hb]; exact inFlight)
  rw [if_pos status, entries] at both
  have kept : b.captureStopped.waitingCancelled.header = s.header := by
    rw [← header]
    unfold State.waitingCancelled State.captureStopped
    simp only [watermarkTest_keeps, setTable_header]
    split
    · simp [State.captureGone]
    · split <;> rfl
  have granule : b.captureStopped.waitingCancelled.capture = b.captureStopped.capture := by
    simp [State.waitingCancelled]
  unfold State.enterBreaking State.breaks
  rw [if_pos intact, hb, both]
  simp only [State.requestWrite, turned_keeps, kept, granule]

end Sys2Proof.Machine
end


section
/-! A held write beat offered again (R39, R62), and the end of an event that may have it offered. -/

namespace Sys2Proof.Machine

/-! ### The offer and the memory port do not meet -/

section Port

variable (s : State) (x : MemoryPort)

theorem raise_setPort (k : EventKind) (e : BitVec 48) (d : BitVec 32) : (s.setPort x).raise k e d = (s.raise k e d).setPort x := by
  unfold State.raise
  split <;> rename_i h
  · rw [if_pos (by exact h)]; rfl
  · rw [if_neg (by exact h)]; rfl

theorem watermarkTest_setPort : (s.setPort x).watermarkTest = s.watermarkTest.setPort x := by
  unfold State.watermarkTest
  rw [setPort_header]
  split
  · by_cases h : Configuration.threshold ‹_› ≤ s.capture.tail + s.table.reservations
    · rw [if_pos h]; exact if_pos h
    · rw [if_neg h]; exact if_neg h
  · rfl

theorem dropEntries_setPort (gone : TableEntry → Bool) : (s.setPort x).dropEntries gone = (s.dropEntries gone).setPort x :=
  watermarkTest_setPort (s.setTable (s.table.drop gone)) x

theorem waitForMark_setPort (gs : List Nat) : (s.setPort x).waitForMark gs = (s.waitForMark gs).setPort x := by
  rw [waitForMark_eq, waitForMark_eq]; rfl

theorem releaseInFlight_setPort : (s.setPort x).releaseInFlight = s.releaseInFlight.setPort x :=
  dropEntries_setPort (s.setCapture s.capture.toIdle) x _

theorem endStopped_setPort : (s.setPort x).endStopped = s.endStopped.setPort x := by
  unfold State.endStopped
  rw [releaseInFlight_setPort, waitForMark_setPort]
  rfl

theorem stopCapture_setPort : (s.setPort x).stopCapture = s.stopCapture.setPort x := by
  unfold State.stopCapture
  rw [endStopped_setPort]
  simp only [setPort_capture]
  split
  · by_cases h : s.capture.granted = true
    · rw [if_pos h]; exact if_pos h
    · rw [if_neg h]; exact if_neg h
  · rfl
  · rfl

theorem cancelWaiting_setPort : (s.setPort x).cancelWaiting = s.cancelWaiting.setPort x := by
  unfold State.cancelWaiting
  rw [dropEntries_setPort, waitForMark_setPort]
  rfl

theorem enterBreaking_setPort : (s.setPort x).enterBreaking = s.enterBreaking.setPort x := by
  have both : ((s.setPort x).setTable { s.table with status := some .breaking }).stopCapture.cancelWaiting
      = (s.setTable { s.table with status := some .breaking }).stopCapture.cancelWaiting.setPort x := by
    rw [← cancelWaiting_setPort, ← stopCapture_setPort]; rfl
  unfold State.enterBreaking
  simp only [setPort_table, both]
  split <;> rfl

theorem noteExhausted_setPort (g : Nat) : (s.setPort x).noteExhausted g = (s.noteExhausted g).setPort x := by
  cases h : s.table.exhaustionNoted with
  | true => rw [noteExhausted_again g h, noteExhausted_again (s := s.setPort x) g h]; rfl
  | false =>
    rw [noteExhausted_first g h, noteExhausted_first (s := s.setPort x) g h, ← raise_setPort]
    rfl

theorem applyAdmission_setPort (g : Nat) (e : AdmissionEffect) :
    (s.setPort x).applyAdmission g e = (s.applyAdmission g e).setPort x := by
  cases e with
  | nothing => rfl
  | newCapture => exact watermarkTest_setPort (s.setTable (s.table.enrol g)) x
  | breakEpoch =>
    show ((s.setPort x).noteExhausted g).enterBreaking = _
    rw [noteExhausted_setPort, enterBreaking_setPort]
    rfl

theorem finishBeat_setPort (d : LaneData) : (s.setPort x).finishBeat d = (s.finishBeat d).setPort x := by
  unfold State.finishBeat
  rw [setPort_host]
  split
  · rfl
  · split
    · rfl
    · split <;> rfl

theorem post_setPort (word : Nat) (b : Beat) (cls : DecodeClass) (gate : Gate) :
    (s.setPort x).post word b cls gate = (s.post word b cls gate).setPort x := by
  unfold State.post
  split <;> rfl

theorem admitBeat_setPort (c : Cycle) (p : Portion) (b : Beat) : (s.setPort x).admitBeat c p b = (s.admitBeat c p b).setPort x := by
  have admission : (s.setPort x).admission p.granule = s.admission p.granule := admission_congr _ rfl rfl rfl
  unfold State.admitBeat
  rw [admission]
  split
  · rw [noteExhausted_setPort]; rfl
  · rfl
  · rename_i gate effect _
    simp only [setPort_queue, post_setPort]
    split
    · rw [← finishBeat_setPort, ← applyAdmission_setPort]; rfl
    · rfl

theorem offerWrite_setPort (c : Cycle) (p : Portion) (b : Beat) : (s.setPort x).offerWrite c p b = (s.offerWrite c p b).setPort x := by
  have gate : (s.setPort x).beatGate p = s.beatGate p := rfl
  unfold State.offerWrite
  rw [gate, admitBeat_setPort, setPort_queue, post_setPort, finishBeat_setPort]
  split
  · rfl
  · split <;> rfl

/-- An offer leaves the port alone. -/
theorem offerWrite_port (c : Cycle) (p : Portion) (b : Beat) : (s.offerWrite c p b).port = s.port := by
  have port := congrArg State.port (offerWrite_setPort s s.port c p b)
  exact port

end Port

/-! ### What an offer comes to -/

section Offer

variable {u t : State} {c : Cycle} {p : Portion} {b : Beat} {after : State → State}

/-- Admission gives the table's gate, where the table gives one (R44, R48). -/
theorem admission_tableGate {g : Nat} {gate : Gate} (status : u.table.status ≠ none) (h : u.tableGate g = some gate) :
    u.admission g = .take gate .nothing := by
  unfold State.tableGate at h
  split at h
  · rename_i breaking
    rw [admission_breaking breaking]; simp_all
  · split at h
    · rename_i broken
      rw [admission_broken broken]; simp_all
    · rename_i notBreaking notBroken
      have intact : u.table.status = some .intact := by
        cases hs : u.table.status with
        | none => exact absurd hs status
        | some x => cases x <;> simp_all
      obtain ⟨e, he, rfl⟩ := Option.map_eq_some_iff.1 h
      exact admission_present intact he

/-- Where the table gives no gate the epoch is INTACT and the granule is absent (R44, R48). -/
theorem tableGate_none {g : Nat} (status : u.table.status ≠ none) (h : u.tableGate g = none) :
    u.table.status = some .intact ∧ u.table.lookup g = none := by
  unfold State.tableGate at h
  split at h
  · cases h
  · split at h
    · cases h
    · refine ⟨?_, Option.map_eq_none_iff.1 h⟩
      cases hs : u.table.status with
      | none => exact absurd hs status
      | some x => cases x <;> simp_all

/-- Under BREAK an absent granule with no slot free breaks the epoch (R47). -/
theorem admission_breaks {g : Nat} (hs : u.table.status = some .intact) (hl : u.table.lookup g = none) (hf : u.freeSlots = 0)
    (hp : u.header.active.map Configuration.policy = some 0x02#8) : u.admission g = .take .waitMark .breakEpoch := by
  obtain ⟨k, hk, policy⟩ := Option.map_eq_some_iff.1 hp
  have full : ¬1 ≤ u.freeSlots := by omega
  have breaks : u.breakPolicy = true := by simp [State.breakPolicy, hk, policy]
  simp only [State.admission, State.admissionIntact, hs, hl, if_neg full, if_pos breaks]

/-- The first exhaustion noted (R46, R47). -/
theorem noteExhausted_eq (s : State) (g : Nat) : s.noteExhausted g = s.exhaustedBy g := by
  cases h : s.table.exhaustionNoted with
  | true => rw [noteExhausted_again g h, State.exhaustedBy, if_pos h]
  | false => rw [noteExhausted_first g h, State.exhaustedBy, if_neg (by simp [h])]

/-- Noting it touches the alarm, the noted flag and the events alone. -/
theorem exhaustedBy_keeps (s : State) (g : Nat) :
    (s.exhaustedBy g).capture = s.capture ∧ (s.exhaustedBy g).table = { s.table with exhaustionNoted := true }
      ∧ (s.exhaustedBy g).host = s.host ∧ (s.exhaustedBy g).queue = s.queue ∧ (s.exhaustedBy g).header = s.header
      ∧ (s.exhaustedBy g).ctl = s.ctl ∧ (s.exhaustedBy g).alarms.exhausted = true := by
  cases h : s.table.exhaustionNoted with
  | true =>
    rw [State.exhaustedBy, if_pos h]
    refine ⟨rfl, ?_, rfl, rfl, rfl, rfl, rfl⟩
    rw [← h]; rfl
  | false =>
    rw [State.exhaustedBy, if_neg (by simp [h])]
    simp

/-- The break of an epoch touches the table, the capture unit, the gates, the mark's request and the alarm alone (R51, R52). -/
theorem breaks_keeps (s : State) :
    s.breaks.host.cycle = s.host.cycle ∧ s.breaks.host.beat = s.host.beat ∧ s.breaks.host.portion = s.host.portion
      ∧ s.breaks.pins = s.pins ∧ s.breaks.mem = s.mem ∧ s.breaks.dec = s.dec ∧ s.breaks.ctl = s.ctl
      ∧ s.breaks.engine = s.engine ∧ s.breaks.port = s.port ∧ s.breaks.link = s.link ∧ s.breaks.events = s.events
      ∧ s.breaks.pending = s.pending := by
  have stopped : ∀ v : State, v.captureStopped.host = v.host ∧ v.captureStopped.pins = v.pins ∧ v.captureStopped.mem = v.mem
      ∧ v.captureStopped.dec = v.dec ∧ v.captureStopped.ctl = v.ctl ∧ v.captureStopped.engine = v.engine
      ∧ v.captureStopped.port = v.port ∧ v.captureStopped.link = v.link ∧ v.captureStopped.events = v.events
      ∧ v.captureStopped.pending = v.pending := by
    intro v
    unfold State.captureStopped
    split
    · simp [State.captureGone]
    · split <;> and_intros <;> rfl
  simp [State.breaks, State.waitingCancelled, stopped]

/-- A beat taken that breaks the epoch (R47, R51). -/
theorem admitBeat_breaks {gate : Gate} (hc : u.host.cycle = some c) (hg : p.cls = .guarded)
    (ha : u.admission p.granule = .take gate .breakEpoch) (ht : u.takesBeat c b gate) (lawful : u.table.lawful)
    (inFlight : u.inFlight) (intact : u.table.status = some .intact) :
    u.admitBeat c p b = (((u.posted c.word b.lanes b.data .guarded gate).withGate gate).exhaustedBy p.granule).breaks.answered c
      LaneData.empty := by
  obtain ⟨v, hv⟩ : ∃ v, ((u.posted c.word b.lanes b.data .guarded gate).withGate gate).exhaustedBy p.granule = v := ⟨_, rfl⟩
  have kept := exhaustedBy_keeps ((u.posted c.word b.lanes b.data .guarded gate).withGate gate) p.granule
  rw [hv] at kept
  obtain ⟨capture, table, host, -⟩ := kept
  simp only [withGate_capture, withGate_table, posted_keeps] at capture table
  have breaks : v.enterBreaking = v.breaks := by
    refine enterBreaking_eq (by rw [table]; exact lawful) ?_ (by rw [table]; exact intact)
    unfold State.inFlight
    rw [table, capture]
    exact inFlight
  have applied : ((u.posted c.word b.lanes b.data .guarded gate).withGate gate).applyAdmission p.granule .breakEpoch = v.breaks := by
    rw [← breaks, ← hv, ← noteExhausted_eq]; rfl
  simp only [State.admitBeat, ha, hg]
  rw [if_pos ht, hv]
  refine (congrArg (State.finishBeat · LaneData.empty) applied).trans (finishBeat_eq _ ?_)
  rw [(breaks_keeps v).1, host]
  simpa [State.withGate] using hc

/-- What a held beat's offer comes to is what it is offered again for (R39, R62). -/
theorem offersAgain_of_offer (hc : u.host.cycle = some c) (lawful : u.table.lawful) (inFlight : u.inFlight)
    (status : u.table.status ≠ none) {x : State} (made : after (u.offerWrite c p b) = x) (ends : x.endsIn t) :
    u.offersAgain c p b after t := by
  rw [← made] at ends
  refine ⟨fun gate own => ?_, fun guarded first => ?_⟩
  · have unadmitted : ¬(p.cls = .guarded ∧ b.first = true) := by
      rintro ⟨guarded, first⟩
      simp [State.ownGate, guarded, first] at own
    have same : u.beatGate p = gate := by
      unfold State.ownGate at own
      unfold State.beatGate
      split at own
      · rw [if_neg ‹_›]; exact Option.some.inj own
      · rename_i guarded
        rw [not_not] at guarded
        split at own
        · cases own
        · rw [if_pos guarded, Option.mem_def.1 own]; rfl
    have offered : u.offerWrite c p b = if u.takesBeat c b gate then (u.posted c.word b.lanes b.data p.cls gate).answered c LaneData.empty
        else u.held { b with reason := .queueFull } := by
      unfold State.offerWrite
      rw [if_neg unadmitted, same, post_eq, finishBeat_eq (c := c) _ (by simp [hc]), holdBeat_eq]
    rw [offered] at ends
    exact ⟨fun takes => by rwa [if_pos takes] at ends, fun full => by rwa [if_neg full] at ends⟩
  · rw [offerWrite_admits guarded first] at ends
    rw [guarded]
    refine ⟨fun gate given => ?_, fun none free => ?_, fun none full => ?_⟩
    · have admission := admission_tableGate status given
      exact ⟨fun takes => by rwa [admitBeat_takes hc guarded admission takes] at ends,
        fun full => by rwa [admitBeat_queueFull admission full] at ends⟩
    · obtain ⟨intact, absent⟩ := tableGate_none status none
      refine ⟨fun eight => by rwa [admitBeat_ninth (admission_ninth intact absent free eight)] at ends, fun few => ?_⟩
      have admission := admission_newCapture intact absent free few
      exact ⟨fun takes => by rwa [admitBeat_captures hc guarded admission takes] at ends,
        fun full => by rwa [admitBeat_queueFull admission full] at ends⟩
    · obtain ⟨intact, absent⟩ := tableGate_none status none
      refine ⟨fun hold => ?_, fun break_ => ?_⟩
      · rwa [admitBeat_busy (admission_busy intact absent full hold), noteExhausted_closed, noteExhausted_eq] at ends
      · have admission := admission_breaks intact absent full break_
        exact ⟨fun takes => by rwa [admitBeat_breaks hc guarded admission takes lawful inFlight intact] at ends,
          fun full => by rwa [admitBeat_queueFull admission full] at ends⟩

end Offer

/-! ### A beat that an offer leaves waiting -/

/-- The queue or the table does not take the beat, for the reason it then waits for (R39, R62). -/
def State.turnsAway (u : State) (c : Cycle) (p : Portion) (b : Beat) (r : WaitReason) : Prop :=
  r = .queueFull ∧ ¬(p.cls = .guarded ∧ b.first = true) ∧ ¬u.takesBeat c b (u.beatGate p)
    ∨ (p.cls = .guarded ∧ b.first = true)
      ∧ (r = .queueFull ∧ (∃ gate effect, u.admission p.granule = .take gate effect ∧ ¬u.takesBeat c b gate)
        ∨ r = .ninthCapture ∧ u.admission p.granule = .ninth)

section Held

variable {u v : State} {c : Cycle} {p : Portion} {b : Beat} {r : WaitReason}

/-- Such a beat is held (R138). -/
theorem offerWrite_turnedAway (h : u.turnsAway c p b r) : u.offerWrite c p b = u.held { b with reason := r } := by
  rcases h with ⟨rfl, unadmitted, full⟩ | ⟨⟨guarded, first⟩, ⟨rfl, gate, effect, admission, full⟩ | ⟨rfl, ninth⟩⟩
  · unfold State.offerWrite
    rw [if_neg unadmitted, if_neg full, holdBeat_eq]
  · rw [offerWrite_admits guarded first, admitBeat_queueFull admission full]
  · rw [offerWrite_admits guarded first, admitBeat_ninth ninth]

/-- Every other beat is answered (R138). -/
theorem offerWrite_cases (hc : u.host.cycle = some c) : (u.offerWrite c p b).host.beat = none ∨ ∃ r, u.turnsAway c p b r := by
  have finished : ∀ (x : State) (d : LaneData), x.host.cycle = some c → (x.finishBeat d).host.beat = none := by
    intro x d hx
    rw [finishBeat_eq d hx]
    unfold State.answered
    split
    · rfl
    · split <;> rfl
  have posted : ∀ gate, (u.post c.word b p.cls gate).host = u.host := fun gate => (posted_keeps ..).1
  by_cases admitted : p.cls = .guarded ∧ b.first = true
  · obtain ⟨guarded, first⟩ := admitted
    rw [offerWrite_admits guarded first]
    cases admission : u.admission p.granule with
    | busy => rw [admitBeat_busy admission]; exact .inl rfl
    | ninth => exact .inr ⟨.ninthCapture, .inr ⟨⟨guarded, first⟩, .inr ⟨rfl, admission⟩⟩⟩
    | take gate effect =>
      by_cases takes : u.takesBeat c b gate
      · refine .inl ?_
        simp only [State.admitBeat, admission]
        rw [if_pos takes]
        refine finished _ _ ?_
        cases effect with
        | nothing => exact (congrArg HostPort.cycle (posted gate)).trans hc
        | newCapture =>
          refine (congrArg HostPort.cycle (watermarkTest_keeps _).2.2.2.2.2.2.2.2.2.2.1).trans ?_
          exact (congrArg HostPort.cycle (posted gate)).trans hc
        | breakEpoch =>
          refine (sameWrites_applyAdmission _ _ .breakEpoch).cycle.trans ?_
          exact (congrArg HostPort.cycle (posted gate)).trans hc
      · exact .inr ⟨.queueFull, .inr ⟨⟨guarded, first⟩, .inl ⟨rfl, gate, effect, admission, takes⟩⟩⟩
  · by_cases takes : u.takesBeat c b (u.beatGate p)
    · refine .inl ?_
      unfold State.offerWrite
      rw [if_neg admitted, if_pos takes]
      exact finished _ _ ((congrArg HostPort.cycle (posted _)).trans hc)
    · exact .inr ⟨.queueFull, .inl ⟨rfl, admitted, takes⟩⟩

/-- A beat turned away is turned away while entries begin to drain (R59, R62). -/
theorem turnsAway_draining {n : Nat} (table : v.table = u.table) (active : v.header.active = u.header.active)
    (tail : v.capture.tail = u.capture.tail) (gate : v.host.gate = u.host.gate)
    (queue : v.queue = { u.queue with entries := markDraining n u.queue.entries }) (h : u.turnsAway c p b r) :
    v.turnsAway c p b r := by
  have admission := admission_congr p.granule table active tail
  have own : v.beatGate p = u.beatGate p := by unfold State.beatGate; rw [gate]
  have full : ∀ gate, ¬u.takesBeat c b gate → ¬v.takesBeat c b gate := by
    rintro gate full (none | room)
    · exact full (.inl none)
    · rw [queue] at room
      exact full (.inr (accepts_markDraining n room))
  rcases h with ⟨rfl, unadmitted, away⟩ | ⟨admitted, ⟨rfl, gate, effect, takes, away⟩ | ⟨rfl, ninth⟩⟩
  · exact .inl ⟨rfl, unadmitted, by rw [own]; exact full _ away⟩
  · exact .inr ⟨admitted, .inl ⟨rfl, gate, effect, admission.trans takes, full _ away⟩⟩
  · exact .inr ⟨admitted, .inr ⟨rfl, admission.trans ninth⟩⟩

/-- After an offer in OPEN an event ends with the beat answered or waiting on (R62). -/
theorem settle_offered {x : State} (opened : u.ctl.state = .opened) (hc : u.host.cycle = some c) (hw : c.write = true)
    (hp : u.host.portion = some p) (offered : u.offerWrite c p b = x) : x.endsIn (State.settle x x) := by
  rcases offerWrite_cases (p := p) (b := b) hc with answered | ⟨r, away⟩
  · exact settle_endsIn x (rests_of_noBeat (by rw [← offered]; exact answered))
  · rw [offerWrite_turnedAway away] at offered
    obtain ⟨n, queue⟩ := arbitrate_queue x.takeCapture
    obtain ⟨-, -, -, table, -, -, -, -, -, -, -, -, header, host, tail, -⟩ := endsIn_grant x
    have kept : x.takeCapture.queue = u.queue := by rw [← offered]; simp [State.held]
    rw [kept] at queue
    refine settle_heldOn (c := c) (by rw [← offered]; exact opened) (by rw [← offered]; exact hc) hw (reoffer_unmoved rfl rfl) ?_
    generalize x.takeCapture.arbitrate = granted at *
    rw [← offered] at table header host tail
    have again : granted.turnsAway c p { b with reason := r } r :=
      turnsAway_draining table (congrArg HeaderUnit.active header :) tail (congrArg HostPort.gate host :) queue away
    have beat : granted.host.beat = some { b with reason := r } := by rw [host]; rfl
    refine reoffer_waitsOn (by rw [host]; exact hc) (by rw [host]; exact hp) beat ?_
    rw [offerWrite_turnedAway again]
    exact held_again beat (congrArg HostPort.response host :) (congrArg HostPort.data host :)

end Held

/-! ### A drain write granted under a held beat -/

/-- On an IDLE port the port's own part of a grant is one of the things that end an event (R159). -/
theorem endsIn_setPort {u : State} (idle : u.port.op = none) (x : MemoryPort) : u.endsIn (u.setPort x) := by
  refine ⟨rfl, rfl, rfl, rfl, rfl, rfl, rfl, rfl, rfl, rfl, rfl, .inl rfl, rfl, rfl, rfl, fun _ => rfl, fun _ => rfl, ?_⟩
  simp [idle]

/-- The operation a requester has standing is of its own kind ("Operations by requester" of 10). -/
theorem standing_requester {s : State} {r : Requester} {o : MemOp} (h : s.standing r = some o) : o.kind.requester = r := by
  cases r <;> simp only [State.standing] at h <;> repeat' split at h
  all_goals cases h <;> rfl

/-- A drain is granted where no capture request stands (R158). -/
theorem choice_drain {s : State} (h : s.choice = some .drain) : s.standing .capture = none := by
  unfold State.choice at h
  split at h
  · cases h
  · split at h
    · cases h
    · split at h
      · cases h
      · rename_i none
        simpa using none

/-- A capture taken has its read requested (R26, R157). -/
theorem takeCapture_cases (s : State) : s.takeCapture = s ∨ s.takeCapture.standing .capture ≠ none := by
  unfold State.takeCapture
  split
  · rename_i due
    split
    · refine .inr ?_
      have going : s.ctl.state.stopped = false := by rcases due.2.1 with h | h <;> rw [h] <;> rfl
      simp [State.standing, going]
    · exact .inl rfl
  · exact .inl rfl

/-- Entries not draining begin to drain (R65, R66). -/
theorem markDraining_ne {s : State} {o : MemOp} (h : s.standing .drain = some o) :
    markDraining o.length s.queue.entries ≠ s.queue.entries ∧ o.length = (drainBurst s.queue.entries).length := by
  simp only [State.standing] at h
  split at h
  · rename_i stands
    obtain rfl := Option.some.inj h
    refine ⟨?_, rfl⟩
    unfold State.drainStands at stands
    cases entries : s.queue.entries with
    | nil => simp [entries] at stands
    | cons e rest =>
      simp only [entries, Bool.and_eq_true, List.all_cons, Bool.not_eq_true'] at stands
      obtain ⟨⟨-, ⟨still, -⟩⟩, -⟩ := stands
      intro same
      have first := congrArg List.head? same
      simp only [drainBurst, markDraining, List.length_cons, List.take_succ_cons, List.map_cons, List.cons_append, List.head?_cons,
        Option.some.injEq] at first
      have draining := congrArg QueueEntry.draining first
      simp [still] at draining
  · cases h

/-- What is due by the statements is due in the model (R39, R62). -/
theorem offerDue_iff (s u : State) (b : Beat) : State.offerDue s u b = true ↔ s.dueBy u b := by
  unfold State.offerDue State.dueBy
  cases b.reason with
  | ninthCapture =>
    simp only [reduceCtorEq, false_and, false_or, true_and, Bool.and_eq_true, decide_eq_true_eq]
    exact Iff.rfl
  | _ => simp

/-- No read beat is offered to the queue (R62). -/
theorem reoffer_read {before u : State} {c : Cycle} (hc : u.host.cycle = some c) (read : c.write = false) :
    State.reoffer before u = u := by
  unfold State.reoffer
  rw [hc]
  split
  · rename_i k _ _ hk _ _
    obtain rfl := Option.some.inj hk
    exact if_neg (by simp [read])
  · rfl

/-- A write beat due is offered (R62). -/
theorem reoffer_due {before u : State} {c : Cycle} {p : Portion} {b : Beat} (opened : u.ctl.state = .opened)
    (hc : u.host.cycle = some c) (hw : c.write = true) (hp : u.host.portion = some p) (hb : u.host.beat = some b)
    (due : before.dueBy u b) : State.reoffer before u = u.offerWrite c p b := by
  unfold State.reoffer
  rw [hc, hp, hb]
  exact if_pos ⟨opened, hw, (offerDue_iff before u b).2 due⟩

/-- Only a drain write's grant touches the queue (R66, R159). -/
theorem grant_undrained {s : State} {r : Requester} {o : MemOp} (h : r ≠ .drain) : (s.grant r o).queue = s.queue := by
  cases r with
  | drain => exact absurd rfl h
  | header =>
    simp only [State.grant, State.tellGranted]
    split
    · rfl
    · split <;> rfl
  | hostRead =>
    simp only [State.grant, State.tellGranted]
    split <;> rfl
  | engine | capture => rfl

/-- A beat on which only the drain of its own grant can act (R62). -/
theorem settle_drainOffered {before u t : State} {c : Cycle} {p : Portion} {b : Beat} (opened : u.ctl.state = .opened)
    (hc : u.host.cycle = some c) (hw : c.write = true) (hp : u.host.portion = some p) (hb : u.host.beat = some b)
    (still : State.reoffer before u = u) (ht : State.settle before u = t) :
    (b.reason = .ninthCapture ∨ u.port.op.isSome ∨ t.port.op.map MemOp.kind ≠ some .drainWrite → u.endsIn t)
      ∧ (b.reason = .queueFull → u.port.op = none → ∀ o ∈ t.port.op, o.kind = .drainWrite →
          ((u.takenIn o.length).offerWrite c p b).endsIn t) := by
  have tested : u.tested = u.takeCapture := by
    rw [State.tested, commitTest_elsewhere (by simp [opened]), rollbackTest_elsewhere (by simp [opened])]
  have ends : t = (State.reoffer u.tested u.tested.arbitrate).takeCapture := by
    rw [← ht, State.settle, still, releaseRead_write hc hw]; rfl
  have quiet : State.reoffer u.tested u.tested.arbitrate = u.tested.arbitrate → u.endsIn t ∧ t.port = u.tested.arbitrate.port := by
    intro again
    rw [← ht, settle_unmoved still (releaseRead_write hc hw) again]
    exact ⟨endsIn_trans (endsIn_trans (endsIn_tested u) (endsIn_arbitrate _)) (endsIn_takeCapture _), by simp⟩
  have idle : ∀ o : MemOp, u.tested.arbitrate.queue = u.tested.queue → u.tested.arbitrate.port.op = some o → u.port.op = none →
      o.kind ≠ .drainWrite → State.reoffer u.tested u.tested.arbitrate = u.tested.arbitrate := fun _ queue _ _ _ =>
    reoffer_unmoved (by rw [queue]) (by simp)
  rcases arbitrate_cases u.tested with same | ⟨r, o, free, -, -, choice, standing, granted⟩
  · have port : u.tested.port = u.port := by simp
    obtain ⟨ended, op⟩ := quiet (reoffer_unmoved (by rw [same]) (by simp))
    refine ⟨fun _ => ended, fun _ none o ho => ?_⟩
    rw [op, same, port, none] at ho
    cases ho
  · have op : t.port.op = some o := by
      have port : (State.reoffer u.tested u.tested.arbitrate).port = u.tested.arbitrate.port := by
        unfold State.reoffer
        split
        · split
          · exact offerWrite_port ..
          · rfl
        · rfl
      rw [ends, (takeCapture_keeps _).2.2.2.2.2.2.2.2.1, port, granted]
      rfl
    by_cases drain : r = .drain
    · subst drain
      have taken : u.takeCapture = u := by
        rcases takeCapture_cases u with same | stands
        · exact same
        · rw [tested] at choice
          exact absurd (choice_drain choice) stands
      rw [tested, taken] at free standing granted ends
      have kind : o.kind = .drainWrite := by
        have own := standing_requester standing
        cases hk : o.kind <;> rw [hk] at own <;> first | rfl | cases own
      obtain ⟨moved, length⟩ := markDraining_ne standing
      have arbitrated : u.arbitrate = (u.takenIn o.length).setPort ⟨some o, BitVec.ofNat 24 o.start, u.agingAfter .drain⟩ := by
        rw [granted, length]; rfl
      refine ⟨fun others => ?_, fun reason _ o' ho' _ => ?_⟩
      · have ninth : b.reason = .ninthCapture := by
          rcases others with h | h | h
          · exact h
          · simp [free] at h
          · simp [op, kind] at h
        refine (quiet ?_).1
        rw [tested, taken]
        refine reoffer_notDue (b := b) ?_ (offerDue_ninthCapture ninth (by simp))
        rw [arbitrated]
        exact hb
      · obtain rfl : o = o' := Option.some.inj (op.symm.trans ho')
        have due : u.dueBy u.arbitrate b := by
          refine .inl ⟨reason, ?_⟩
          rw [arbitrated]
          exact moved
        rw [ends, reoffer_due (c := c) (p := p) (b := b) (by simp [opened]) ?_ hw ?_ ?_ due, arbitrated, offerWrite_setPort]
        · refine endsIn_trans (endsIn_setPort ?_ _) (endsIn_takeCapture _)
          rw [offerWrite_port]
          exact free
        all_goals rw [arbitrated]; assumption
    · have queue : u.tested.arbitrate.queue = u.tested.queue := by
        rw [granted]
        exact grant_undrained drain
      obtain ⟨ended, -⟩ := quiet (reoffer_unmoved (by rw [queue]) (by simp))
      refine ⟨fun _ => ended, fun _ _ o' ho' kind => ?_⟩
      obtain rfl : o = o' := Option.some.inj (op.symm.trans ho')
      have own := standing_requester standing
      rw [kind] at own
      exact absurd own.symm drain

/-- A read beat whose last matching entry has left is served from memory as the event ends (R69, R148). -/
theorem settle_releases {before u : State} {c : Cycle} {b : Beat} (offered : State.reoffer before u = u)
    (hc : u.host.cycle = some c) (hb : u.host.beat = some b) (read : c.write = false) (reason : b.reason = .partlyCovered)
    (unmatched : u.queue.matching c.word = []) : u.releases c b (State.settle before u) := by
  have released : u.releaseRead = u.requestRead c b := by
    unfold State.releaseRead
    rw [hc, hb]
    exact if_pos ⟨read, reason, by simp [unmatched]⟩
  have cycle : (u.requestRead c b).host.cycle = some c := by
    unfold State.requestRead
    split <;> exact hc
  have again : ∀ x, u.requestRead c b = x → x.rests → State.settle before u = State.settle before x := by
    intro x hx rests
    rw [State.settle, offered, released, hx, State.settle, reoffer_rests rests, releaseRead_rests rests]
  refine ⟨fun free => ?_, fun taken => ?_⟩
  · rw [again _ rfl ?_]
    · exact settle_requestRead before hc read free
    · rw [requestRead_free free]
      exact held_rests (b := { b with reason := .wordPending }) hc read (fun h => WaitReason.noConfusion h)
  · have rests : (u.held { b with reason := .readPending }).rests := held_rests hc read (fun h => WaitReason.noConfusion h)
    rw [again _ (requestRead_outstanding taken) rests]
    exact settle_ends rfl rests

/-- An event whose effects make `u` ends as it should (R39, R62, R69). -/
theorem settlesBy_settle {s u : State} (admits : s.Lawful → u.ctl.state = .opened →
    u.table.lawful ∧ u.inFlight ∧ u.table.status ≠ none) : s.settlesBy u id (State.settle s u) := by
  refine ⟨fun rests => ?_, fun c hc b hb read reason unmatched => ?_,
    fun lawful opened c hc p hp b hb write => ?_⟩
  · rw [id_eq]
    exact settle_endsIn s rests
  · exact settle_releases (reoffer_read hc read) hc hb read reason unmatched
  · obtain ⟨table, inFlight, status⟩ := admits lawful opened
    refine ⟨fun due => ?_, fun notDue => ?_⟩
    · have offered := reoffer_due opened hc write hp hb due
      have ends := settle_offered opened hc write hp rfl (b := b)
      have same : State.settle s u = State.settle (u.offerWrite c p b) (u.offerWrite c p b) := by
        rw [State.settle, offered, State.settle, reoffer_unmoved rfl rfl]
      refine offersAgain_of_offer hc table inFlight status rfl (x := u.offerWrite c p b) ?_
      rw [same]
      exact ends
    · have still : State.reoffer s u = u :=
        reoffer_notDue hb (Bool.eq_false_iff.2 fun due => notDue ((offerDue_iff s u b).1 due))
      obtain ⟨ended, drained⟩ := settle_drainOffered opened hc write hp hb still rfl
      rw [id_eq]
      refine ⟨ended, fun reason idle o ho kind => ?_⟩
      exact offersAgain_of_offer (u := u.takenIn o.length) (by exact hc) table inFlight status rfl (drained reason idle o ho kind)

end Sys2Proof.Machine
end

section
/-! The completions that a held beat may wait for: of a host read, a capture's operations and the mark (chapters 2, 3, 9). -/

namespace Sys2Proof.Machine

/-- In a lawful state in OPEN a beat can be admitted (R39, R50). -/
theorem lawful_admits {s u : State} (state : u.ctl.state = s.ctl.state) (table : u.table = s.table) (capture : u.capture = s.capture)
    (lawful : s.Lawful) (opened : u.ctl.state = .opened) : u.table.lawful ∧ u.inFlight ∧ u.table.status ≠ none := by
  obtain ⟨-, -, -, -, ⟨-, going, -, -⟩, -, -, -, -, inFlight, -⟩ := lawful.consistent
  unfold State.inFlight
  rw [table, capture]
  exact ⟨lawful.table, inFlight, going (by rw [← state, opened]; decide)⟩

/-- The end of a host read on which no beat waited (R150). -/
theorem requestWaiting_unawaited {u : State} (h : ∀ b ∈ u.host.beat, b.reason ≠ .readPending) : u.requestWaiting = u := by
  unfold State.requestWaiting
  split
  · rename_i c b hc hb
    exact if_neg fun waits => h b hb waits.2
  · rfl

/-- A host read's completion (R150). -/
theorem exec_hostReadComplete {s u : State} {o : MemOp} (underway : s.completing .hostRead = .underway o) (last : o.beat = o.length)
    (going : s.ctl.state ≠ .parking) (made : ((s.ended o).setHost { s.host with read := none }).requestWaiting = u)
    (state : u.ctl.state = s.ctl.state) : exec .hostReadComplete s = .next (State.settle s u) := by
  refine (onOperation_underway _ underway).trans (congrArg Host.Outcome.next ((if_pos last).trans ?_))
  refine (congrArg (State.afterCompletion s) ((if_neg (by exact going)).trans made)).trans ?_
  exact afterCompletion_settle (by rw [state]; exact going)

/-- Settles O41. -/
theorem hostReadEnds : Obligations.HostReadEnds := by
  intro s o c b underway last going
  refine ⟨fun unawaited => ⟨_, exec_hostReadComplete underway last going (requestWaiting_unawaited unawaited) rfl, ?_⟩,
    fun hc read hb reason => ?_⟩
  · exact settlesBy_settle (lawful_admits rfl rfl rfl)
  · have requested : ((s.ended o).setHost { s.host with read := none }).requestWaiting
        = ((s.ended o).setHost { s.host with read := none }).requestRead c b := by
      unfold State.requestWaiting
      rw [show ((s.ended o).setHost { s.host with read := none }).host.cycle = some c from hc,
        show ((s.ended o).setHost { s.host with read := none }).host.beat = some b from hb]
      exact if_pos ⟨read, reason⟩
    refine ⟨_, exec_hostReadComplete underway last going requested rfl, ?_⟩
    exact settle_requestRead (u := (s.ended o).setHost { s.host with read := none }) s hc read rfl

/-- A completion outside PARKING whose effects make `u`, and its event's tests. -/
theorem onCompletion_settles {s u : State} {k : OpKind} {o : MemOp} {effect : MemOp → State}
    (underway : s.completing k = .underway o) (made : effect o = u) (going : u.ctl.state ≠ .parking) :
    s.onOperation k (fun o => State.afterCompletion s (effect o)) = .next (State.settle s u) := by
  rw [onCompletion underway made, afterCompletion_settle going]

/-- The same of a header write's completion. -/
theorem onHeaderWrite_settles {s u : State} {o : MemOp} {w : WriteRequest} (mine : WriteKind → Bool)
    (effect : State → WriteRequest → State) (underway : s.completing .headerWrite = .underway o)
    (request : s.header.writeRequest = some w) (kind : mine w.kind = true) (made : effect (s.ended o) w = u)
    (going : u.ctl.state ≠ .parking) : s.onHeaderWrite mine effect = .next (State.settle s u) := by
  rw [onHeaderWrite_completes mine effect underway request kind made, afterCompletion_settle going]

/-- In a lawful state in OPEN the epoch status has a value (R50). -/
theorem lawful_status {s : State} (lawful : s.Lawful) (opened : s.ctl.state = .opened) : s.table.status ≠ none := by
  obtain ⟨-, -, -, -, ⟨-, going, -, -⟩, -⟩ := lawful.consistent
  exact going (by rw [opened]; decide)

/-- An IDLE unit with nothing in hand serves no entry (R25). -/
theorem inFlight_idle {s : State} (idle : s.capture.phase = .idle) (none : s.capture.granule = none) : s.inFlight :=
  ⟨fun _ => none, fun busy => absurd idle busy⟩

/-- The capture unit is busy with an operation of its own underway (R25, R157). -/
theorem underway_busy {s : State} {k : OpKind} {o : MemOp} (h : s.completing k = .underway o)
    (own : k = .preImageRead ∧ s.capture.phase ≠ .reading ∨ k = .recordWrite ∧ s.capture.phase ≠ .writing) : False := by
  obtain ⟨-, -, waits, -⟩ := completing_underway.1 h
  rcases own with ⟨rfl, other⟩ | ⟨rfl, other⟩ <;> simp [State.ownerWaits, other] at waits

/-! ### A record write -/

/-- A record write's effects outside PARKING (R29, R42, R53). -/
theorem completeCapture_eq {s : State} {g : Nat} (going : s.ctl.state ≠ .parking) (lawful : s.table.lawful)
    (present : (⟨g, .capturing⟩ : TableEntry) ∈ s.table.entries) (granule : s.capture.granule = some g) :
    s.completeCapture = (((s.setCapture { s.capture.free with tail := s.capture.tail + 1 }).setTable { s.table with
      entries := if s.table.status = some .broken then s.table.entries.filter fun e => e.granule ≠ g
        else s.table.entries.map fun e => if e.granule = g then ⟨g, .logged⟩ else e
      reservations := s.table.reservations - 1 }).watermarkTest).turned fun gate => if gate = .tied g then .opened else gate := by
  have gates : (fun gate => if gate = .tied g then .opened else gate) = Gate.retied [g] .opened := funext fun gate => (retied_one g _ gate).symm
  rw [← complete_eq lawful present, gates, State.completeCapture, granule]
  exact if_neg going

/-- Settles O49. -/
theorem recordWriteEndsCapture : Obligations.RecordWriteEndsCapture := by
  intro s o g underway going consistent lawful granule
  obtain ⟨-, -, -, -, -, -, -, -, -, inFlight, -⟩ := consistent
  have busy : s.capture.phase ≠ .idle := fun idle => underway_busy underway (.inr ⟨rfl, by rw [idle]; decide⟩)
  have made := completeCapture_eq (s := s.ended o) going lawful (inFlight_entry inFlight busy granule) granule
  have law := (keepsLaws_completeCapture (s.ended o)).table lawful
  rw [made] at law
  refine ⟨_, onCompletion_settles underway made (by simpa using going), settlesBy_settle fun all opened => ⟨law, ?_, ?_⟩⟩
  · refine inFlight_idle ?_ ?_ <;> simp [CaptureUnit.free]
  · simp only [turned_keeps, watermarkTest_keeps, setTable_ctl, setCapture_ctl] at opened
    simpa using lawful_status all opened

/-! ### The mark write -/

/-- Settles O50. -/
theorem markWriteBreaksEpoch : Obligations.MarkWriteBreaksEpoch := by
  intro s o w h underway going lawful request kind content
  have made := takeMark_eq (s := s.ended o) (w := w) (by exact lawful) content
  have law := (keepsLaws_takeMark (s.ended o) w).table lawful
  rw [made] at law
  refine ⟨_, onHeaderWrite_settles (· == .mark) State.takeMark underway request (by rw [kind]; rfl) made (by simpa using going),
    settlesBy_settle fun all opened => ⟨law, ?_, by simp⟩⟩
  obtain ⟨-, -, -, -, -, -, -, -, -, inFlight, -⟩ := all.consistent
  refine ⟨fun idle => ?_, fun busy => ?_⟩
  · have still := inFlight.1 (by simpa using idle)
    simpa using still
  · obtain ⟨e, he, capturing, granule⟩ := inFlight.2 (by simpa using busy)
    exact ⟨e, by simp [he, granule], capturing, by simpa using granule⟩

/-! ### A pre-image read -/

/-- An IDLE unit is granted nothing (R25, R157). -/
theorem arbitrate_captureIdle {s : State} (idle : s.capture.phase = .idle) : s.arbitrate.capture = s.capture := by
  rcases arbitrate_cases s with same | ⟨r, o, -, -, -, -, standing, grant⟩
  · rw [same]
  · rw [grant]
    cases r with
    | capture => simp [State.standing, idle] at standing
    | header =>
      simp only [State.grant, State.tellGranted]
      split
      · rfl
      · split <;> rfl
    | hostRead =>
      simp only [State.grant, State.tellGranted]
      split <;> rfl
    | engine | drain => rfl

/-- As an event ends a unit that stays IDLE holds what it held, where no capture is due (R26). -/
theorem settle_captureIdle (before : State) {u : State} (rests : u.rests) (idle : u.capture.phase = .idle)
    (undue : u.table.status ≠ some .intact ∨ (u.ctl.state ≠ .opened ∧ u.ctl.state ≠ .draining)) :
    (State.settle before u).capture = u.capture := by
  have none : ∀ v : State, v.table = u.table → (v.ctl.state = u.ctl.state ∨ v.ctl.state = .sealing) → v.takeCapture = v := by
    intro v table state
    refine if_neg ?_
    rintro ⟨-, opened, intact⟩
    rcases undue with status | ⟨notOpened, notDraining⟩
    · exact status (by rw [← table]; exact intact)
    · rcases state with same | sealing
      · rw [same] at opened
        exact opened.elim notOpened notDraining
      · simp [sealing] at opened
  obtain ⟨-, -, -, table, -, -, -, -, -, -, -, state, -⟩ := endsIn_tested u
  have state : u.tested.ctl.state = u.ctl.state ∨ u.tested.ctl.state = .sealing := state.imp_right And.right
  have tested : u.tested.capture = u.capture := by
    simp [none u rfl (.inl rfl)]
  have granted := arbitrate_captureIdle (by rw [tested]; exact idle)
  rw [settle_eq before rests, none _ (by simp) (by simpa using state), granted, tested]

/-- What a read returns where no beat has MERR (R153). -/
theorem wordsRead_clean (s : State) (o : MemOp) : s.wordsRead o [] = s.mem.readWords o.start o.length := rfl

/-- A failed capture's effects (R30, R51). -/
theorem failCapture_eq {s : State} {g : Nat} (lawful : s.table.lawful) (present : (⟨g, .capturing⟩ : TableEntry) ∈ s.table.entries)
    (granule : s.capture.granule = some g) (intact : s.table.status = some .intact) :
    s.failCapture = (s.captureGone.watermarkTest.breaks).turned (Gate.waiting [g]) := by
  have table := captureGone_table lawful present granule
  have broken : s.captureGone.watermarkTest.enterBreaking = s.captureGone.watermarkTest.breaks := by
    refine enterBreaking_eq ?_ (inFlight_idle ?_ ?_) ?_
    · simp only [watermarkTest_keeps, table]
      exact drop_lawful _ lawful
    · simp [State.captureGone, CaptureUnit.free]
    · simp [State.captureGone, CaptureUnit.free]
    · simpa [State.captureGone] using intact
  have status : s.captureGone.watermarkTest.breaks.table.status = some .breaking := by
    simp [State.breaks, State.waitingCancelled, State.captureStopped, State.captureGone, CaptureUnit.free]
  unfold State.failCapture
  rw [releaseInFlight_eq lawful present granule, broken, waitForMark_eq, if_pos status, granule]
  rfl

/-- The in-flight entry's leaving touches the capture unit and the table alone (R30, R31). -/
@[simp] theorem captureGone_keeps (s : State) :
    s.captureGone.pins = s.pins ∧ s.captureGone.mem = s.mem ∧ s.captureGone.dec = s.dec ∧ s.captureGone.capture = s.capture.free
      ∧ s.captureGone.table.status = s.table.status ∧ s.captureGone.queue = s.queue ∧ s.captureGone.ctl = s.ctl
      ∧ s.captureGone.engine = s.engine ∧ s.captureGone.header = s.header ∧ s.captureGone.port = s.port
      ∧ s.captureGone.host = s.host ∧ s.captureGone.link = s.link ∧ s.captureGone.events = s.events
      ∧ s.captureGone.alarms = s.alarms ∧ s.captureGone.pending = s.pending := by
  and_intros <;> rfl

/-- An epoch broken with the capture unit IDLE (R51): every CAPTURING entry leaves. -/
theorem breaks_idle {s : State} (idle : s.capture.phase = .idle) (empty : s.capture.granule = none) :
    s.breaks.table = { s.table with status := some .breaking, entries := s.table.entries.filter fun e => e.state = .logged, reservations := 0 }
      ∧ s.breaks.capture = s.capture
      ∧ s.breaks.queue = { s.queue with entries := s.queue.entries.map fun e =>
          { e with gate := e.gate.waiting (s.table.capturingBut none) } }
      ∧ s.breaks.host = { s.host with gate := s.host.gate.map (Gate.waiting (s.table.capturingBut none)) }
      ∧ s.breaks.header = { s.header with writeRequest := some ⟨.mark, s.header.unselected, false, none, false, false⟩ } := by
  have stopped : (s.setTable { s.table with status := some .breaking }).captureStopped = s.setTable { s.table with status := some .breaking } := by
    unfold State.captureStopped
    rw [if_neg (by simp [idle]), if_neg (by simp [idle])]
  unfold State.breaks State.turned
  rw [stopped]
  simp [State.waitingCancelled, empty]

/-- A broken epoch's table keeps its law (R39, R42). -/
theorem breaks_lawful {s : State} (lawful : s.table.lawful) (inFlight : s.inFlight) (intact : s.table.status = some .intact) :
    s.breaks.table.lawful := by
  rw [← enterBreaking_eq lawful inFlight intact]
  exact (keepsLaws_enterBreaking s).table lawful

/-- A read leaves the memory as it was (R153). -/
theorem ended_mem {s : State} {k : OpKind} {o : MemOp} (h : s.completing k = .underway o) (read : k.isWrite = false) :
    (s.ended o).mem = s.mem := by
  obtain ⟨-, rfl, -, -⟩ := completing_underway.1 h
  show s.mem.writeBeats o.start o.stores = s.mem
  rw [MemOp.stores, if_neg (by simp [read])]
  rfl

/-- A pre-image read ended, CAPTURE_FAILED raised where MERR came with it (R30, R31). -/
def State.readNoted (s : State) (merr : List BadBeat) (o : MemOp) (g : Nat) : State :=
  if merr = [] then s.ended o else (s.ended o).raise .captureFailed s.epochNumber (BitVec.ofNat 32 g)

section PreImage

variable {s : State} {merr : List BadBeat} {o : MemOp} {g : Nat}

/-- What a read that ends leaves alone (R30, R153). -/
theorem readNoted_keeps (underway : s.completing .preImageRead = .underway o) :
    (s.readNoted merr o g).table = s.table ∧ (s.readNoted merr o g).capture = s.capture ∧ (s.readNoted merr o g).ctl = s.ctl
      ∧ (s.readNoted merr o g).queue = s.queue ∧ (s.readNoted merr o g).host = s.host
      ∧ (s.readNoted merr o g).header = s.header ∧ (s.readNoted merr o g).mem = s.mem := by
  have mem := ended_mem underway rfl
  unfold State.readNoted
  split <;> simp [mem]

/-- The event it raises (R30). -/
theorem readNoted_events : (merr = [] → (s.readNoted merr o g).events = s.events)
    ∧ (merr ≠ [] → s.events.records.length < 16 → (s.readNoted merr o g).events = { s.events with
      records := s.events.records ++ [⟨.captureFailed, s.epochNumber, BitVec.ofNat 32 g⟩] }) := by
  unfold State.readNoted
  refine ⟨fun clean => by rw [if_pos clean]; rfl, fun failed room => ?_⟩
  rw [if_neg failed, raise_joins (by exact room)]
  rfl

/-- The capture unit's read is underway in READING, in a state that runs (R25, R132). -/
theorem preImageRead_reading (underway : s.completing .preImageRead = .underway o) (going : s.ctl.state ≠ .parking)
    (consistent : s.consistent) : s.capture.phase = .reading ∧ s.ctl.state.stopped = false := by
  obtain ⟨-, -, -, -, -, -, -, -, -, -, ⟨-, parked, -⟩, -⟩ := consistent
  obtain ⟨op, -⟩ := completing_underway.1 underway
  refine ⟨by_contra fun other => underway_busy underway (.inl ⟨rfl, other⟩), ?_⟩
  cases state : s.ctl.state <;> try rfl
  · exact absurd state going
  · rw [(parked state).1] at op; cases op

/-- A stopped read's effects (R31). -/
theorem takePreImage_stopped (underway : s.completing .preImageRead = .underway o) (going : s.ctl.state ≠ .parking)
    (lawful : s.table.lawful) (present : (⟨g, .capturing⟩ : TableEntry) ∈ s.table.entries) (granule : s.capture.granule = some g)
    (stop : s.capture.stop = true) : (s.ended o).takePreImage merr (s.wordsRead o merr)
      = (s.readNoted merr o g).captureGone.watermarkTest.turned
        (Gate.waiting (if s.table.status = some .breaking then [g] else [])) := by
  obtain ⟨table, capture, -⟩ := readNoted_keeps (merr := merr) (g := g) underway
  have noted : (s.ended o).noteFailure merr = s.readNoted merr o g := noteFailure_eq merr (by exact granule)
  rw [← table, ← endStopped_eq (by rw [table]; exact lawful) (by rw [table]; exact present) (by rw [capture]; exact granule), ← noted]
  unfold State.takePreImage
  rw [if_neg (by exact going), if_pos (by exact stop)]

/-- A failed read's effects (R30, R51). -/
theorem takePreImage_failed (underway : s.completing .preImageRead = .underway o) (going : s.ctl.state ≠ .parking)
    (lawful : s.table.lawful) (present : (⟨g, .capturing⟩ : TableEntry) ∈ s.table.entries) (granule : s.capture.granule = some g)
    (free : s.capture.stop = false) (failed : merr ≠ []) (intact : s.table.status = some .intact) :
    (s.ended o).takePreImage merr (s.wordsRead o merr)
      = ((s.readNoted merr o g).captureGone.watermarkTest.breaks).turned (Gate.waiting [g]) := by
  obtain ⟨table, capture, -⟩ := readNoted_keeps (merr := merr) (g := g) underway
  have noted : (s.ended o).noteFailure merr = s.readNoted merr o g := noteFailure_eq merr (by exact granule)
  rw [← failCapture_eq (by rw [table]; exact lawful) (by rw [table]; exact present) (by rw [capture]; exact granule)
      (by rw [table]; exact intact), ← noted]
  unfold State.takePreImage
  rw [if_neg (by exact going), if_neg (by simp [free]), if_neg (by simpa using failed)]

/-- A clean read's effects (R28). -/
theorem takePreImage_clean (going : s.ctl.state ≠ .parking) (granule : s.capture.granule = some g) (free : s.capture.stop = false) :
    (s.ended o).takePreImage [] (s.wordsRead o []) = (s.ended o).setCapture { s.capture with
      phase := .writing, granted := false, buffer := s.mem.readWords o.start o.length
      slot := some s.capture.tail
      record := recordWords (s.header.formatNumber.getD 0) s.capture.tail g s.epochNumber
        (s.mem.readWords o.start o.length) } := by
  unfold State.takePreImage
  rw [if_neg (by exact going), if_neg (by simp [free])]
  show (s.ended o).enterWriting _ = _
  unfold State.enterWriting
  simp only [ended_keeps, granule]
  rfl

/-- The table without the entry whose capture has ended keeps its law (R39, R42). -/
theorem readNoted_gone (underway : s.completing .preImageRead = .underway o) (lawful : s.table.lawful)
    (present : (⟨g, .capturing⟩ : TableEntry) ∈ s.table.entries) (granule : s.capture.granule = some g) :
    (s.readNoted merr o g).captureGone.table.lawful := by
  obtain ⟨table, capture, -⟩ := readNoted_keeps (merr := merr) (g := g) underway
  rw [captureGone_table (by rw [table]; exact lawful) (by rw [table]; exact present) (by rw [capture]; exact granule), table]
  exact drop_lawful _ lawful

/-- A stopped read as its event ends, with no beat presented (R31). -/
theorem stoppedRead_ends (underway : s.completing .preImageRead = .underway o) (going : s.ctl.state ≠ .parking)
    (consistent : s.consistent) (granule : s.capture.granule = some g) (stop : s.capture.stop = true) (quiet : s.host.beat = none)
    {u t : State} (made : (s.readNoted merr o g).captureGone.watermarkTest.turned
      (Gate.waiting (if s.table.status = some .breaking then [g] else [])) = u) (ht : State.settle s u = t) :
    t.table.entries = s.table.entries.filter (fun e => e.granule ≠ g)
      ∧ t.table.reservations = s.table.reservations - 1 ∧ t.table.status = s.table.status
      ∧ t.capture.tail = s.capture.tail ∧ t.capture.phase = .idle ∧ t.mem = s.mem
      ∧ t.queue.entries.map QueueEntry.gate = (s.queue.entries.map QueueEntry.gate).map
          (Gate.waiting (if s.table.status = some .breaking then [g] else []))
      ∧ t.host.gate = s.host.gate.map (Gate.waiting (if s.table.status = some .breaking then [g] else []))
      ∧ (merr = [] → t.events = s.events)
      ∧ (merr ≠ [] → s.events.records.length < 16 → t.events = { s.events with
          records := s.events.records ++ [⟨.captureFailed, s.epochNumber, BitVec.ofNat 32 g⟩] }) := by
  obtain ⟨reading, running⟩ := preImageRead_reading underway going consistent
  obtain ⟨-, -, -, -, -, ⟨-, stoppedRead, -⟩, -⟩ := consistent
  obtain ⟨table, capture, ctl, queue, host, -, mem⟩ := readNoted_keeps (merr := merr) (g := g) underway
  obtain ⟨clean, failed⟩ := readNoted_events (s := s) (merr := merr) (o := o) (g := g)
  have rests : u.rests := rests_of_noBeat (by rw [← made]; simpa [host] using quiet)
  have capture' := settle_captureIdle s rests (by rw [← made]; simp [CaptureUnit.free]) (by
    rw [← made]
    simp only [turned_keeps, watermarkTest_keeps, captureGone_keeps]
    rcases (stoppedRead reading stop).2 with breaking | rolling | halted
    · exact .inl (by simp [table, breaking])
    · exact .inr (by simp [ctl, rolling])
    · simp [running] at halted)
  obtain ⟨-, mem', -, table', -, events', -, -, -, undrained, -, -, -, host', -⟩ := settle_endsIn s rests
  have gates := congrArg (List.map QueueEntry.gate) undrained
  rw [List.map_map, List.map_map] at gates
  rw [ht] at capture' mem' table' events' host' gates
  rw [mem', table', capture', events', host', ← made]
  refine ⟨?_, ?_, ?_, ?_, ?_, ?_, gates.trans ?_, ?_, ?_, ?_⟩
  · simp [State.captureGone, table, capture, granule]
  · simp [State.captureGone, table]
  · simp [table]
  · simp [capture, CaptureUnit.free]
  · simp [CaptureUnit.free]
  · simp [mem]
  · rw [← made]
    simp [State.turned, queue, Function.comp_def, QueueEntry.undrained]
  · simp [State.turned, host]
  · intro none
    simp [clean none]
  · intro some room
    simp [failed some room]

/-- Under BREAKING an event of OPEN or DRAINING ends with its grant alone: no capture is due and the commit waits (R26,
R51, R86). -/
theorem settle_breaking_eq (before : State) {u : State} (rests : u.rests) (breaking : u.table.status = some .breaking)
    (state : u.ctl.state = .opened ∨ u.ctl.state = .draining) : State.settle before u = u.arbitrate := by
  have undue : ∀ v : State, v.table = u.table → v.takeCapture = v := by
    intro v table
    refine if_neg ?_
    rintro ⟨-, -, intact⟩
    rw [table, breaking] at intact
    cases intact
  have waits : u.commitTest = u := if_neg (by simp [State.commitReady, breaking])
  have elsewhere : u.rollbackTest = u := rollbackTest_elsewhere (by rcases state with h | h <;> rw [h] <;> decide)
  rw [settle_eq before rests, undue u rfl, waits, elsewhere, undue _ (by simp)]

/-- So the device state and the requests of a header write stay. -/
theorem settle_breaking (before : State) {u : State} (rests : u.rests) (breaking : u.table.status = some .breaking)
    (state : u.ctl.state = .opened ∨ u.ctl.state = .draining) :
    (State.settle before u).ctl = u.ctl
      ∧ (State.settle before u).header.writeRequest.map (fun w => (w.kind, w.target))
        = u.header.writeRequest.map fun w => (w.kind, w.target) := by
  rw [settle_breaking_eq before rests breaking state, arbitrate_writeRequest]
  exact ⟨by simp, rfl⟩

/-- The granules that leave CAPTURING with a failed read: the one in flight and every waiting one (R30, R51). -/
theorem capturingBut_gone {t : GranuleTable} {g : Nat} (present : (⟨g, .capturing⟩ : TableEntry) ∈ t.entries) (h : Nat) :
    h ∈ ({ t with entries := t.entries.filter fun e => some e.granule ≠ some g } : GranuleTable).capturingBut none ++ [g]
      ↔ h ∈ t.capturingBut none := by
  simp only [GranuleTable.capturingBut, List.mem_append, List.mem_singleton, List.mem_map, List.mem_filter, decide_eq_true_eq]
  constructor
  · rintro (⟨e, ⟨⟨he, -⟩, capturing⟩, rfl⟩ | rfl)
    · exact ⟨e, ⟨he, capturing⟩, rfl⟩
    · exact ⟨_, ⟨present, rfl, by simp⟩, rfl⟩
  · rintro ⟨e, ⟨he, capturing⟩, rfl⟩
    by_cases mine : e.granule = g
    · exact .inr mine
    · exact .inl ⟨e, ⟨⟨he, by simpa using mine⟩, capturing⟩, rfl⟩

/-- The LOGGED entries are the same without the entry in flight (R30). -/
theorem logged_gone {t : GranuleTable} {g : Nat} (lawful : t.lawful) (present : (⟨g, .capturing⟩ : TableEntry) ∈ t.entries) :
    (t.entries.filter fun e => some e.granule ≠ some g).filter (fun e => e.state = .logged)
      = t.entries.filter fun e => e.state = .logged := by
  rw [List.filter_filter]
  refine List.filter_congr fun e he => ?_
  by_cases mine : e.granule = g
  · have same : e = ⟨g, .capturing⟩ := List.inj_on_of_nodup_map lawful.2.1 he present mine
    simp [same]
  · simp [mine]

/-- A failed read as its event ends, with no beat presented (R30, R51). -/
theorem failedRead_ends (underway : s.completing .preImageRead = .underway o) (going : s.ctl.state ≠ .parking)
    (consistent : s.consistent) (lawful : s.table.lawful) (granule : s.capture.granule = some g) (free : s.capture.stop = false)
    (failed : merr ≠ []) (quiet : s.host.beat = none) {u t : State}
    (made : ((s.readNoted merr o g).captureGone.watermarkTest.breaks).turned (Gate.waiting [g]) = u)
    (ht : State.settle s u = t) :
    t.table.status = some .breaking ∧ t.table.entries = s.table.entries.filter (fun e => e.state = .logged)
      ∧ t.table.reservations = 0
      ∧ t.capture.tail = s.capture.tail ∧ t.capture.phase = .idle ∧ t.mem = s.mem ∧ t.ctl = s.ctl
      ∧ t.header.writeRequest.map (fun w => (w.kind, w.target)) = some (.mark, s.header.unselected)
      ∧ t.queue.entries.map QueueEntry.gate
          = (s.queue.entries.map QueueEntry.gate).map (Gate.waiting (s.table.capturingBut none))
      ∧ t.host.gate = s.host.gate.map (Gate.waiting (s.table.capturingBut none))
      ∧ (t.queue.entries.map fun e => (e.word, e.lanes, e.cls, e.age))
          = (s.queue.entries.map fun e => (e.word, e.lanes, e.cls, e.age))
      ∧ (s.events.records.length < 16 → t.events = { s.events with
          records := s.events.records ++ [⟨.captureFailed, s.epochNumber, BitVec.ofNat 32 g⟩] }) := by
  obtain ⟨reading, running⟩ := preImageRead_reading underway going consistent
  obtain ⟨-, -, -, -, -, ⟨-, -, freeRead⟩, -, -, -, inFlight, -⟩ := consistent
  obtain ⟨table, capture, ctl, queue, host, header, mem⟩ := readNoted_keeps (merr := merr) (g := g) underway
  obtain ⟨state, intact⟩ := (freeRead reading free).resolve_left (by simp [running])
  have brk := breaks_idle (s := (s.readNoted merr o g).captureGone.watermarkTest) (by simp [CaptureUnit.free]) (by simp [CaptureUnit.free])
  have ctl' : u.ctl = s.ctl := by rw [← made]; simp [breaks_keeps, ctl]
  have breaking : u.table.status = some .breaking := by rw [← made]; simp [brk]
  have rests : u.rests := rests_of_noBeat (by rw [← made]; simpa [breaks_keeps, host] using quiet)
  have gone : (s.readNoted merr o g).captureGone.table.entries = s.table.entries.filter fun e => some e.granule ≠ some g := by
    simp [State.captureGone, table, capture, granule]
  have present := inFlight_entry inFlight (by rw [reading]; decide) granule
  have capture' := settle_captureIdle s rests (by rw [← made]; simp [brk, CaptureUnit.free]) (.inl (by rw [breaking]; decide))
  obtain ⟨ctl'', request⟩ := settle_breaking s rests breaking (by rw [ctl']; exact state)
  obtain ⟨-, mem', -, table', -, events', -, -, -, undrained, -, -, -, host', -⟩ := settle_endsIn s rests
  have gates := congrArg (List.map QueueEntry.gate) undrained
  have rest := congrArg (List.map fun e : QueueEntry => (e.word, e.lanes, e.cls, e.age)) undrained
  rw [List.map_map, List.map_map] at gates rest
  have turns : Gate.waiting [g] ∘ Gate.waiting ((s.readNoted merr o g).captureGone.watermarkTest.table.capturingBut none)
      = Gate.waiting (s.table.capturingBut none) := by
    refine (waiting_comp _ _).trans (waiting_congr fun h => ?_)
    rw [← capturingBut_gone present]
    simp [GranuleTable.capturingBut, gone]
  rw [ht] at capture' ctl'' request mem' table' events' host' gates rest
  have noted := (readNoted_events (s := s) (merr := merr) (o := o) (g := g)).2 failed
  rw [mem', table', capture', events', host', ctl'', request]
  refine ⟨breaking, ?_, ?_, ?_, ?_, ?_, ctl', ?_, gates.trans ?_, ?_, rest.trans ?_, fun room => ?_⟩ <;> rw [← made]
  · simp only [turned_keeps, brk, watermarkTest_keeps, gone]
    exact logged_gone lawful present
  · simp [brk]
  · simp [brk, capture, CaptureUnit.free]
  · simp [brk, CaptureUnit.free]
  · simp [breaks_keeps, mem]
  · simp [brk, header, HeaderUnit.unselected]
  · rw [← turns]
    simp [State.turned, brk, queue, Function.comp_def, QueueEntry.undrained]
  · rw [← turns, ← Option.map_map]
    simp [State.turned, brk, host]
  · simp [State.turned, brk, queue, Function.comp_def, QueueEntry.undrained]
  · simp [breaks_keeps, noted room]

end PreImage

/-- Settles O48. -/
theorem preImageReadTaken : Obligations.PreImageReadTaken := by
  intro s merr o g underway going consistent lawful granule
  obtain ⟨reading, running⟩ := preImageRead_reading underway going consistent
  have full := consistent
  obtain ⟨-, -, -, -, -, ⟨-, stoppedRead, freeRead⟩, -, -, -, inFlight, -⟩ := consistent
  have busy : s.capture.phase ≠ .idle := by rw [reading]; decide
  have present := inFlight_entry inFlight busy granule
  obtain ⟨table, capture, ctl, queue, host, header, mem⟩ := readNoted_keeps (merr := merr) (g := g) underway
  have law := readNoted_gone (merr := merr) underway lawful present granule
  refine ⟨fun free => ?_, fun stop => ?_, fun free failed intact => ?_, fun stop quiet => ?_, fun free failed quiet => ?_⟩
  · refine ⟨_, onCompletion_settles underway (takePreImage_clean going granule free) going, settlesBy_settle fun all opened => ?_⟩
    exact ⟨lawful, ⟨fun (idle : CapturePhase.writing = .idle) => absurd idle (by decide), fun _ => inFlight.2 busy⟩, lawful_status (s := s) all opened⟩
  · have noted : (if merr = [] then s.ended o else (s.ended o).raise .captureFailed s.epochNumber (BitVec.ofNat 32 g))
        = s.readNoted merr o g := rfl
    rw [noted]
    refine ⟨_, onCompletion_settles underway (takePreImage_stopped underway going lawful present granule stop)
      (by simpa [ctl] using going), settlesBy_settle fun all opened => ⟨by simpa using law, ?_, ?_⟩⟩
    · refine inFlight_idle ?_ ?_ <;> simp [CaptureUnit.free]
    · simp only [turned_keeps, watermarkTest_keeps, captureGone_keeps] at opened ⊢
      rw [table]
      rw [ctl] at opened
      exact lawful_status all opened
  · have made := takePreImage_failed underway going lawful present granule free failed intact
    have noted : (s.ended o).raise .captureFailed s.epochNumber (BitVec.ofNat 32 g) = s.readNoted merr o g := (if_neg failed).symm
    rw [noted]
    refine ⟨_, onCompletion_settles underway made (by simpa [breaks_keeps, ctl] using going),
      settlesBy_settle fun all opened => ⟨?_, ?_, ?_⟩⟩
    · simp only [turned_keeps]
      refine breaks_lawful (by simpa using law) (inFlight_idle ?_ ?_) (by simpa [table] using intact) <;> simp [CaptureUnit.free]
    · obtain ⟨-, unit, -⟩ := breaks_idle (s := (s.readNoted merr o g).captureGone.watermarkTest) (by simp [CaptureUnit.free]) (by simp [CaptureUnit.free])
      refine inFlight_idle ?_ ?_ <;> simp [unit, CaptureUnit.free]
    · obtain ⟨broken, -⟩ := breaks_idle (s := (s.readNoted merr o g).captureGone.watermarkTest) (by simp [CaptureUnit.free]) (by simp [CaptureUnit.free])
      simp [broken]
  · have made := takePreImage_stopped (merr := merr) underway going lawful present granule stop
    exact ⟨_, onCompletion_settles underway made (by simpa [ctl] using going), stoppedRead_ends underway going full granule stop quiet rfl rfl⟩
  · obtain ⟨-, intact⟩ := (freeRead reading free).resolve_left (by simp [running])
    have made := takePreImage_failed underway going lawful present granule free failed intact
    exact ⟨_, onCompletion_settles underway made (by simpa [breaks_keeps, ctl] using going),
      failedRead_ends underway going full lawful granule free failed quiet rfl rfl⟩

end Sys2Proof.Machine
end

section
/-! The break of an epoch at a first beat (section 3.4). -/

namespace Sys2Proof.Machine

/-! ### What a break makes of the capture unit, the table and the gates -/

/-- The capture unit as it is stopped (R31, R51). -/
theorem captureStopped_capture (s : State) : s.captureStopped.capture =
    if s.capture.phase = .reading ∧ s.capture.granted = false then s.capture.free
    else if s.capture.phase = .reading then { s.capture with stop := true } else s.capture := by
  unfold State.captureStopped
  split
  · simp
  · split <;> rfl

/-- The capture unit and its entry after the break of an epoch (R51). -/
theorem breaks_capture (s : State) : s.breaks.capture =
    if s.capture.phase = .reading ∧ s.capture.granted = false then s.capture.free
    else if s.capture.phase = .reading then { s.capture with stop := true } else s.capture := by
  rw [← captureStopped_capture]
  simp only [State.breaks, State.waitingCancelled, setHeader_capture, turned_keeps, watermarkTest_keeps, setTable_capture]
  rw [captureStopped_capture, captureStopped_capture]
  rfl

/-- The table a stop leaves (R31): without the entry of a withdrawn read. -/
theorem captureStopped_entries (s : State) : s.captureStopped.table.entries =
    if s.readWithdrawn then s.table.entries.filter fun e => some e.granule ≠ s.capture.granule else s.table.entries := by
  unfold State.captureStopped
  split
  · simp [State.captureGone]
  · split <;> rfl

/-- The watermark's test leaves EXHAUSTED as it is (R35, R174). -/
theorem watermarkTest_exhausted (s : State) : s.watermarkTest.alarms.exhausted = s.alarms.exhausted := by
  unfold State.watermarkTest
  split
  · split <;> rfl
  · rfl

/-- What a stop leaves alone (R31). -/
theorem captureStopped_keeps (s : State) : s.captureStopped.queue = s.queue ∧ s.captureStopped.host = s.host
    ∧ s.captureStopped.header = s.header ∧ s.captureStopped.alarms.exhausted = s.alarms.exhausted
    ∧ s.captureStopped.table.status = s.table.status ∧ s.captureStopped.table.exhaustionNoted = s.table.exhaustionNoted := by
  unfold State.captureStopped
  split
  · simp [watermarkTest_exhausted, State.captureGone]
  · split <;> simp

/-- What else the break of an epoch makes (R51, R52). -/
theorem breaks_turns (s : State) :
    s.breaks.table.status = some .breaking ∧ s.breaks.table.exhaustionNoted = s.table.exhaustionNoted
      ∧ s.breaks.table.reservations = (if s.breaks.capture.granule.isSome then 1 else 0)
      ∧ s.breaks.header = { s.header with writeRequest := some ⟨.mark, s.header.unselected, false, none, false, false⟩ }
      ∧ s.breaks.queue = { s.queue with entries := s.queue.entries.map fun e =>
          { e with gate := e.gate.waiting (s.table.capturingBut s.breaks.capture.granule) } }
      ∧ s.breaks.host.gate = s.host.gate.map (Gate.waiting (s.table.capturingBut s.breaks.capture.granule))
      ∧ s.breaks.alarms.exhausted = s.alarms.exhausted := by
  obtain ⟨queue, host, -, exhausted, status, noted⟩ := captureStopped_keeps (s.setTable { s.table with status := some .breaking })
  have unit : s.breaks.capture = (s.setTable { s.table with status := some .breaking }).captureStopped.capture := by
    rw [breaks_capture, captureStopped_capture]; rfl
  rw [unit]
  unfold State.breaks State.waitingCancelled State.turned
  simp only [setHeader_table, setHost_table, setQueue_table, watermarkTest_keeps, setTable_table, setHeader_header,
    setHeader_queue, setHost_queue, setQueue_queue, setTable_queue, setHeader_host, setHost_host, setTable_host, queue, host,
    setHeader_alarms, setHost_alarms, setQueue_alarms, watermarkTest_exhausted, setTable_alarms, setTable_capture, noted, status]
  refine ⟨trivial, trivial, ?_, trivial, trivial, trivial, exhausted⟩
  cases (s.setTable { s.table with status := some .breaking }).captureStopped.capture.granule <;> rfl

/-- The entries that stay at the break of an epoch (R51): the LOGGED ones and the one in flight. -/
theorem breaks_entries {s : State} (lawful : s.table.lawful) (inFlight : s.inFlight) :
    (∀ e ∈ s.breaks.table.entries, e ∈ s.table.entries ∧ (e.state = .capturing → s.breaks.capture.granule = some e.granule))
      ∧ ∀ e ∈ s.table.entries, e.state = .logged → e ∈ s.breaks.table.entries := by
  have unit : s.breaks.capture = (s.setTable { s.table with status := some .breaking }).captureStopped.capture := by
    rw [breaks_capture, captureStopped_capture]; rfl
  have entries : s.breaks.table.entries
      = (s.setTable { s.table with status := some .breaking }).captureStopped.table.entries.filter fun e =>
        e.state = .logged ∨ s.breaks.capture.granule = some e.granule := by
    rw [unit]
    simp [State.breaks, State.waitingCancelled]
  rw [entries, captureStopped_entries]
  refine ⟨fun e he => ?_, fun e he logged => ?_⟩
  · obtain ⟨he, stays⟩ := List.mem_filter.1 he
    refine ⟨?_, fun capturing => by simpa [capturing] using stays⟩
    split at he
    · exact (List.mem_filter.1 he).1
    · exact he
  · refine List.mem_filter.2 ⟨?_, by simp [logged]⟩
    split
    · rename_i withdrawn
      refine List.mem_filter.2 ⟨he, decide_eq_true fun mine => ?_⟩
      have present := inFlight_entry inFlight (fun idle => by rw [show s.capture.phase = .reading from withdrawn.1] at idle; cases idle) mine.symm
      have same : e = ⟨e.granule, .capturing⟩ := List.inj_on_of_nodup_map lawful.2.1 he present rfl
      rw [same] at logged
      cases logged
    · exact he

/-! ### Around it -/

/-- A grant tells the capture unit at most that it is granted (R157). -/
theorem arbitrate_capture (s : State) : s.arbitrate.capture = s.capture ∨ s.arbitrate.capture = { s.capture with granted := true } := by
  rcases arbitrate_cases s with same | ⟨r, o, -, -, -, -, -, grant⟩
  · exact .inl (by rw [same])
  · rw [grant]
    cases r with
    | capture => exact .inr rfl
    | header =>
      refine .inl ?_
      simp only [State.grant, State.tellGranted]
      split
      · rfl
      · split <;> rfl
    | hostRead =>
      refine .inl ?_
      simp only [State.grant, State.tellGranted]
      split <;> rfl
    | engine | drain => exact .inl rfl

/-- A beat taken into the queue touches the queue alone (R59). -/
theorem posted_eq (s : State) (word : Nat) (lanes : Lanes) (d : LaneData) (cls : DecodeClass) (gate : Gate) :
    s.posted word lanes d cls gate = s.setQueue (s.posted word lanes d cls gate).queue := by
  unfold State.posted
  split <;> rfl

/-- A beat taken with WAIT_MARK is the newest entry's (R59, R60). -/
theorem posted_newest {s : State} (word : Nat) {lanes : Lanes} (d : LaneData) (cls : DecodeClass) (gate : Gate) (h : lanes ≠ 0) :
    ∃ e ∈ (s.posted word lanes d cls gate).queue.entries.getLast?, e.word = word ∧ e.gate = gate := by
  rw [State.posted, if_neg h]
  show ∃ e ∈ (s.queue.enqueue word d cls gate).entries.getLast?, _
  unfold PostingQueue.enqueue
  split
  · rename_i merges
    rcases List.eq_nil_or_concat s.queue.entries with empty | ⟨front, last, entries⟩
    · simp [PostingQueue.merges, empty] at merges
    · rw [List.concat_eq_append] at entries
      rw [merges_newest word gate entries, decide_eq_true_eq] at merges
      obtain ⟨mine, -, gates⟩ := merges
      exact ⟨{ last with lanes := LaneData.over d last.lanes }, by rw [entries, mergeNewest_append]; simp, mine, gates⟩
  · exact ⟨⟨word, d, cls, gate, s.queue.counter, false⟩, by simp, rfl, rfl⟩

/-- A beat answered touches the host port alone (R138, R141). -/
theorem answered_eq (s : State) (c : Cycle) (d : LaneData) : s.answered c d = s.setHost (s.answered c d).host := by
  unfold State.answered
  split
  · rfl
  · split <;> rfl

/-- The host port once a beat is answered (R138, R141): no WAIT, and the portion's gate stays while the cycle does. -/
theorem answered_host (s : State) (c : Cycle) (d : LaneData) :
    (s.answered c d).host.response ≠ .wait
      ∧ ((s.answered c d).host.cycle = none ∧ (s.answered c d).host.gate = none ∨ (s.answered c d).host.gate = s.host.gate) := by
  unfold State.answered
  split
  · exact ⟨by simp [State.closed], .inl ⟨rfl, rfl⟩⟩
  · split
    · exact ⟨by simp [State.closed], .inl ⟨rfl, rfl⟩⟩
    · exact ⟨by simp, .inr rfl⟩

/-- A beat that breaks the epoch, as its event ends (R51, R52). -/
theorem brokenBy_ends {s v u t : State} {c : Cycle} {g word : Nat} {lanes : Lanes} {d : LaneData}
    (opened : s.ctl.state = .opened) (lawful : s.table.lawful) (inFlight : s.inFlight)
    (kept : v.mem = s.mem ∧ v.dec = s.dec ∧ v.link = s.link ∧ v.pins = s.pins ∧ v.engine = s.engine ∧ v.ctl = s.ctl ∧ v.header = s.header
      ∧ v.capture = s.capture) (table : v.table = { s.table with exhaustionNoted := true }) (exhausted : v.alarms.exhausted = true)
    (queue : v.queue = (s.posted word lanes d .guarded .waitMark).queue) (gate : v.host.gate = some .waitMark)
    (events : v.events = (s.exhaustedBy g).events) (made : v.breaks.answered c LaneData.empty = u) (ht : State.settle s u = t) :
    t.mem = s.mem ∧ t.ctl = s.ctl ∧ t.dec = s.dec ∧ t.link = s.link ∧ t.pins = s.pins ∧ t.engine.phase = s.engine.phase
        ∧ t.table.status = some .breaking ∧ t.table.exhaustionNoted = true ∧ t.alarms.exhausted = true
        ∧ t.capture.tail = s.capture.tail
        ∧ t.header.writeRequest.map (fun w => (w.kind, w.target)) = some (.mark, s.header.unselected)
        ∧ t.header.active = s.header.active ∧ t.header.selected = s.header.selected
        ∧ t.table.reservations = (if t.capture.granule.isSome then 1 else 0)
        ∧ (∀ e ∈ t.table.entries, e ∈ s.table.entries ∧ (e.state = .capturing → t.capture.granule = some e.granule))
        ∧ (∀ e ∈ s.table.entries, e.state = .logged → e ∈ t.table.entries)
        ∧ (s.capture.phase = .writing → t.capture = { s.capture with granted := t.capture.granted })
        ∧ (s.capture.phase = .reading → s.capture.granted = true → t.capture = { s.capture with stop := true })
        ∧ (s.capture.phase = .reading → s.capture.granted = false → t.capture.phase = .idle)
        ∧ (t.queue.entries.map fun e => (e.word, e.lanes, e.cls, e.age))
            = ((s.posted word lanes d .guarded .waitMark).queue.entries.map
              fun e => (e.word, e.lanes, e.cls, e.age))
        ∧ (lanes ≠ 0 → ∃ e ∈ t.queue.entries.getLast?, e.word = word ∧ e.gate = .waitMark)
        ∧ t.queue.entries.map QueueEntry.gate
            = (s.posted word lanes d .guarded .waitMark).queue.entries.map
              (fun e => e.gate.waiting (s.table.capturingBut t.capture.granule))
        ∧ (t.capture.granule = if s.capture.phase = .reading ∧ s.capture.granted = false then none else s.capture.granule)
        ∧ (∀ gate ∈ t.host.gate, gate = .waitMark) ∧ (t.host.cycle.isSome → t.host.gate = some .waitMark)
        ∧ t.events = (s.exhaustedBy g).events
        ∧ t.host.response ≠ .wait := by
  obtain ⟨mem, dec, link, pins, engine, ctl, header, capture⟩ := kept
  obtain ⟨-, -, -, bpins, bmem, bdec, bctl, bengine, -, blink, bevents, -⟩ := breaks_keeps v
  obtain ⟨status, noted, reservations, bheader, bqueue, bgate, balarms⟩ := breaks_turns v
  obtain ⟨stay, logged⟩ := breaks_entries (s := v) (by rw [table]; exact lawful) (by
    unfold State.inFlight; rw [table, capture]; exact inFlight)
  have bcapture := breaks_capture v
  obtain ⟨response, portion⟩ := answered_host v.breaks c LaneData.empty
  rw [bgate, gate] at portion
  have eq := answered_eq v.breaks c LaneData.empty
  have rests : u.rests := by rw [← made]; exact fun c hc b hb => answered_rests _ _ _ c hc b hb
  rw [made] at eq response portion
  have breaking : u.table.status = some .breaking := by rw [eq]; exact status
  have running : u.ctl.state = .opened := by rw [eq]; simp [bctl, ctl, opened]
  have ucapture : u.capture = v.breaks.capture := by rw [eq]; rfl
  have ends := settle_breaking_eq s rests breaking (.inl running)
  obtain ⟨-, -, -, -, -, -, -, -, -, undrained, -, -, header', host', tail, busy, engine', -⟩ := settle_endsIn s rests
  have idle := settle_captureIdle (u := u) s rests (undue := .inl (by rw [breaking]; decide))
  obtain ⟨-, request⟩ := settle_breaking s rests breaking (.inl running)
  obtain ⟨apins, amem, adec, atable, actl, alink, aevents, aalarms, -⟩ := arbitrate_keeps u
  have unit := arbitrate_capture u
  rw [← ends] at apins amem adec atable actl alink aevents aalarms unit
  rw [ht] at undrained header' host' tail busy engine' idle request apins amem adec atable actl alink aevents aalarms unit
  rw [ucapture, bcapture, capture] at unit busy idle
  have granule : t.capture.granule = v.breaks.capture.granule := by
    rw [bcapture, capture]
    rcases unit with h | h <;> rw [h]
  have parts := fun {α : Type} (f : QueueEntry → α) => congrArg (List.map f) undrained
  simp only [List.map_map] at parts
  rw [amem, actl, adec, alink, apins, engine' (by rw [running]; decide), atable, aalarms, tail, request, header', granule,
    aevents, host']
  rw [eq]
  simp only [setHost_mem, setHost_ctl, setHost_dec, setHost_link, setHost_pins, setHost_engine, setHost_table, setHost_alarms,
    setHost_capture, setHost_header, setHost_events, setHost_host]
  refine ⟨bmem.trans mem, bctl.trans ctl, bdec.trans dec, blink.trans link, bpins.trans pins, by rw [bengine, engine], status,
    by rw [noted, table], by rw [balarms, exhausted], ?_, ?_, ?_, ?_, reservations, ?_, ?_, ?_, ?_, ?_, ?_, ?_, ?_, ?_, ?_, ?_,
    bevents.trans events, response⟩
  · rw [bcapture, capture]
    split
    · rfl
    · split <;> rfl
  · rw [bheader, header]; rfl
  · rw [bheader, header]
  · rw [bheader, header]
  · rwa [table] at stay
  · rwa [table] at logged
  · intro writing
    simp only [writing, reduceCtorEq, false_and, if_false] at unit
    rcases unit with h | h
    · rw [h]
    · rw [h, writing]
  · intro reading granted
    simp only [reading, granted, reduceCtorEq, and_false, if_false, if_true] at unit
    rcases unit with h | h <;> rw [h, reading, granted]
  · intro reading withdrawn
    have free := idle (by rw [if_pos ⟨reading, withdrawn⟩]; rfl)
    rw [free, if_pos ⟨reading, withdrawn⟩]
    rfl
  · refine (parts fun e => (e.word, e.lanes, e.cls, e.age)).trans ?_
    rw [eq, setHost_queue, bqueue, queue, List.map_map]
    rfl
  · intro some
    obtain ⟨e, last, word', mine⟩ := posted_newest (s := s) word d .guarded .waitMark some
    have newest := congrArg List.getLast? undrained
    simp only [List.getLast?_map] at newest
    rw [eq, setHost_queue, bqueue, queue, List.getLast?_map, Option.mem_def.1 last] at newest
    obtain ⟨f, hf, same⟩ := Option.map_eq_some_iff.1 newest
    refine ⟨f, hf, ?_, ?_⟩
    · exact (congrArg QueueEntry.word same).trans word'
    · exact (congrArg QueueEntry.gate same).trans (by show Gate.waiting _ e.gate = _; rw [mine]; rfl)
  · refine (parts QueueEntry.gate).trans ?_
    rw [eq, setHost_queue, bqueue, queue, List.map_map, table]
    rfl
  · rw [bcapture, capture]
    split
    · rfl
    · split <;> rfl
  · intro gate' mine
    rcases portion with ⟨-, none⟩ | same
    · rw [none] at mine; cases mine
    · rw [same] at mine; cases mine; rfl
  · intro stands
    rcases portion with ⟨none, -⟩ | same
    · rw [none] at stands; cases stands
    · rw [same]; rfl

/-- Noting an exhaustion touches no other block (R46, R47). -/
theorem exhaustedBy_rest (s : State) (g : Nat) : (s.exhaustedBy g).mem = s.mem ∧ (s.exhaustedBy g).dec = s.dec
    ∧ (s.exhaustedBy g).link = s.link ∧ (s.exhaustedBy g).pins = s.pins ∧ (s.exhaustedBy g).engine = s.engine := by
  unfold State.exhaustedBy
  split
  · simp
  · simp

/-- What a raised event makes of the event queue hangs on that queue alone (R172). -/
theorem raise_congr {s u : State} (same : u.events = s.events) (k : EventKind) (e : BitVec 48) (x : BitVec 32) :
    (u.raise k e x).events = (s.raise k e x).events := by
  by_cases room : s.events.records.length < 16
  · rw [raise_joins (by rw [same]; exact room), raise_joins room]
    simp [same]
  · rw [raise_lost (by rw [same]; exact Nat.not_lt.1 room), raise_lost (Nat.not_lt.1 room)]
    simp [same]

/-- The event an exhaustion raises, once in an epoch (R46, R47). -/
theorem exhaustedBy_events (s : State) (g : Nat) : (s.exhaustedBy g).events = if s.table.exhaustionNoted then s.events
    else (s.raise .logExhausted s.epochNumber (BitVec.ofNat 32 g)).events := by
  unfold State.exhaustedBy
  split
  · rfl
  · exact raise_congr (by rfl) _ _ _

/-- A first beat accepted touches the host port alone (R139, R140). -/
theorem began_setHost (s : State) (c : Cycle) (p : Portion) : ∃ h, s.began c p = s.setHost h := by
  unfold State.began
  split <;> exact ⟨_, rfl⟩

/-- Settles O35. -/
theorem guardedWriteBreaksEpoch : Obligations.GuardedWriteBreaksEpoch := by
  intro s word hlen lanes data presents opened guarded intact absent few policy consistent lawful
  have admission := admission_breaks intact absent few policy
  refine ⟨fun some full => exec_guardedFirstBeat_queueFull data presents opened guarded admission some full, fun takes => ?_⟩
  obtain ⟨-, -, -, -, -, -, -, -, -, inFlight, -⟩ := consistent
  have made := admitBeat_breaks (u := s.beganWrite word hlen) (c := firstCycle true word hlen) (p := s.firstPortion word)
    (b := ⟨lanes, LaneData.select lanes data, true, .queueFull⟩) rfl guarded ((beganWrite_admission s word hlen).trans admission)
    ((beganWrite_takesBeat ..).2 takes) (by simpa [State.beganWrite] using lawful) (by
      unfold State.inFlight; simpa [State.beganWrite] using inFlight) (by simpa [State.beganWrite] using intact)
  obtain ⟨port, began⟩ := began_setHost s (firstCycle true word hlen) (s.firstPortion word)
  obtain ⟨q, hq⟩ : ∃ q, (s.posted word.toNat lanes (LaneData.select lanes data) .guarded .waitMark).queue = q := ⟨_, rfl⟩
  have posted : (s.beganWrite word hlen).posted word.toNat lanes (LaneData.select lanes data) .guarded .waitMark
      = (s.setHost port).setQueue q := by
    rw [posted_eq, State.beganWrite, began, ← hq]
    unfold State.posted
    split <;> rfl
  obtain ⟨v, hv⟩ : ∃ v, (((s.setHost port).setQueue q).withGate .waitMark).exhaustedBy (word.toNat / 16) = v := ⟨_, rfl⟩
  have kept := exhaustedBy_keeps (((s.setHost port).setQueue q).withGate .waitMark) (word.toNat / 16)
  have rest := exhaustedBy_rest (((s.setHost port).setQueue q).withGate .waitMark) (word.toNat / 16)
  have events : v.events = (s.exhaustedBy (word.toNat / 16)).events := by
    rw [← hv, exhaustedBy_events, exhaustedBy_events]
    show (if s.table.exhaustionNoted then s.events else _) = _
    split
    · rfl
    · exact raise_congr (by rfl) _ _ _
  obtain ⟨capture, table, host, queue, header, ctl, exhausted⟩ := kept
  obtain ⟨mem, dec, link, pins, engine⟩ := rest
  rw [hv] at capture table host queue header ctl exhausted mem dec link pins engine
  have moved : (s.beganWrite word hlen).admitBeat (firstCycle true word hlen) (s.firstPortion word)
      ⟨lanes, LaneData.select lanes data, true, .queueFull⟩ = v.breaks.answered (firstCycle true word hlen) LaneData.empty := by
    rw [made, ← hv, ← posted]; rfl
  obtain ⟨kmem, kctl, kdec, klink, kpins, kengine, status, noted, alarm, tail, request, active, selected, reserved, stay, logged,
    writing, granted, withdrawn, parts, newest, gates, granule, portion, cycle, joined, response⟩ := brokenBy_ends
      (u := v.breaks.answered (firstCycle true word hlen) LaneData.empty) opened lawful inFlight
      ⟨mem, dec, link, pins, engine, ctl, header, capture⟩ table exhausted (queue.trans hq.symm) (by rw [host]; rfl) events rfl rfl
  refine ⟨_, (exec_guardedFirstBeat lanes data presents opened guarded).trans (by rw [moved]), kmem, kctl, kdec, klink, kpins,
    kengine, status, noted, alarm, tail, request, active, selected, reserved, stay, logged, writing, granted, withdrawn, parts,
    newest, gates, granule, portion, cycle, fun again => joined.trans ?_, fun first => joined.trans ?_, response⟩
  · rw [exhaustedBy_events, if_pos again]
  · rw [exhaustedBy_events, if_neg (by simp [first])]

end Sys2Proof.Machine
end

section
/-! The end of a drain write, with the flush test behind the offer of a held beat (sections 4.4, 4.7, 5.5). -/

namespace Sys2Proof.Machine

/-! ### What an offer leaves alone -/

/-- The ages of the queue's entries. -/
abbrev PostingQueue.ages (q : PostingQueue) : List (BitVec 16) := q.entries.map QueueEntry.age

/-- What the flush test and a request look at: a beat may have been appended, and the epoch broken (R51, R61, R72). -/
structure State.offerLeaves (s u : State) : Prop where
  ctl : u.ctl = s.ctl
  ages : u.queue.ages = s.queue.ages ∨ u.queue.ages = s.queue.ages ++ [s.queue.counter]
  mark : u.queue.mark = s.queue.mark
  status : u.table.status = some .intact → s.table.status = some .intact

/-- The same writes have the same ages. -/
theorem ages_of_posts {s u : State} (h : u.posts = s.posts) : u.queue.ages = s.queue.ages := by
  have shown : ∀ v : State, v.queue.ages = v.posts.map fun e => e.2.2.2 := by
    intro v
    rw [State.posts, List.map_map]
    rfl
  rw [shown, shown, h]

/-- The merged entry keeps its age (R60). -/
theorem mergeNewest_ages (d : LaneData) (es : List QueueEntry) : (mergeNewest d es).map QueueEntry.age = es.map QueueEntry.age := by
  rcases List.eq_nil_or_concat es with rfl | ⟨front, last, rfl⟩
  · rfl
  · rw [List.concat_eq_append, mergeNewest_append]
    simp

/-- A beat taken is merged, or appended with the counter's age (R60, R61). -/
theorem offerLeaves_posted (s : State) (word : Nat) (lanes : Lanes) (d : LaneData) (cls : DecodeClass) (gate : Gate) :
    s.offerLeaves (s.posted word lanes d cls gate) := by
  unfold State.posted
  split
  · exact ⟨rfl, .inl rfl, rfl, id⟩
  · refine ⟨rfl, ?_, ?_, id⟩
    · show (s.queue.enqueue word d cls gate).ages = _ ∨ (s.queue.enqueue word d cls gate).ages = _
      unfold PostingQueue.enqueue
      split
      · exact .inl (mergeNewest_ages d _)
      · exact .inr (by simp [PostingQueue.ages])
    · show (s.queue.enqueue word d cls gate).mark = _
      unfold PostingQueue.enqueue
      split <;> rfl

/-- Captures end or are cancelled: the capture unit, the table's entries, the gates and the watermark's alarm alone move (R31, R51). -/
structure State.capturesEnd (s u : State) : Prop where
  pins : u.pins = s.pins
  mem : u.mem = s.mem
  dec : u.dec = s.dec
  ctl : u.ctl = s.ctl
  engine : u.engine = s.engine
  header : u.header = s.header
  port : u.port = s.port
  link : u.link = s.link
  events : u.events = s.events
  queue : u.queue = { s.queue with entries := u.queue.entries }
  status : u.table.status = s.table.status

theorem State.capturesEnd.refl (s : State) : s.capturesEnd s := ⟨rfl, rfl, rfl, rfl, rfl, rfl, rfl, rfl, rfl, rfl, rfl⟩

theorem State.capturesEnd.trans {s u v : State} (h : s.capturesEnd u) (k : u.capturesEnd v) : s.capturesEnd v :=
  ⟨k.pins.trans h.pins, k.mem.trans h.mem, k.dec.trans h.dec, k.ctl.trans h.ctl, k.engine.trans h.engine, k.header.trans h.header,
    k.port.trans h.port, k.link.trans h.link, k.events.trans h.events, by rw [k.queue, h.queue], k.status.trans h.status⟩

theorem capturesEnd_dropEntries (s : State) (gone : TableEntry → Bool) : s.capturesEnd (s.dropEntries gone) := by
  constructor <;> simp [State.dropEntries, GranuleTable.drop]

theorem capturesEnd_waitForMark (s : State) (gs : List Nat) : s.capturesEnd (s.waitForMark gs) := by
  unfold State.waitForMark
  split
  · exact ⟨rfl, rfl, rfl, rfl, rfl, rfl, rfl, rfl, rfl, rfl, rfl⟩
  · exact .refl s

theorem capturesEnd_setCapture (s : State) (c : CaptureUnit) : s.capturesEnd (s.setCapture c) :=
  ⟨rfl, rfl, rfl, rfl, rfl, rfl, rfl, rfl, rfl, rfl, rfl⟩

theorem capturesEnd_endStopped (s : State) : s.capturesEnd s.endStopped :=
  ((capturesEnd_setCapture s _).trans (capturesEnd_dropEntries _ _)).trans (capturesEnd_waitForMark _ _)

theorem capturesEnd_stopCapture (s : State) : s.capturesEnd s.stopCapture := by
  unfold State.stopCapture
  split
  · split
    · exact capturesEnd_setCapture s _
    · exact capturesEnd_endStopped s
  · exact .refl s
  · exact .refl s

theorem capturesEnd_cancelWaiting (s : State) : s.capturesEnd s.cancelWaiting :=
  (capturesEnd_dropEntries s _).trans (capturesEnd_waitForMark _ _)

/-- The break of an epoch leaves the controller and the mark, and breaks an INTACT one (R51). -/
theorem enterBreaking_leaves (s : State) : s.enterBreaking.ctl = s.ctl ∧ s.enterBreaking.queue.mark = s.queue.mark
    ∧ (s.enterBreaking.table.status = some .intact → s.table.status = some .intact) := by
  unfold State.enterBreaking
  split
  · rename_i intact
    have ends := (capturesEnd_stopCapture (s.setTable { s.table with status := some .breaking })).trans (capturesEnd_cancelWaiting _)
    have mark := congrArg PostingQueue.mark ends.queue
    exact ⟨ends.ctl, mark, fun _ => intact⟩
  · exact ⟨rfl, rfl, id⟩

/-- What admission does besides posting the beat (R43 to R48). -/
theorem offerLeaves_applyAdmission {s u : State} (g : Nat) (effect : AdmissionEffect)
    (before : s.offerLeaves u) : s.offerLeaves (u.applyAdmission g effect) := by
  have ages := ages_of_posts (sameWrites_applyAdmission u g effect).posts
  obtain ⟨ctl, mark, status⟩ : (u.applyAdmission g effect).ctl = u.ctl ∧ (u.applyAdmission g effect).queue.mark = u.queue.mark
      ∧ ((u.applyAdmission g effect).table.status = some .intact → u.table.status = some .intact) := by
    cases effect with
    | nothing => exact ⟨rfl, rfl, id⟩
    | newCapture =>
      simp only [State.applyAdmission, watermarkTest_keeps, setTable_ctl, setTable_queue, setTable_table]
      exact ⟨trivial, trivial, id⟩
    | breakEpoch =>
      obtain ⟨-, table, -, queue, -, kept, -⟩ := exhaustedBy_keeps u g
      have broken := enterBreaking_leaves (u.exhaustedBy g)
      rw [kept, queue, table] at broken
      simp only [State.applyAdmission, noteExhausted_eq]
      exact broken
  exact ⟨ctl.trans before.ctl, by rw [ages]; exact before.ages, mark.trans before.mark, fun h => before.status (status h)⟩

/-- The host port is none of it. -/
theorem offerLeaves_host {s u v : State} (before : s.offerLeaves u) (ctl : v.ctl = u.ctl) (queue : v.queue = u.queue)
    (table : v.table = u.table) : s.offerLeaves v :=
  ⟨ctl.trans before.ctl, by rw [queue]; exact before.ages, by rw [queue]; exact before.mark, by rw [table]; exact before.status⟩

theorem offerLeaves_refl (s : State) : s.offerLeaves s := ⟨rfl, .inl rfl, rfl, id⟩

/-- An answered beat touches the host port alone (R138, R141). -/
theorem offerLeaves_finishBeat {s u : State} (before : s.offerLeaves u) (d : LaneData) : s.offerLeaves (u.finishBeat d) := by
  have kept : (u.finishBeat d).ctl = u.ctl ∧ (u.finishBeat d).queue = u.queue ∧ (u.finishBeat d).table = u.table := by
    unfold State.finishBeat
    split
    · exact ⟨rfl, rfl, rfl⟩
    · split
      · exact ⟨rfl, rfl, rfl⟩
      · split <;> exact ⟨rfl, rfl, rfl⟩
  obtain ⟨ctl, queue, table⟩ := kept
  exact offerLeaves_host before ctl queue table

/-- What an offer leaves (R43 to R48, R144, R145). -/
theorem offerLeaves_offerWrite (u : State) (c : Cycle) (p : Portion) (b : Beat) :
    u.offerLeaves (u.offerWrite c p b) := by
  unfold State.offerWrite
  split
  · unfold State.admitBeat
    split
    · obtain ⟨-, table, -, queue, -, ctl, -⟩ := exhaustedBy_keeps u p.granule
      rw [noteExhausted_eq]
      exact ⟨ctl, .inl (congrArg PostingQueue.ages queue), congrArg PostingQueue.mark queue, fun h =>
        (congrArg GranuleTable.status table).symm.trans h⟩
    · exact offerLeaves_host (offerLeaves_refl u) rfl rfl rfl
    · rename_i gate effect _
      split
      · refine offerLeaves_finishBeat (offerLeaves_applyAdmission _ _ ?_) _
        exact offerLeaves_host (offerLeaves_posted u c.word b.lanes b.data p.cls gate) rfl rfl rfl
      · exact offerLeaves_host (offerLeaves_refl u) rfl rfl rfl
  · split
    · exact offerLeaves_finishBeat (offerLeaves_posted ..) _
    · exact offerLeaves_host (offerLeaves_refl u) rfl rfl rfl

/-! ### What an event does behind the offer -/

/-- `x` follows from `v` by the flush test and a request it lets in: the handshake and the mark move, and a COMMIT leaves OPEN
(R73, R80, R86). -/
structure State.tests (v x : State) : Prop where
  table : x.table = v.table
  header : x.header = v.header
  capture : x.capture = v.capture
  port : x.port = v.port
  queue : x.queue = { v.queue with mark := x.queue.mark }
  host : x.host = v.host ∧ x.ctl.state = v.ctl.state ∨ x.host = v.writeOvertaken.host ∧ x.ctl.state = .draining

/-- A beat turned away is turned away whatever mark the queue bears (R59, R72). -/
theorem turnsAway_marked {u v : State} {c : Cycle} {p : Portion} {b : Beat} {r : WaitReason} {m : Option (BitVec 16)}
    (table : v.table = u.table) (active : v.header.active = u.header.active) (tail : v.capture.tail = u.capture.tail)
    (gate : v.host.gate = u.host.gate) (queue : v.queue = { u.queue with mark := m }) (h : u.turnsAway c p b r) :
    v.turnsAway c p b r := by
  have admission := admission_congr p.granule table active tail
  have own : v.beatGate p = u.beatGate p := by unfold State.beatGate; rw [gate]
  have takes : ∀ gate, v.takesBeat c b gate ↔ u.takesBeat c b gate := fun gate => by
    unfold State.takesBeat; rw [queue]; exact Iff.rfl
  unfold State.turnsAway
  rw [admission, own]
  simp only [takes]
  exact h

/-- A beat that an offer turned away waits on as the event ends, whatever the event began from (R62). -/
theorem settle_turnedAway {before x : State} {c : Cycle} {p : Portion} {b : Beat} (opened : x.ctl.state = .opened)
    (hc : x.host.cycle = some c) (hw : c.write = true) (hp : x.host.portion = some p) (hb : x.host.beat = some b)
    (waits : x.host.response = .wait ∧ x.host.data = LaneData.empty) (away : x.turnsAway c p b b.reason) :
    x.endsIn (State.settle before x) := by
  have held : ∀ y : State, y.host = { x.host with read := y.host.read } → y.turnsAway c p b b.reason →
      y.offerWrite c p b = y := by
    intro y host away
    rw [offerWrite_turnedAway away]
    exact held_again (by rw [host]; exact hb) (by rw [host]; exact waits.1) (by rw [host]; exact waits.2)
  obtain ⟨n, queue⟩ := arbitrate_queue x.takeCapture
  obtain ⟨-, -, -, table, -, -, -, -, -, -, -, -, header, host, tail, -⟩ := endsIn_grant x
  rw [(takeCapture_keeps x).2.2.2.2.1] at queue
  refine settle_heldOn opened hc hw (reoffer_waitsOn hc hp hb (held x rfl away)) ?_
  generalize x.takeCapture.arbitrate = granted at *
  refine reoffer_waitsOn (by rw [host]; exact hc) (by rw [host]; exact hp) (by rw [host]; exact hb) (held granted host ?_)
  exact turnsAway_draining table (congrArg HeaderUnit.active header :) tail (congrArg HostPort.gate host :) queue away

/-- A read beat that rests goes on resting behind it, and no write beat is left where OPEN is (R143). -/
theorem tests_rests {v x : State} (h : v.tests x) (rests : v.rests) : x.rests := by
  rcases h.host with ⟨host, -⟩ | ⟨host, -⟩
  · exact rests_of_eq rests (by rw [host]) (by rw [host]) (by rw [h.queue])
  · rcases writeOvertaken_host v with none | ⟨same, -⟩
    · exact rests_of_noBeat (by rw [host]; exact none)
    · rw [same] at host
      exact rests_of_eq rests (by rw [host]) (by rw [host]) (by rw [h.queue])

/-- In a read cycle nothing of the host port moves behind it (R143). -/
theorem tests_read {v x : State} (h : v.tests x) {c : Cycle} (hc : v.host.cycle = some c) (read : c.write = false) :
    x.host = v.host := by
  rcases h.host with ⟨host, -⟩ | ⟨host, -⟩
  · exact host
  · rw [host, State.writeOvertaken, hc]
    simp [read]

/-- In a write cycle it leaves a beat in OPEN as it was, or none (R143). -/
theorem tests_write {v x : State} (h : v.tests x) {c : Cycle} (hc : v.host.cycle = some c) (write : c.write = true) :
    x.host = v.host ∧ x.ctl.state = v.ctl.state ∨ x.host.beat = none := by
  rcases h.host with same | ⟨host, -⟩
  · exact .inl same
  · refine .inr ?_
    rcases writeOvertaken_host v with none | ⟨-, read⟩
    · rw [host]; exact none
    · have := read c hc
      simp [write] at this

/-- After an offer and what the event does behind it, the event ends (R62). -/
theorem settle_behindOffer {before u x : State} {c : Cycle} {p : Portion} {b : Beat} (opened : u.ctl.state = .opened)
    (hc : u.host.cycle = some c) (hw : c.write = true) (hp : u.host.portion = some p) (tests : (u.offerWrite c p b).tests x) :
    x.endsIn (State.settle before x) := by
  rcases offerWrite_cases (p := p) (b := b) hc with answered | ⟨r, away⟩
  · exact settle_endsIn before (tests_rests tests (rests_of_noBeat answered))
  · rw [offerWrite_turnedAway away] at tests
    rcases tests_write tests (c := c) hc hw with ⟨host, state⟩ | none
    · refine settle_turnedAway (c := c) (p := p) (b := { b with reason := r }) (state.trans opened) (by rw [host]; exact hc) hw
        (by rw [host]; exact hp) (by rw [host]; rfl) (by rw [host]; exact ⟨rfl, rfl⟩) ?_
      exact turnsAway_marked tests.table (congrArg HeaderUnit.active tests.header :) (congrArg CaptureUnit.tail tests.capture :)
        (congrArg HostPort.gate host :) tests.queue away
    · exact settle_endsIn before (rests_of_noBeat none)

/-- An event that loses an entry, offers a held beat for it and goes on as `after` says, ends as it should (R39, R62, R69). -/
theorem settlesBy_behindOffer {s u t : State} {after : State → State} (tests : ∀ v : State, v.tests (after v))
    (lost : s.Lawful → u.queue.entries ≠ s.queue.entries)
    (admits : s.Lawful → u.ctl.state = .opened → u.table.lawful ∧ u.inFlight ∧ u.table.status ≠ none)
    (ht : State.settle s (after (State.reoffer s u)) = t) : s.settlesBy u after t := by
  refine ⟨fun rests => ?_, fun c hc b hb read reason unmatched => ?_, fun lawful opened c hc p hp b hb write => ?_⟩
  · rw [reoffer_rests rests] at ht
    rw [← ht]
    exact settle_endsIn s (tests_rests (tests u) rests)
  · have host := tests_read (tests u) hc read
    have queue := (tests u).queue
    rw [reoffer_read hc read] at ht
    rw [← ht]
    refine settle_releases (reoffer_read ?_ read) (by rw [host]; exact hc) (by rw [host]; exact hb) read reason (by rw [queue]; exact unmatched)
    rw [host]; exact hc
  · obtain ⟨table, inFlight, status⟩ := admits lawful opened
    refine ⟨fun due => ?_, fun notDue => ?_⟩
    · rw [reoffer_due opened hc write hp hb due] at ht
      refine offersAgain_of_offer hc table inFlight status rfl ?_
      rw [← ht]
      exact settle_behindOffer opened hc write hp (tests _)
    · have still : State.reoffer s u = u :=
        reoffer_notDue hb (Bool.eq_false_iff.2 fun due => notDue ((offerDue_iff s u b).1 due))
      rw [still] at ht
      refine ⟨fun quiet => ?_, fun reason => absurd (.inl ⟨reason, lost lawful⟩) notDue⟩
      rcases tests_write (tests u) hc write with ⟨host, state⟩ | none
      · have queue := (tests u).queue
        have again : State.reoffer s (after u) = after u := by
          refine reoffer_notDue (by rw [host]; exact hb) (Bool.eq_false_iff.2 fun due => notDue ?_)
          have := (offerDue_iff s (after u) b).1 due
          unfold State.dueBy at this ⊢
          rwa [queue, (tests u).table] at this
        refine (settle_drainOffered (state.trans opened) (by rw [host]; exact hc) write (by rw [host]; exact hp)
          (by rw [host]; exact hb) again ht).1 ?_
        rw [(tests u).port]
        exact quiet
      · rw [← ht]
        exact settle_endsIn s (rests_of_noBeat none)

/-! ### A request remembered, and a request's result -/

/-- A remembered request taken in OPEN, but for a ROLLBACK that is carried out (R78, R83, R86, R92). -/
theorem takeRemembered_eq {u : State} {op : Operation} (remembered : op ∈ u.ctl.remembered) (opened : u.ctl.state = .opened)
    (free : u.ctl.pendingRequest = none)
    (refused : op ≠ .rollback ∨ u.epochNumber = 281474976710655#48 ∨ u.table.status ≠ some .intact) :
    u.takeRemembered = u.takesNext op := by
  unfold State.takeRemembered
  rw [Option.mem_def.1 remembered]
  refine (if_pos ⟨opened, free⟩).trans ?_
  cases op with
  | illegal => rfl
  | flush => rfl
  | commit =>
    unfold State.takesNext State.takeRequest
    by_cases limit : u.epochNumber = 281474976710655#48
    · refine (if_pos (by exact limit)).trans (Eq.trans ?_ (if_pos limit).symm)
      rw [refuseAtLimit_eq .commit (by exact limit), limit]
    · refine (if_neg (by exact limit)).trans (Eq.trans ?_ (if_neg limit).symm)
      exact leaveOpen_eq _
  | rollback =>
    unfold State.takesNext State.takeRequest
    by_cases limit : u.epochNumber = 281474976710655#48
    · refine (if_pos (by exact limit)).trans (Eq.trans ?_ (if_pos limit).symm)
      rw [refuseAtLimit_eq .rollback (by exact limit), limit]
    · have damaged := (refused.resolve_left (fun h => h rfl)).resolve_left limit
      refine (if_neg (by exact limit)).trans (Eq.trans ?_ (if_neg limit).symm)
      exact if_neg (by exact damaged)

/-- A pending request's result, with nothing remembered behind an abandoned one (R79, R80). -/
theorem reachResult_eq {u : State} {r : Request} (result : EpochResult) (pending : u.ctl.pendingRequest = some r)
    (alone : r.abandoned = false ∨ u.ctl.remembered = none) : u.reachResult result = u.reached r result := by
  unfold State.reachResult State.reached
  rw [pending]
  cases abandoned : r.abandoned with
  | false => exact if_neg (by simp [abandoned])
  | true =>
    have forgotten := alone.resolve_left (by simp [abandoned])
    refine (if_pos abandoned).trans ?_
    rw [recordResult_eq, if_pos rfl]
    unfold State.takeRemembered
    have still : (u.recorded r.op result).ctl.remembered = none := forgotten
    rw [still]

/-- An abandoned request's result is recorded, and the request remembered behind it is taken (R78, R80). -/
theorem reachResult_remembered {u : State} {r : Request} (result : EpochResult) (pending : u.ctl.pendingRequest = some r)
    (abandoned : r.abandoned = true) : u.reachResult result = (u.recorded r.op result).takeRemembered := by
  unfold State.reachResult
  rw [pending]
  refine (if_pos abandoned).trans ?_
  rw [recordResult_eq]

/-! ### What stands behind the offer of a drain write's end -/

/-- The handshake and the events move, no more. -/
theorem tests_of {v x : State} (table : x.table = v.table) (header : x.header = v.header) (capture : x.capture = v.capture)
    (port : x.port = v.port) (queue : x.queue = { v.queue with mark := x.queue.mark }) (host : x.host = v.host)
    (state : x.ctl.state = v.ctl.state) : v.tests x := ⟨table, header, capture, port, queue, .inl ⟨host, state⟩⟩

/-- A write cycle in hand as OPEN is left hangs on the host port alone (R143). -/
theorem writeOvertaken_congr {u v : State} (same : u.host = v.host) : u.writeOvertaken.host = v.writeOvertaken.host := by
  unfold State.writeOvertaken State.closed
  rw [same]
  split
  · split
    · exact same
    · split <;> rfl
  · exact same

/-- One after another, where the first leaves the host port and the device state. -/
theorem tests_trans {v w x : State} (h : v.tests w) (stays : w.ctl.state = v.ctl.state ∧ w.host = v.host) (k : w.tests x) : v.tests x := by
  refine ⟨k.table.trans h.table, k.header.trans h.header, k.capture.trans h.capture, k.port.trans h.port, by rw [k.queue, h.queue], ?_⟩
  rcases k.host with ⟨host, state⟩ | ⟨host, state⟩
  · exact .inl ⟨host.trans stays.2, state.trans stays.1⟩
  · refine .inr ⟨?_, state⟩
    rw [host, writeOvertaken_congr stays.2]

/-- A result is none of the host port's (R79, R80). -/
theorem tests_recorded (v : State) (op : Operation) (result : EpochResult) :
    v.tests ((v.setQueue { v.queue with mark := none }).recorded op result) := by
  unfold State.recorded
  refine tests_of ?_ ?_ ?_ ?_ ?_ ?_ ?_ <;> simp

/-- The same, answered or recorded. -/
theorem tests_reached (v : State) (r : Request) (result : EpochResult) :
    v.tests ((v.setQueue { v.queue with mark := none }).reached r result) := by
  unfold State.reached
  split
  · exact tests_recorded v r.op result
  · exact tests_of rfl rfl rfl rfl rfl rfl rfl

/-- Nor is a request, but for the COMMIT that leaves OPEN (R86, R143). -/
theorem tests_takesNext (v : State) (op : Operation) : v.tests (v.takesNext op) := by
  unfold State.takesNext
  cases op with
  | illegal => exact tests_of rfl rfl rfl rfl rfl rfl rfl
  | flush =>
    dsimp only
    split
    · exact tests_of rfl rfl rfl rfl rfl rfl rfl
    · exact tests_of rfl rfl rfl rfl rfl rfl rfl
  | commit =>
    dsimp only
    split
    · unfold State.answers
      refine tests_of ?_ ?_ ?_ ?_ ?_ ?_ ?_ <;> simp
    · have host := writeOvertaken_congr (u := (v.setCtl { v.ctl with remembered := none }).setCtl { v.ctl with
        remembered := none, state := .draining, phase := .working, pendingRequest := some ⟨.commit, false⟩ }) (v := v) rfl
      refine ⟨?_, ?_, ?_, ?_, ?_, .inr ⟨host, ?_⟩⟩ <;> simp
  | rollback =>
    dsimp only
    split
    · unfold State.answers
      refine tests_of ?_ ?_ ?_ ?_ ?_ ?_ ?_ <;> simp
    · exact tests_of rfl rfl rfl rfl rfl rfl rfl

/-! ### The flush test behind the offer -/

/-- What an event's offer leaves (R39, R62). -/
theorem offerLeaves_reoffer (before u : State) : u.offerLeaves (State.reoffer before u) := by
  unfold State.reoffer
  split
  · split
    · exact offerLeaves_offerWrite ..
    · exact offerLeaves_refl u
  · exact offerLeaves_refl u

/-- A mark with every age past it is satisfied (R73). -/
theorem flushed_of_ages {q : PostingQueue} {m : BitVec 16} (mark : q.mark = some m) (past : ∀ a ∈ q.ages, 32768 ≤ (m - a).toNat) :
    q.flushed = true := by
  unfold PostingQueue.flushed
  rw [mark]
  refine List.all_eq_true.2 fun e he => ?_
  have far := past e.age (List.mem_map_of_mem he)
  rw [atOrBefore, Bool.not_eq_true', decide_eq_false_iff_not]
  omega

/-- A mark with an age at or before it is not (R73). -/
theorem not_flushed_of_age {q : PostingQueue} {m a : BitVec 16} (mark : q.mark = some m) (mem : a ∈ q.ages)
    (before : (m - a).toNat < 32768) : q.flushed = false := by
  obtain ⟨e, he, rfl⟩ := List.mem_map.1 mem
  unfold PostingQueue.flushed
  rw [mark]
  refine List.all_eq_false.2 ⟨e, he, ?_⟩
  rw [atOrBefore, decide_eq_true before]
  decide

/-- An offer satisfies no flush mark: a beat is appended past it (R61, R72, R73). -/
theorem flushed_behindOffer {u w : State} {m : BitVec 16} (leaves : u.offerLeaves w) (mark : u.queue.mark = some m)
    (past : ∀ a ∈ u.queue.ages, 32768 ≤ (m - a).toNat) (near : 1 ≤ (u.queue.counter - m).toNat ∧ (u.queue.counter - m).toNat ≤ 8) :
    w.queue.flushed = true := by
  refine flushed_of_ages (leaves.mark.trans mark) fun a ha => ?_
  rcases leaves.ages with same | appended
  · exact past a (by rwa [same] at ha)
  · rw [appended] at ha
    rcases List.mem_append.1 ha with ha | ha
    · exact past a ha
    · obtain rfl := List.mem_singleton.1 ha
      bv_omega

/-- Nor does it leave one unsatisfied that an entry left holds up (R73). -/
theorem not_flushed_behindOffer {u w : State} {m a : BitVec 16} (leaves : u.offerLeaves w) (mark : u.queue.mark = some m)
    (mem : a ∈ u.queue.ages) (before : (m - a).toNat < 32768) : w.queue.flushed = false := by
  refine not_flushed_of_age (leaves.mark.trans mark) ?_ before
  rcases leaves.ages with same | appended
  · rwa [same]
  · rw [appended]; exact List.mem_append_left _ mem

/-- A drain write's end loses entries (R66, R67). -/
theorem drained_loses {s : State} {o : MemOp} (underway : s.completing .drainWrite = .underway o) (lawful : s.Lawful) :
    (s.drained o).queue.entries ≠ s.queue.entries := by
  obtain ⟨op, kind, -⟩ := completing_underway.1 underway
  obtain ⟨some, -⟩ := lawful.drainMatches o op kind
  obtain ⟨e, he⟩ := List.exists_mem_of_ne_nil _ some
  obtain ⟨mem, draining⟩ := List.mem_filter.1 he
  intro same
  have stays : e ∈ (s.drained o).queue.entries := by rw [same]; exact mem
  have := (List.mem_filter.1 (show e ∈ s.queue.entries.filter fun e => !e.draining from stays)).2
  simp [draining] at this

/-- A drain write's completion, by what its flush test makes of the state (R67, R73). -/
theorem drainWrite_settles {s : State} {o : MemOp} {after : State → State} (underway : s.completing .drainWrite = .underway o)
    (going : s.ctl.state ≠ .parking) (tests : ∀ v : State, v.tests (after v))
    (tested : ∀ w, (s.drained o).offerLeaves w → w.flushTest = after w) :
    ∃ t, exec .drainWriteComplete s = .next t ∧ s.settlesBy (s.drained o) after t := by
  have leaves := offerLeaves_reoffer s (s.drained o)
  have made : (State.reoffer s ((s.finishOp o).keepEntries fun e => !e.draining)).flushTest = after (State.reoffer s (s.drained o)) := by
    rw [keepEntries_eq, tested _ leaves]
  have runs : (after (State.reoffer s (s.drained o))).ctl.state ≠ .parking := by
    rcases (tests (State.reoffer s (s.drained o))).host with ⟨-, state⟩ | ⟨-, state⟩
    · rw [state, leaves.ctl]; exact going
    · rw [state]; decide
  exact ⟨_, onCompletion_settles underway made runs, settlesBy_behindOffer tests (drained_loses underway)
    (lawful_admits rfl rfl rfl) rfl⟩

/-- Settles O47. -/
theorem drainWriteEmptiesItsEntries : Obligations.DrainWriteEmptiesItsEntries := by
  intro s o m r underway going
  have stays : ∀ a, a ∈ (s.drained o).queue.ages ↔ ∃ e ∈ s.queue.entries, e.draining = false ∧ e.age = a := by
    intro a
    simp [PostingQueue.ages, State.drained, and_assoc]
  refine ⟨fun unsatisfied => ?_, fun mark past ages pending => ?_⟩
  · refine drainWrite_settles underway going (fun v => tests_of rfl rfl rfl rfl rfl rfl rfl) fun w leaves => ?_
    rcases unsatisfied with unmarked | ⟨mark, e, he, draining, before⟩
    · exact flushTest_unmarked (leaves.mark.trans unmarked)
    · refine if_neg ?_
      rw [not_flushed_behindOffer leaves mark ((stays e.age).2 ⟨e, he, draining, rfl⟩) before]
      decide
  · have near := ages.2 (s.queue.counter - m).toNat (by simp [mark])
    have flushes : ∀ w, (s.drained o).offerLeaves w → w.flushTest = (w.setQueue { w.queue with mark := none }).reachResult .ok := by
      intro w leaves
      refine if_pos (flushed_behindOffer leaves mark (fun a ha => ?_) near)
      obtain ⟨e, he, draining, rfl⟩ := (stays a).1 ha
      exact past e he draining
    by_cases alone : r.abandoned = false ∨ s.ctl.remembered = none
    · obtain ⟨t, runs, settles⟩ := drainWrite_settles (after := fun v => (v.setQueue { v.queue with mark := none }).reached r .ok)
        underway going (fun v => tests_reached v r .ok) fun w leaves => by
          rw [flushes w leaves]
          exact reachResult_eq .ok (by rw [setQueue_ctl, leaves.ctl]; exact pending) (by rw [setQueue_ctl, leaves.ctl]; exact alone)
      refine ⟨t, runs, fun _ => settles, fun op remembered abandoned => ?_⟩
      rcases alone with open_ | forgotten
      · simp [open_] at abandoned
      · simp [forgotten] at remembered
    · obtain ⟨abandoned, remembered⟩ := not_or.1 alone
      obtain ⟨op, remembered⟩ := Option.ne_none_iff_exists'.1 remembered
      by_cases taken : s.ctl.state = .opened ∧ (op ≠ .rollback ∨ s.epochNumber = 281474976710655#48 ∨ s.table.status ≠ some .intact)
      · obtain ⟨opened, refused⟩ := taken
        have tests : ∀ v : State, v.tests (((v.setQueue { v.queue with mark := none }).recorded r.op .ok).takesNext op) := fun v =>
          tests_trans (tests_recorded v r.op .ok) (by simp [State.recorded]) (tests_takesNext _ op)
        obtain ⟨t, runs, settles⟩ := drainWrite_settles underway going tests fun w leaves => by
          rw [flushes w leaves, reachResult_remembered .ok (by rw [setQueue_ctl, leaves.ctl]; exact pending) (by simpa using abandoned)]
          have status : ((w.setQueue { w.queue with mark := none }).recorded r.op .ok).table = w.table := by simp [State.recorded]
          have ctl := leaves.ctl
          refine takeRemembered_eq ?_ ?_ rfl ?_
          · show w.ctl.remembered = some op
            rw [ctl]; exact remembered
          · show w.ctl.state = .opened
            rw [ctl]; exact opened
          · have epoch : ((w.setQueue { w.queue with mark := none }).recorded r.op .ok).epochNumber = s.epochNumber := by
              show w.ctl.epoch.getD 0#48 = _
              rw [ctl]; rfl
            rw [status, epoch]
            exact refused.imp_right (Or.imp_right fun broken intact => broken (leaves.status intact))
        refine ⟨t, runs, fun lone => absurd lone alone, fun op' remembered' _ _ _ => ?_⟩
        obtain rfl := Option.some.inj (remembered.symm.trans remembered')
        exact settles
      · refine ⟨_, onCompletion underway rfl, fun lone => absurd lone alone, fun op' remembered' _ opened refused => ?_⟩
        obtain rfl := Option.some.inj (remembered.symm.trans remembered')
        exact absurd ⟨opened, refused⟩ taken

end Sys2Proof.Machine
end

section
/-! A ROLLBACK carried out (sections 6.1 to 6.3). -/

namespace Sys2Proof.Machine

/-! ### What the rollback makes of captures, queue and host port -/

/-- Captures stopped and cancelled leave the LOGGED entries and the one in flight (R31, R55). -/
theorem waitingCancelled_table {s : State} (lawful : s.table.lawful) (inFlight : s.inFlight) {kept : Option Nat}
    (is : s.captureStopped.capture.granule = kept) : s.captureStopped.waitingCancelled.table = { s.table with
      entries := s.table.entries.filter fun e => e.state = .logged ∨ kept = some e.granule
      reservations := if kept.isSome then 1 else 0 } := by
  obtain ⟨-, -, -, -, status, noted⟩ := captureStopped_keeps s
  have entries : s.captureStopped.table.entries.filter (fun e => e.state = .logged ∨ kept = some e.granule)
      = s.table.entries.filter fun e => e.state = .logged ∨ kept = some e.granule := by
    rw [captureStopped_entries]
    split
    · rename_i withdrawn
      rw [captureStopped_granule, if_pos withdrawn] at is
      obtain ⟨e, -, -, granule⟩ := inFlight.2 (by rw [withdrawn.1]; decide)
      have present := inFlight_entry inFlight (by rw [withdrawn.1]; decide) granule
      rw [← is, granule]
      simpa using logged_gone lawful present
    · rfl
  rw [State.waitingCancelled, is]
  simp only [watermarkTest_keeps, setTable_table]
  rw [entries, status, noted]
  cases kept <;> rfl

/-- A ROLLBACK carried out, as the event ends (R55, R70, R94, R143). -/
theorem takeRollback_makes {s u : State} (lawful : s.table.lawful) (inFlight : s.inFlight) (intact : s.table.status = some .intact)
    {kept : Option Nat} (is : s.captureStopped.capture.granule = kept) (made : s.takeRollback = u) :
    u.pins = s.pins ∧ u.mem = s.mem ∧ u.dec = s.dec ∧ u.link = s.link ∧ u.events = s.events ∧ u.header = s.header
      ∧ u.ctl = { s.ctl with state := .rollingBack, phase := .working, pendingRequest := some ⟨.rollback, false⟩ }
      ∧ u.capture = s.captureStopped.capture ∧ u.engine = { s.engine with walkDone := false }
      ∧ u.queue = { s.queue with entries := s.queue.entries.filter staysInRollback }
      ∧ u.table = { s.table with
            entries := s.table.entries.filter fun e => e.state = .logged ∨ kept = some e.granule
            reservations := if kept.isSome then 1 else 0 }
      ∧ u.host = s.writeOvertaken.host := by
  obtain ⟨y, hy⟩ : ∃ y, ((s.workOn .rollback).setCtl { (s.workOn .rollback).ctl with state := .rollingBack }).keepEntries
    staysInRollback = y := ⟨_, rfl⟩
  have table : y.table = s.table := by rw [← hy]; rfl
  have capture : y.capture = s.capture := by rw [← hy]; rfl
  have unit : y.captureStopped.capture = s.captureStopped.capture := by
    rw [captureStopped_capture, captureStopped_capture, capture]
  have flight : y.inFlight := by unfold State.inFlight; rw [table, capture]; exact inFlight
  have both := stopAndCancel_eq (s := y) (by rw [table]; exact lawful) flight
  rw [table, if_neg (by rw [intact]; decide), turned_waiting_nil] at both
  have cancelled := waitingCancelled_table (s := y) (kept := kept) (by rw [table]; exact lawful) flight (by rw [unit]; exact is)
  rw [table] at cancelled
  have ends := (capturesEnd_stopCapture y).trans (capturesEnd_cancelWaiting _)
  rw [both] at ends
  obtain ⟨queue, host, -⟩ := captureStopped_keeps y
  obtain ⟨z, hz⟩ : ∃ z, y.captureStopped.waitingCancelled = z := ⟨_, rfl⟩
  have zqueue : z.queue = y.queue := by rw [← hz, ← queue]; simp [State.waitingCancelled]
  have zhost : z.host = y.host := by rw [← hz, ← host]; simp [State.waitingCancelled]
  have zcapture : z.capture = s.captureStopped.capture := by rw [← hz, ← unit]; simp [State.waitingCancelled]
  rw [hz] at ends cancelled both
  have rolled : u = z.writeOvertaken.setEngine { z.writeOvertaken.engine with walkDone := false } := by
    rw [← made, State.takeRollback]
    show (State.leaveOpen (State.cancelWaiting (State.stopCapture _))).setEngine _ = _
    rw [hy, both, leaveOpen_eq]
  rw [rolled]
  simp only [setEngine_pins, setEngine_mem, setEngine_dec, setEngine_link, setEngine_events, setEngine_header, setEngine_ctl,
    setEngine_capture, setEngine_engine, setEngine_queue, setEngine_table, setEngine_host, writeOvertaken_keeps, ends.pins, ends.mem,
    ends.dec, ends.link, ends.events, ends.header, ends.ctl, ends.engine, zqueue, zcapture, cancelled,
    writeOvertaken_congr (zhost.trans (show y.host = s.host by rw [← hy]; rfl))]
  rw [← hy]
  and_intros <;> trivial

/-! ### The rollback's tests -/

/-- Captures are taken in OPEN and DRAINING alone (R26). -/
theorem takeCapture_outside {s : State} (h : s.ctl.state ≠ .opened ∧ s.ctl.state ≠ .draining) : s.takeCapture = s :=
  if_neg fun due => due.2.1.elim h.1 h.2

/-- An event in ROLLING_BACK ends with its read's release, the rollback's tests and a grant (R69, R97, R104). -/
theorem settle_rolling (before : State) {u : State} (rolling : u.ctl.state = .rollingBack) :
    State.settle before u = u.releaseRead.rollbackTest.arbitrate := by
  have released : u.releaseRead.ctl.state = .rollingBack := by simpa using rolling
  have tested : u.releaseRead.tested = u.releaseRead.rollbackTest := by
    rw [State.tested, takeCapture_outside (by rw [released]; decide), commitTest_elsewhere (by rw [released]; decide)]
  rw [settle_closed (by rw [rolling]; decide), tested]
  refine takeCapture_outside ?_
  obtain ⟨-, -, -, -, -, -, -, -, -, -, -, state, -⟩ := endsIn_rollbackTest u.releaseRead
  rw [released] at state
  rcases state with same | ⟨-, sealing⟩
  · simp [same]
  · simp [sealing]

/-- Settled over a log that is not empty, the walk begins at its last slot (R99). -/
theorem rollbackTest_walks {v : State} {n : Nat} (settled : v.settled = true) (tail : v.capture.tail = n + 1) :
    v.rollbackTest = v.setEngine { v.engine.reads n with purpose := some .rollback, restored := 0, damaged := 0 } := by
  have begun : v.beginWalk = v.setEngine { v.engine.reads n with purpose := some .rollback, restored := 0, damaged := 0 } := by
    unfold State.beginWalk
    dsimp only [setEngine_capture]
    rw [tail]
    rfl
  have undone : v.engine.walkDone = false := by
    simp only [State.settled, Bool.and_eq_true, Bool.not_eq_true'] at settled
    exact settled.1.1.1.2
  unfold State.rollbackTest
  simp only [settled, if_true, begun]
  refine if_neg ?_
  rintro ⟨-, done, -⟩
  simp [RollbackEngine.reads, undone] at done

/-- Settled over an empty log, the walk is done, and the seal is requested of an empty queue (R99, R103, R104). -/
theorem rollbackTest_done {v w : State} (settled : v.settled = true) (tail : v.capture.tail = 0)
    (done : v.setEngine { v.engine.stopped with restored := 0, damaged := 0, walkDone := true } = w) :
    v.rollbackTest = if v.queue.entries = [] then w.requestSeal else w := by
  have begun : v.beginWalk = w := by
    rw [← done]
    unfold State.beginWalk
    dsimp only [setEngine_capture]
    rw [tail]
    rfl
  have rolling : v.ctl.state = .rollingBack := by
    simp only [State.settled, Bool.and_eq_true, beq_iff_eq] at settled
    exact settled.1.1.1.1.1
  unfold State.rollbackTest
  simp only [settled, if_true, begun]
  rw [← done]
  simp [rolling]

/-- Neither settled nor done, the rollback waits (R97). -/
theorem rollbackTest_waits {v : State} (unsettled : v.settled = false) (undone : v.engine.walkDone = false) : v.rollbackTest = v := by
  unfold State.rollbackTest
  simp [unsettled, undone]

/-! ### The event's end -/

/-- The words a host read covers hang on the entries' words alone (R148). -/
theorem freeRun_undrained {q r : PostingQueue} (same : q.entries.map QueueEntry.undrained = r.entries.map QueueEntry.undrained) :
    (∀ word, q.matching word = [] ↔ r.matching word = []) ∧ ∀ word room, q.freeRun word room = r.freeRun word room := by
  have words : q.entries.map QueueEntry.word = r.entries.map QueueEntry.word := by
    have := congrArg (List.map QueueEntry.word) same
    rwa [List.map_map, List.map_map] at this
  have shown : ∀ (p : PostingQueue) word, p.matching word = [] ↔ word ∉ p.entries.map QueueEntry.word := by
    intro p word
    rw [PostingQueue.matching, List.filter_eq_nil_iff, List.mem_map, not_exists]
    exact forall_congr' fun e => by simp
  have matching : ∀ word, q.matching word = [] ↔ r.matching word = [] := fun word => by rw [shown, shown, words]
  refine ⟨matching, fun word room => ?_⟩
  induction room generalizing word with
  | zero => rfl
  | succ room ih =>
    unfold PostingQueue.freeRun
    rw [ih, show (q.matching word).isEmpty = (r.matching word).isEmpty by
      rw [Bool.eq_iff_iff, List.isEmpty_iff, List.isEmpty_iff]; exact matching word]

/-- A grant tells the engine at most that it is granted (R157). -/
theorem arbitrate_engine (s : State) : s.arbitrate.engine = { s.engine with granted := s.arbitrate.engine.granted } := by
  rcases arbitrate_cases s with same | ⟨r, o, -, -, -, -, -, grant⟩
  · rw [same]
  · rw [grant]
    exact grant_engine s r o

/-- The seal's request is none of the engine's (R104). -/
theorem requestSeal_engine (s : State) : s.requestSeal.engine = s.engine := rfl

/-- A grant touches nothing of an IDLE engine (R157). -/
theorem arbitrate_engineIdle {s : State} (idle : s.engine.phase = .idle) : s.arbitrate.engine = s.engine := by
  rcases arbitrate_cases s with same | ⟨r, o, -, -, -, -, standing, grant⟩
  · rw [same]
  · rw [grant]
    cases r with
    | engine => simp [State.standing, idle] at standing
    | header =>
      simp only [State.grant, State.tellGranted]
      split
      · rfl
      · split <;> rfl
    | hostRead =>
      simp only [State.grant, State.tellGranted]
      split <;> rfl
    | capture | drain => rfl

/-- A read beat as an event of ROLLING_BACK ends (R69, R148). -/
theorem settle_rollingRead {before u t : State} {c : Cycle} {b : Beat} (rolling : u.ctl.state = .rollingBack)
    (ht : State.settle before u = t) (hc : u.host.cycle = some c) (hb : u.host.beat = some b) (read : c.write = false) :
    (b.reason ≠ .partlyCovered ∨ t.queue.matching c.word ≠ [] → t.host = { u.host with read := t.host.read })
      ∧ (b.reason = .partlyCovered → t.queue.matching c.word = [] → u.releases c b t
          ∧ (∀ word room, t.queue.freeRun word room = u.queue.freeRun word room)) := by
  have undrained : t.queue.entries.map QueueEntry.undrained = u.queue.entries.map QueueEntry.undrained := by
    obtain ⟨-, -, -, -, -, -, -, -, -, rolled, -⟩ := endsIn_rollbackTest u.releaseRead
    obtain ⟨-, -, -, -, -, -, -, -, -, granted, -⟩ := endsIn_arbitrate u.releaseRead.rollbackTest
    rw [← ht, settle_rolling before rolling, granted, rolled]
    simp
  obtain ⟨matching, run⟩ := freeRun_undrained undrained
  refine ⟨fun waits => ?_, fun reason unmatched => ⟨?_, run⟩⟩
  · have rests : u.rests := by
      intro c' hc' b' hb'
      obtain rfl := Option.some.inj (hc.symm.trans hc')
      obtain rfl := Option.some.inj (hb.symm.trans hb')
      exact ⟨read, fun reason => (waits.resolve_left fun h => h reason) ∘ (matching c.word).2⟩
    obtain ⟨-, -, -, -, -, -, -, -, -, -, -, -, -, host, -⟩ := settle_endsIn before rests
    rw [← ht]
    exact host
  · rw [← ht]
    exact settle_releases (reoffer_read hc read) hc hb read reason ((matching c.word).1 unmatched)

/-- The rollback's tests in an event of ROLLING_BACK that has just begun (R97, R99, R104). -/
theorem settle_rollbackBegun {before u t : State} {n : Nat} (rolling : u.ctl.state = .rollingBack) (idle : u.engine.phase = .idle)
    (undone : u.engine.walkDone = false) (ht : State.settle before u = t) :
    (u.guardedReadOpen = false → u.capture.phase = .idle → capturingCount u.table.entries = 0 → u.capture.tail = n + 1 →
        t.engine = { u.engine.reads n with
          purpose := some .rollback, restored := 0, damaged := 0, walkDone := false, granted := t.engine.granted })
      ∧ (u.guardedReadOpen = false → u.capture.phase = .idle → capturingCount u.table.entries = 0 → u.capture.tail = 0 →
        t.engine = { u.engine.stopped with restored := 0, damaged := 0, walkDone := true }
          ∧ (t.queue.entries = [] → t.ctl.state = .sealing
              ∧ t.header.writeRequest.map (fun w => (w.kind, w.target)) = some (.commitSeal, u.header.unselected))
          ∧ (t.queue.entries ≠ [] → t.ctl.state = .rollingBack))
      ∧ (u.guardedReadOpen = true ∨ u.capture.phase ≠ .idle → t.ctl.state = .rollingBack ∧ t.engine.phase = .idle) := by
  obtain ⟨v, hv⟩ : ∃ v, u.releaseRead = v := ⟨_, rfl⟩
  have kept := releaseRead_keeps u
  rw [hv] at kept
  obtain ⟨-, -, -, capture, table, queue, ctl, engine, header, -⟩ := kept
  have portion : v.guardedReadOpen = u.guardedReadOpen := by
    rw [← hv]
    unfold State.releaseRead State.requestRead
    split
    · split
      · split <;> rfl
      · rfl
    · rfl
  have settled : v.settled = true ↔ u.capture.phase = .idle ∧ capturingCount u.table.entries = 0 ∧ u.guardedReadOpen = false := by
    simp [State.settled, ctl, engine, capture, table, portion, rolling, idle, undone, and_assoc]
  rw [settle_rolling before rolling, hv] at ht
  refine ⟨fun closed free none tail => ?_, fun closed free none tail => ?_, fun busy => ?_⟩
  · rw [rollbackTest_walks (settled.2 ⟨free, none, closed⟩) (by rw [capture]; exact tail)] at ht
    have granted := arbitrate_engine (v.setEngine { v.engine.reads n with purpose := some .rollback, restored := 0, damaged := 0 })
    rw [ht, setEngine_engine, engine] at granted
    rw [granted]
    simp only [RollbackEngine.reads, undone]
  · obtain ⟨w, hw⟩ : ∃ w, v.setEngine { v.engine.stopped with restored := 0, damaged := 0, walkDone := true } = w := ⟨_, rfl⟩
    rw [rollbackTest_done (settled.2 ⟨free, none, closed⟩) (by rw [capture]; exact tail) hw] at ht
    have wengine : w.engine = { u.engine.stopped with restored := 0, damaged := 0, walkDone := true } := by rw [← hw, ← engine]; rfl
    have ends : ∀ x : State, x.queue = u.queue → x.arbitrate = t → (t.queue.entries = [] ↔ u.queue.entries = []) := by
      intro x same made
      obtain ⟨-, -, -, -, -, -, -, -, -, undrained, -⟩ := endsIn_arbitrate x
      rw [← made, ← List.map_eq_nil_iff (f := QueueEntry.undrained), undrained, same, List.map_eq_nil_iff]
    by_cases empty : v.queue.entries = []
    · rw [if_pos empty] at ht
      have still := ends w.requestSeal (by rw [← hw]; exact queue) ht
      have sealed := arbitrate_writeRequest w.requestSeal
      rw [← ht, arbitrate_engineIdle (by rw [requestSeal_engine, wengine]; rfl), requestSeal_engine, wengine, sealed, ht]
      refine ⟨rfl, fun _ => ⟨by rw [← ht]; simp [State.requestSeal, State.requestWrite], ?_⟩, fun some => absurd (still.2 (by rwa [queue] at empty)) some⟩
      rw [← header, ← hw]
      rfl
    · rw [if_neg empty] at ht
      have still := ends w (by rw [← hw]; exact queue) ht
      rw [← ht, arbitrate_engineIdle (by rw [wengine]; rfl), wengine, ht]
      refine ⟨rfl, fun none => absurd (still.1 none) (by rwa [queue] at empty), fun _ => ?_⟩
      rw [← ht, ← hw]
      simp [ctl, rolling]
  · have unsettled : v.settled = false := by
      rw [Bool.eq_false_iff, ne_eq, settled]
      rintro ⟨free, -, closed⟩
      rcases busy with reads | going
      · simp [closed] at reads
      · exact going free
    rw [rollbackTest_waits unsettled (by rw [engine]; exact undone)] at ht
    rw [← ht, arbitrate_engineIdle (by rw [engine]; exact idle), engine]
    exact ⟨by simp [ctl, rolling], idle⟩

/-- OPEN's being left touches no GUARDED read (R96, R143). -/
theorem guardedReadOpen_overtaken {s u : State} (host : u.host = s.writeOvertaken.host) : u.guardedReadOpen = s.guardedReadOpen := by
  unfold State.guardedReadOpen
  rw [host, State.writeOvertaken]
  cases hc : s.host.cycle with
  | none => simp [hc]
  | some c =>
    cases write : c.write with
    | false => simp [write, hc]
    | true =>
      cases s.host.beat with
      | none => cases portion : s.host.portion <;> simp [write, portion]
      | some b => cases portion : s.host.portion <;> simp [State.closed, write]

/-- What is in flight after a stop (R25, R31). -/
theorem captureStopped_idle {s : State} (inFlight : s.inFlight) :
    s.captureStopped.capture.phase = .idle ↔ s.captureStopped.capture.granule = none := by
  rw [captureStopped_capture]
  split
  · exact ⟨fun _ => rfl, fun _ => rfl⟩
  · have both : s.capture.phase = .idle ↔ s.capture.granule = none := by
      refine ⟨inFlight.1, fun none => by_contra fun busy => ?_⟩
      obtain ⟨e, -, -, granule⟩ := inFlight.2 busy
      rw [none] at granule
      cases granule
    split <;> exact both

/-- Settles O43. -/
theorem rollbackBeginsSettling : Obligations.RollbackBeginsSettling := by
  intro s kept n consistent lawful reset low opened free below intact is
  obtain ⟨-, -, -, engineAgrees, -, -, -, -, -, inFlight, -⟩ := consistent
  have idle : s.engine.phase = .idle := by_contra fun busy => by
    rcases engineAgrees busy with ⟨-, -, rolling | halted⟩ | ⟨-, recovering | halted⟩ <;> simp_all [DeviceState.stopped]
  have runs : exec .rollback s = .next (State.settle s ((s.edge .rollback).takeRequest .rollback)) := by
    rw [exec_edge (op := .rollback) (by simp [edgeCommands]) reset low, risingEdge_taken .rollback opened free]
  have taken : (s.edge .rollback).takeRequest .rollback = (s.edge .rollback).takeRollback :=
    (if_neg (by exact below)).trans (if_pos (by exact intact))
  obtain ⟨u, hu⟩ : ∃ u, (s.edge .rollback).takeRollback = u := ⟨_, rfl⟩
  have same : s.captureStopped.capture.granule = kept := by rw [captureStopped_granule, is]
  have unit : (s.edge .rollback).captureStopped.capture = s.captureStopped.capture := by
    rw [captureStopped_capture, captureStopped_capture]; rfl
  obtain ⟨pins, mem, dec, link, events, header, ctl, capture, engine, queue, table, host⟩ := takeRollback_makes
    (s := s.edge .rollback) lawful inFlight intact (kept := kept) (by rw [unit]; exact same) hu
  rw [unit] at capture
  obtain ⟨t, ht⟩ : ∃ t, State.settle s u = t := ⟨_, rfl⟩
  have rolling : u.ctl.state = .rollingBack := by rw [ctl]
  have ends : u.releaseRead.endsIn t := by
    rw [← ht, settle_rolling s rolling]
    exact endsIn_trans (endsIn_rollbackTest _) (endsIn_arbitrate _)
  obtain ⟨tpins, tmem, tdec, ttable, tlink, tevents, -, -, tqueue, undrained, tctl, state, theader, thost, ttail, busy, -, -⟩ := ends
  simp only [releaseRead_keeps] at tpins tmem tdec ttable tlink tevents tqueue undrained tctl state theader ttail busy
  have granted : t.capture = u.capture ∨ t.capture = { u.capture with granted := true } := by
    have := arbitrate_capture u.releaseRead.rollbackTest
    rw [← settle_rolling s rolling, ht] at this
    simpa using this
  have tgranule : t.capture.granule = kept := by
    rw [← same, ← capture]
    rcases granted with h | h <;> rw [h]
  have portion : u.guardedReadOpen = s.guardedReadOpen := guardedReadOpen_overtaken (host.trans (writeOvertaken_congr rfl))
  have settled : kept = none → u.capture.phase = .idle ∧ capturingCount u.table.entries = 0 := by
    rintro rfl
    refine ⟨by rw [capture]; exact (captureStopped_idle inFlight).2 same, ?_⟩
    rw [table]
    simp +contextual [capturingCount, List.countP_eq_zero]
  have utail : u.capture.tail = s.capture.tail := by
    rw [capture, captureStopped_capture]
    split
    · rfl
    · split <;> rfl
  have host := host.trans (writeOvertaken_congr (v := s) rfl)
  obtain ⟨walks, done, waits⟩ := settle_rollbackBegun (n := n) rolling (by rw [engine]; exact idle) (by rw [engine]) ht
  refine ⟨t, by rw [runs, taken, hu, ht], tmem.trans mem, tdec.trans dec, tlink.trans link, tevents.trans events, tpins.trans pins,
    ?_, ?_, ?_, ?_, ?_, ttable.trans table, ?_, tgranule, ?_, ?_, ?_, ?_, ?_, ?_, ?_, ?_, ?_⟩
  · rw [tctl, ctl]; rfl
  · exact state.imp (fun h => h.trans rolling) And.right
  · rw [undrained, queue]
    have keeps : staysInRollback = fun e => decide (e.cls ≠ .guarded ∨ e.draining = true) := by
      funext e
      cases h : e.draining <;> simp [staysInRollback, h, bne, Bool.beq_eq_decide_eq]
    rw [keeps]; rfl
  · rw [tqueue, queue]; rfl
  · rw [tqueue, queue]; rfl
  · rw [ttail, utail]
  · intro writing
    rw [capture, captureStopped_capture] at granted
    simp only [writing, reduceCtorEq, false_and, if_false] at granted
    rcases granted with h | h
    · rw [h]
    · rw [h]; simp only [writing]
  · intro reading grantedRead
    rw [capture, captureStopped_capture] at granted
    simp only [reading, grantedRead, reduceCtorEq, and_false, if_false, if_true] at granted
    rcases granted with h | h <;> rw [h] <;> simp only [reading, grantedRead]
  · rw [theader, header]; rfl
  · rw [theader, header]; rfl
  · intro closed none tail
    obtain ⟨free, empty⟩ := settled none
    rw [walks (by rw [portion]; exact closed) free empty (by rw [utail]; exact tail), engine]
    rfl
  · intro closed none tail
    obtain ⟨free, empty⟩ := settled none
    obtain ⟨stopped, sealed, held⟩ := done (by rw [portion]; exact closed) free empty (by rw [utail]; exact tail)
    rw [engine] at stopped
    rw [header] at sealed
    exact ⟨stopped, sealed, held⟩
  · rw [portion] at waits
    refine fun open_ => waits (open_.imp_right fun some free => some ?_)
    rw [← same]
    exact (captureStopped_idle inFlight).1 (by rw [← capture]; exact free)
  · intro quiet
    have beat : u.host.beat = none := by
      rw [host]
      rcases writeOvertaken_host s with none | ⟨same, read⟩
      · exact none
      · rw [same]
        refine quiet.resolve_right fun write => ?_
        obtain ⟨c, hc, write⟩ := Option.map_eq_some_iff.1 write
        rw [read c hc] at write
        cases write
    obtain ⟨-, -, -, -, -, -, -, -, -, -, -, -, -, kept, -⟩ := settle_endsIn s (rests_of_noBeat beat)
    rw [ht, host] at kept
    exact kept
  · intro c hc b hb read
    have same : u.host = s.host := by rw [host, State.writeOvertaken, hc]; exact congrArg State.host (if_pos read)
    obtain ⟨waits, released⟩ := settle_rollingRead rolling ht (by rw [same]; exact hc) (by rw [same]; exact hb) read
    rw [same] at waits
    refine ⟨waits, fun reason unmatched free => ?_, fun reason unmatched taken => ?_⟩
    · obtain ⟨releases, run⟩ := released reason unmatched
      obtain ⟨ends, covers⟩ := releases.1 (by rw [same]; exact free)
      obtain ⟨-, -, -, -, -, -, -, -, -, -, -, -, -, kept, -⟩ := ends
      rw [← run] at covers kept
      refine ⟨kept.trans ?_, covers⟩
      simp only [State.readRequested, State.held, setHost_host, same]
    · obtain ⟨releases, -⟩ := released reason unmatched
      obtain ⟨-, -, -, -, -, -, -, -, -, -, -, -, -, kept, -⟩ := releases.2 (by rw [same]; exact taken)
      refine kept.trans ?_
      simp only [State.held, setHost_host, same]

end Sys2Proof.Machine
end

section
/-! The header writes that open an epoch, and the request taken there (sections 5.1, 5.4, 6.4, 7.6, 11.3). -/

namespace Sys2Proof.Machine

/-! ### Events with an empty queue and an empty table -/

/-- Nothing a held beat waits for has come about (R39, R62). -/
theorem reoffer_quiet {before u : State} (entries : u.queue.entries = before.queue.entries)
    (few : capturingCount before.table.entries = 0) : State.reoffer before u = u := by
  cases hb : u.host.beat with
  | none => unfold State.reoffer; rw [hb]; split <;> simp_all
  | some b =>
    refine reoffer_notDue hb (Bool.eq_false_iff.2 fun due => ?_)
    rcases (offerDue_iff before u b).1 due with ⟨-, moved⟩ | ⟨-, eight, -⟩
    · exact moved entries
    · omega

/-- Such an event ends with its read's release, its tests and a grant. -/
theorem settle_quiet {before u : State} (empty : u.queue.entries = []) (emptyBefore : before.queue.entries = [])
    (none : capturingCount u.table.entries = 0) (noneBefore : capturingCount before.table.entries = 0) :
    State.settle before u = u.releaseRead.commitTest.rollbackTest.arbitrate := by
  obtain ⟨y, hy⟩ : ∃ y, u.releaseRead.commitTest.rollbackTest = y := ⟨_, rfl⟩
  have table : y.table = u.table := by rw [← hy]; simp
  have queue : y.queue = u.queue := by rw [← hy]; simp
  have grantedTable : y.arbitrate.table = u.table := by rw [(arbitrate_keeps y).2.2.2.1, table]
  have granted : y.arbitrate.queue.entries = y.queue.entries := by
    obtain ⟨-, -, -, -, -, -, -, -, -, undrained, -⟩ := endsIn_arbitrate y
    rw [queue, empty] at undrained ⊢
    exact List.map_eq_nil_iff.1 undrained
  rw [State.settle, reoffer_quiet (by rw [empty, emptyBefore]) noneBefore, takeCapture_none (by simpa using none), hy,
    State.grantAndOffer, reoffer_quiet granted (by rw [table]; exact none), takeCapture_none (by rw [grantedTable]; exact none)]

/-- Out of OPEN no beat stirs where the queue stays as it is (R62, R69, R143). -/
theorem lawful_rests {s u : State} (lawful : s.Lawful) (closed : s.ctl.state ≠ .opened) (host : u.host = s.host)
    (entries : u.queue.entries = s.queue.entries) : u.rests := by
  intro c hc b hb
  rw [host] at hc hb
  have read : c.write = false := by
    cases write : c.write with
    | false => rfl
    | true => exact absurd (lawful.heldWrite c hc write (Option.isSome_iff_exists.2 ⟨b, hb⟩)) closed
  refine ⟨read, fun reason => ?_⟩
  have := lawful_partlyCovered lawful hc hb read reason
  rwa [PostingQueue.matching, entries]

/-! ### A request remembered, taken as an epoch opens -/

/-- A request taken is remembered no more (R78). -/
theorem takesNext_forgets (u : State) (op : Operation) : (u.takesNext op).ctl.remembered = none := by
  unfold State.takesNext
  cases op with
  | illegal => rfl
  | flush => dsimp only; split <;> rfl
  | commit =>
    dsimp only
    split
    · simp [State.answers]
    · simp
  | rollback =>
    dsimp only
    split
    · simp [State.answers]
    · rfl

/-- With nothing remembered nothing is taken (R78). -/
theorem takeRemembered_none {u : State} (h : u.ctl.remembered = none) : u.takeRemembered = u := by
  unfold State.takeRemembered
  rw [h]

/-- A request touches neither memory nor decoder (R83, R86, R92). -/
theorem takesNext_keeps (u : State) (op : Operation) : (u.takesNext op).mem = u.mem ∧ (u.takesNext op).dec = u.dec := by
  unfold State.takesNext
  cases op with
  | illegal => exact ⟨rfl, rfl⟩
  | flush => dsimp only; split <;> exact ⟨rfl, rfl⟩
  | commit =>
    dsimp only
    split
    · simp [State.answers]
    · simp
  | rollback =>
    dsimp only
    split
    · simp [State.answers]
    · exact ⟨rfl, rfl⟩

/-- An epoch has just opened, nothing of it standing, with no request in hand (R20, R89). -/
structure State.justOpened (u : State) : Prop where
  state : u.ctl.state = .opened
  free : u.ctl.pendingRequest = none
  queue : u.queue.entries = []
  table : u.table = ⟨[], 0, some .intact, false⟩
  tail : u.capture.tail = 0
  capture : u.capture.phase = .idle ∧ u.capture.granule = none
  engine : u.engine.phase = .idle

section Opening

variable {s u t : State} {op : Operation}

/-- What an event that takes a request then ends with (R78). -/
theorem settle_opening (new : u.justOpened) (empty : s.queue.entries = []) (few : capturingCount s.table.entries = 0)
    (ht : State.settle s (u.takesNext op) = t) :
    t = (u.takesNext op).releaseRead.commitTest.rollbackTest.arbitrate ∧ t.ctl.remembered = none ∧ t.mem = u.mem ∧ t.dec = u.dec
      ∧ t.table = u.table ∧ t.queue.entries = [] ∧ t.events = (u.takesNext op).events := by
  have tests := tests_takesNext u op
  obtain ⟨mem, dec⟩ := takesNext_keeps u op
  have entries : (u.takesNext op).queue.entries = [] := by rw [tests.queue]; exact new.queue
  rw [settle_quiet entries empty (by rw [tests.table, new.table]; rfl) few] at ht
  obtain ⟨y, hy⟩ : ∃ y, (u.takesNext op).releaseRead.commitTest.rollbackTest = y := ⟨_, rfl⟩
  have ends : (u.takesNext op).releaseRead.endsIn t := by
    rw [← ht]
    exact endsIn_trans (endsIn_trans (endsIn_commitTest _) (endsIn_rollbackTest _)) (endsIn_arbitrate _)
  obtain ⟨-, tmem, tdec, table, -, events, -, -, -, undrained, ctl, -⟩ := ends
  simp only [releaseRead_keeps] at tmem tdec table events undrained ctl
  refine ⟨ht.symm, ?_, tmem.trans mem, tdec.trans dec, table.trans tests.table, ?_, events⟩
  · rw [ctl]; exact takesNext_forgets u op
  · rw [entries] at undrained
    exact List.map_eq_nil_iff.1 undrained

/-- Where it leaves the device OPEN, the tests find nothing to do (R86, R97). -/
theorem settle_openingStays (made : t = (u.takesNext op).releaseRead.commitTest.rollbackTest.arbitrate)
    (opened : (u.takesNext op).ctl.state = .opened) : t.ctl = (u.takesNext op).ctl := by
  rw [made, commitTest_elsewhere (by simp [opened]), rollbackTest_elsewhere (by simp [opened])]
  simp

/-- A FLUSH of an empty queue and an illegal operation are answered at once (R83, R92). -/
theorem takesNext_atOnce (empty : u.queue.entries = []) (kind : op = .illegal ∨ op = .flush) :
    u.takesNext op = (u.setCtl { u.ctl with remembered := none }).answers op (if op = .flush then .ok else .refused) := by
  rcases kind with rfl | rfl
  · rfl
  · unfold State.takesNext
    rw [empty]
    rfl

/-- At the epoch limit a COMMIT and a ROLLBACK are refused (R85). -/
theorem takesNext_atLimit (limit : u.epochNumber = 281474976710655#48) (kind : op = .commit ∨ op = .rollback) :
    u.takesNext op = ((u.setCtl { u.ctl with remembered := none }).answers op .refused).raise .epochLimit u.epochNumber
      (0x01#8 ++ 0#8 ++ 0#8 ++ op.code) := by
  rcases kind with rfl | rfl <;> exact if_pos limit

/-- A request that is not carried out is answered, and the device stays OPEN (R83, R85, R92). -/
theorem takesAtOpening_answered (new : u.justOpened) (empty : s.queue.entries = []) (few : capturingCount s.table.entries = 0)
    (ht : State.settle s (u.takesNext op) = t) (answered : (op = .illegal ∨ op = .flush) ∨ u.epochNumber = 281474976710655#48) :
    u.takesAtOpening op t := by
  obtain ⟨made, remembered, mem, dec, table, queue, events⟩ := settle_opening new empty few ht
  refine ⟨remembered, mem, dec, table, queue, fun kind => ?_, fun kind => ⟨fun limit => ?_, fun below => ?_⟩⟩
  · have next := takesNext_atOnce new.queue kind
    rw [settle_openingStays made (by rw [next]; exact new.state), events, next]
    exact ⟨rfl, rfl⟩
  · have next := takesNext_atLimit limit kind
    rw [settle_openingStays made (by rw [next]; simp [State.answers, new.state]), events, next]
    refine ⟨by simp [State.answers], raise_congr (by rfl) _ _ _⟩
  · rcases answered with other | limit
    · rcases kind with rfl | rfl <;> simp at other
    · exact absurd limit below

/-- A COMMIT finds nothing to wait for (R86, R87). -/
theorem takesAtOpening_commit (new : u.justOpened) (empty : s.queue.entries = []) (few : capturingCount s.table.entries = 0)
    (below : u.epochNumber ≠ 281474976710655#48) (ht : State.settle s (u.takesNext .commit) = t) :
    u.takesAtOpening .commit t := by
  obtain ⟨made, remembered, mem, dec, table, queue, events⟩ := settle_opening new empty few ht
  have next : u.takesNext .commit = ((u.setCtl { u.ctl with remembered := none }).setCtl { u.ctl with
      remembered := none, state := .draining, phase := .working, pendingRequest := some ⟨.commit, false⟩ }).writeOvertaken :=
    if_neg below
  obtain ⟨x, hx⟩ : ∃ x, u.takesNext .commit = x := ⟨_, rfl⟩
  have tests := tests_takesNext u .commit
  rw [hx] at made events next tests
  have ctl : x.ctl = { u.ctl with remembered := none, state := .draining, phase := .working, pendingRequest := some ⟨.commit, false⟩ } := by
    rw [next]; simp
  have ready : x.releaseRead.commitReady = true := by
    have entries : x.queue.entries = [] := by rw [tests.queue]; exact new.queue
    simp [State.commitReady, ctl, tests.table, tests.capture, entries, new.table, new.capture.1, capturingCount]
  rw [State.commitTest, if_pos ready, rollbackTest_elsewhere (by simp [State.requestSeal, State.requestWrite])] at made
  refine ⟨remembered, mem, dec, table, queue, fun kind => by simp at kind, fun _ => ⟨fun limit => absurd limit below, fun _ =>
    ⟨?_, ?_, fun _ => ?_⟩⟩⟩
  · obtain ⟨-, -, -, -, -, -, -, -, -, -, -, kept, -⟩ := writeOvertaken_keeps ((u.setCtl { u.ctl with remembered := none }).setCtl
      { u.ctl with remembered := none, state := .draining, phase := .working, pendingRequest := some ⟨.commit, false⟩ })
    rw [← next] at kept
    exact events.trans kept
  · obtain ⟨-, -, -, -, kept, -⟩ := arbitrate_keeps x.releaseRead.requestSeal
    rw [← made] at kept
    have sealing : t.ctl = { x.ctl with state := .sealing } := by
      rw [kept, ← (releaseRead_keeps x).2.2.2.2.2.2.1]; rfl
    rw [sealing, ctl]
    rfl
  · rw [made, arbitrate_writeRequest]
    simp [State.requestSeal, State.requestWrite, tests.header]

/-- The controller as a ROLLBACK is carried out (R94). -/
theorem takeRollback_ctl (s : State) : s.takeRollback.ctl
    = { s.ctl with state := .rollingBack, phase := .working, pendingRequest := some ⟨.rollback, false⟩ } := by
  unfold State.takeRollback
  dsimp only
  rw [setEngine_ctl, leaveOpen_eq, (writeOvertaken_keeps _).2.2.2.2.2.2.1,
    ((capturesEnd_stopCapture _).trans (capturesEnd_cancelWaiting _)).ctl]
  rfl

/-- A ROLLBACK of an empty log is settled at once, unless a GUARDED read is open (R94, R96, R97, R104). -/
theorem takesAtOpening_rollback (new : u.justOpened) (below : u.epochNumber ≠ 281474976710655#48)
    (ht : State.settle s (u.setCtl { u.ctl with remembered := none }).takeRollback = t) : u.takesAtOpening .rollback t := by
  obtain ⟨x, hx⟩ : ∃ x, (u.setCtl { u.ctl with remembered := none }).takeRollback = x := ⟨_, rfl⟩
  have granule : (u.setCtl { u.ctl with remembered := none }).captureStopped.capture.granule = none := by
    rw [captureStopped_granule]
    exact (if_neg fun reading => by cases new.capture.1.symm.trans reading.1).trans new.capture.2
  obtain ⟨pins, mem, dec, link, events, header, ctl, capture, engine, queue, table, host⟩ := takeRollback_makes
    (s := u.setCtl { u.ctl with remembered := none }) (kept := none) (by
      show u.table.lawful
      rw [new.table]
      exact ⟨by decide, List.nodup_nil, by decide, rfl⟩) (inFlight_idle new.capture.1 new.capture.2) (by
      show u.table.status = _
      rw [new.table]) granule hx
  rw [hx] at ht
  have rolling : x.ctl.state = .rollingBack := by rw [ctl]
  have entries : x.queue.entries = [] := by
    rw [queue]
    show u.queue.entries.filter staysInRollback = []
    rw [new.queue]; rfl
  have xtable : x.table = u.table := by
    rw [table]
    show ({ u.table with
      entries := u.table.entries.filter fun e => e.state = .logged ∨ (none : Option Nat) = some e.granule
      reservations := 0 } : GranuleTable) = _
    rw [new.table]; rfl
  have released := settle_rolling s rolling
  have ends : x.releaseRead.endsIn t := by
    rw [← ht, released]
    exact endsIn_trans (endsIn_rollbackTest _) (endsIn_arbitrate _)
  obtain ⟨-, tmem, tdec, ttable, -, tevents, -, -, -, undrained, tctl, -⟩ := ends
  simp only [releaseRead_keeps] at tmem tdec ttable tevents undrained tctl
  rw [entries] at undrained
  have tentries := List.map_eq_nil_iff.1 undrained
  have portion : x.guardedReadOpen = u.guardedReadOpen := guardedReadOpen_overtaken (host.trans (writeOvertaken_congr rfl))
  have unit : x.capture = u.capture := by
    rw [capture, captureStopped_capture]
    exact (if_neg fun reading => by cases new.capture.1.symm.trans reading.1).trans
      (if_neg fun reading => by cases new.capture.1.symm.trans reading)
  obtain ⟨-, done, waits⟩ := settle_rollbackBegun (n := 0) rolling (by rw [engine]; exact new.engine) (by rw [engine]) ht
  refine ⟨by rw [tctl, ctl]; rfl, tmem.trans mem, tdec.trans dec, ttable.trans xtable, tentries, fun kind => by simp at kind, fun _ =>
    ⟨fun limit => absurd limit below, fun _ => ⟨tevents.trans events, ?_, fun open_ => ?_⟩⟩⟩
  · rw [tctl, ctl]
    cases open_ : u.guardedReadOpen with
    | true =>
      obtain ⟨state, -⟩ := waits (.inl (by rw [portion]; exact open_))
      rw [state]; rfl
    | false =>
      obtain ⟨-, sealed, -⟩ := done (by rw [portion]; exact open_) (by rw [unit]; exact new.capture.1)
        (by rw [xtable, new.table]; rfl) (by rw [unit]; exact new.tail)
      rw [(sealed tentries).1]; rfl
  · obtain ⟨-, sealed, -⟩ := done (by rw [portion]; exact open_.resolve_left (by decide)) (by rw [unit]; exact new.capture.1)
        (by rw [xtable, new.table]; rfl) (by rw [unit]; exact new.tail)
    rw [(sealed tentries).2, header]; rfl

/-- What the remembered request does as the epoch opens (R78). -/
theorem settle_takeRemembered (new : u.justOpened) (empty : s.queue.entries = []) (few : capturingCount s.table.entries = 0)
    (remembered : op ∈ u.ctl.remembered) :
    u.takesAtOpening op (State.settle s u.takeRemembered) ∧ u.takeRemembered.ctl.remembered = none
      ∧ u.takeRemembered.ctl.state ≠ .parking := by
  by_cases carried : op = .rollback ∧ u.epochNumber ≠ 281474976710655#48
  · obtain ⟨rfl, below⟩ := carried
    have taken : u.takeRemembered = (u.setCtl { u.ctl with remembered := none }).takeRollback := by
      unfold State.takeRemembered
      rw [Option.mem_def.1 remembered]
      refine (if_pos ⟨new.state, new.free⟩).trans ((if_neg (by exact below)).trans (if_pos ?_))
      show u.table.status = some .intact
      rw [new.table]
    rw [taken]
    refine ⟨takesAtOpening_rollback new below rfl, ?_⟩
    rw [takeRollback_ctl]
    exact ⟨rfl, fun parking => by cases parking⟩
  · have next : u.takeRemembered = u.takesNext op := takeRemembered_eq remembered new.state new.free (by
      by_cases rollback : op = .rollback
      · exact .inr (.inl (by_contra fun below => carried ⟨rollback, below⟩))
      · exact .inl rollback)
    rw [next]
    refine ⟨?_, takesNext_forgets u op, ?_⟩
    · by_cases answered : (op = .illegal ∨ op = .flush) ∨ u.epochNumber = 281474976710655#48
      · exact takesAtOpening_answered new empty few rfl answered
      · obtain ⟨other, below⟩ := not_or.1 answered
        have commit : op = .commit := by cases op <;> simp_all
        rw [commit]
        exact takesAtOpening_commit new empty few below rfl
    · rcases (tests_takesNext u op).host with ⟨-, state⟩ | ⟨-, state⟩
      · rw [state, new.state]; decide
      · rw [state]; decide

end Opening

/-! ### The seal of a commit or a rollback -/

/-- What effects 1 to 3 of R89 make of the blocks that a request looks at. -/
theorem applySeal_makes (s : State) (w : WriteRequest) (h : HeaderRecord) :
    (s.applySeal w h).queue = s.queue ∧ (s.applySeal w h).host = s.host ∧ (s.applySeal w h).engine = s.engine
      ∧ (s.applySeal w h).capture = { s.capture with tail := 0 } ∧ (s.applySeal w h).table = ⟨[], 0, some .intact, false⟩
      ∧ (s.applySeal w h).ctl = { s.ctl with epoch := some h.epoch } := by
  cases took : w.wrotePending with
  | false => rw [applySeal_kept h took]; simp [State.newEpoch, State.headerWritten]
  | true => rw [applySeal_took h took]; simp [State.newEpoch, State.headerWritten, State.configuredBy]

section HeaderWrite

variable {s : State} {o : MemOp} {w : WriteRequest} {h : HeaderRecord} {r : Request} {result : EpochResult}

/-- A header write completes outside PARKED (R132). -/
theorem headerWrite_runs (underway : s.completing .headerWrite = .underway o) (going : s.ctl.state ≠ .parking)
    (consistent : s.consistent) : s.ctl.state.stopped = false := by
  obtain ⟨-, -, -, -, -, -, -, -, -, -, ⟨-, parked, -⟩, -⟩ := consistent
  obtain ⟨op, -⟩ := completing_underway.1 underway
  cases state : s.ctl.state <;> try rfl
  · exact absurd state going
  · rw [(parked state).1] at op; cases op

/-- Every header write but the mark finds captures and engine at rest (R52, R86, R97). -/
theorem headerWrite_quiet (underway : s.completing .headerWrite = .underway o) (going : s.ctl.state ≠ .parking)
    (consistent : s.consistent) (request : s.header.writeRequest = some w) (kind : w.kind ≠ .mark) :
    s.ctl.state ∈ w.kind.state ∧ s.engine.phase = .idle ∧ s.capture.phase = .idle ∧ s.capture.granule = none
      ∧ capturingCount s.table.entries = 0 := by
  have running := headerWrite_runs underway going consistent
  obtain ⟨-, -, writeAgrees, -, -, -, -, -, -, inFlight, -⟩ := consistent
  obtain ⟨state, -, rests⟩ := writeAgrees w request
  obtain ⟨engine, capture, few⟩ := rests kind
  exact ⟨state.resolve_right (by simp [running]), engine, capture, inFlight.1 capture, few⟩

/-- The seal's completion, by its effects (R89). -/
theorem exec_sealComplete (underway : s.completing .headerWrite = .underway o) (going : s.ctl.state ≠ .parking)
    (request : s.header.writeRequest = some w) (kind : w.kind = .commitSeal) (content : w.content = some h)
    (results : s.sealResult = result) : exec .sealComplete s = .next (State.afterCompletion s
      (((((s.ended o).applySeal w h).entering .opened).reachResult result).takeRemembered)) := by
  refine onHeaderWrite_completes (· == .commitSeal) State.takeSeal underway request (by rw [kind]; rfl) ?_
  unfold State.takeSeal
  dsimp only
  rw [WriteRequest.header_eq content, if_neg]
  · rw [show (s.ended o).sealResult = result from results]; rfl
  · rw [(applySeal_makes ..).2.2.2.2.2]
    exact going

/-- The result of the operation whose seal completes (R90, R105). -/
theorem sealResult_eq (pending : s.ctl.pendingRequest = some r)
    (results : r.op ≠ .rollback ∧ result = .ok ∨ r.op = .rollback ∧ s.engine.damaged = 0 ∧ result = .ok
        ∨ r.op = .rollback ∧ s.engine.damaged ≠ 0 ∧ result = .partly) : s.sealResult = result := by
  unfold State.sealResult
  rw [pending]
  obtain ⟨op, abandoned⟩ := r
  rcases results with ⟨other, rfl⟩ | ⟨rfl, clean, rfl⟩ | ⟨rfl, damaged, rfl⟩
  · cases op <;> first | rfl | exact absurd rfl other
  · exact if_pos clean
  · exact if_neg damaged

/-- A seal that finds no request remembered (R79, R80, R89). -/
theorem seal_settles (underway : s.completing .headerWrite = .underway o) (going : s.ctl.state ≠ .parking)
    (request : s.header.writeRequest = some w) (kind : w.kind = .commitSeal) (pending : s.ctl.pendingRequest = some r)
    (forgotten : s.ctl.remembered = none) :
    s.settlesIn ((((s.ended o).applySeal w h).entering .opened).reached r result) (State.afterCompletion s
      (((((s.ended o).applySeal w h).entering .opened).reachResult result).takeRemembered)) := by
  obtain ⟨queue, host, -, -, -, ctl⟩ := applySeal_makes (s.ended o) w h
  obtain ⟨v, hv⟩ : ∃ v, ((s.ended o).applySeal w h).entering .opened = v := ⟨_, rfl⟩
  have vctl : v.ctl = { s.ctl with epoch := some h.epoch, state := .opened } := by rw [← hv]; simp [State.entering, ctl]
  rw [hv, reachResult_eq result (by rw [vctl]; exact pending) (by rw [vctl]; exact .inr forgotten)]
  have reached : (v.reached r result).ctl.remembered = none ∧ (v.reached r result).ctl.state = .opened
      ∧ (v.reached r result).host = v.host ∧ (v.reached r result).queue = v.queue := by
    unfold State.reached
    split
    · simp [State.recorded, vctl, forgotten]
    · simp [State.answers, vctl, forgotten]
  obtain ⟨remembered, state, vhost, vqueue⟩ := reached
  rw [takeRemembered_none remembered, afterCompletion_settle (by rw [state]; decide)]
  refine settlesIn_of rfl fun lawful => lawful_rests lawful ?_ ?_ ?_
  · have running := (headerWrite_quiet underway going lawful.consistent request (by rw [kind]; decide)).1
    rw [kind] at running
    simp only [WriteKind.state, List.mem_singleton] at running
    rw [running]; decide
  · rw [vhost, ← hv]; exact host
  · rw [vqueue, ← hv]; exact congrArg PostingQueue.entries queue

/-- A seal that finds one remembered behind an abandoned request (R78, R80, R89). -/
theorem seal_takes {op : Operation} (underway : s.completing .headerWrite = .underway o) (going : s.ctl.state ≠ .parking)
    (request : s.header.writeRequest = some w) (kind : w.kind = .commitSeal) (pending : s.ctl.pendingRequest = some r)
    (remembered : op ∈ s.ctl.remembered) (abandoned : r.abandoned = true) (consistent : s.consistent) (empty : s.queue.entries = []) :
    ((((s.ended o).applySeal w h).entering .opened).recorded r.op result).takesAtOpening op (State.afterCompletion s
      (((((s.ended o).applySeal w h).entering .opened).reachResult result).takeRemembered)) := by
  obtain ⟨queue, host, engine, capture, table, ctl⟩ := applySeal_makes (s.ended o) w h
  obtain ⟨-, idle, free, granule, few⟩ := headerWrite_quiet underway going consistent request (by rw [kind]; decide)
  obtain ⟨v, hv⟩ : ∃ v, ((s.ended o).applySeal w h).entering .opened = v := ⟨_, rfl⟩
  have vctl : v.ctl = { s.ctl with epoch := some h.epoch, state := .opened } := by rw [← hv]; simp [State.entering, ctl]
  have vqueue : v.queue = s.queue := by rw [← hv]; exact queue
  have vengine : v.engine = s.engine := by rw [← hv]; exact engine
  have vcapture : v.capture = { s.capture with tail := 0 } := by rw [← hv]; exact capture
  have vtable : v.table = ⟨[], 0, some .intact, false⟩ := by rw [← hv]; exact table
  have new : (v.recorded r.op result).justOpened := by
    constructor <;> simp [State.recorded, vctl, vqueue, vengine, vcapture, vtable, empty, idle, free, granule]
  obtain ⟨takes, forgets, runs⟩ := settle_takeRemembered (s := s) new empty few
    (by simpa [State.recorded, vctl] using remembered)
  rw [hv, reachResult_remembered result (by rw [vctl]; exact pending) abandoned, takeRemembered_none forgets,
    afterCompletion_settle runs]
  exact takes

end HeaderWrite

/-- Settles O51. -/
theorem sealOpensNextEpoch : Obligations.SealOpensNextEpoch := by
  intro s o w h r result underway going request kind content pending results
  have applied : w.wrotePending = true → (s.ended o).applySeal w h = ((((s.ended o).headerWritten w.target h).configuredBy h.config
      (if w.newer then s.header.pendingConfig else none)).raise .configApplied h.epoch
        (BitVec.ofNat 32 h.config.capacity.toNat)).newEpoch := applySeal_took h
  refine ⟨_, exec_sealComplete underway going request kind content (sealResult_eq pending results),
    fun forgotten kept => ?_, fun forgotten took => ?_, fun op remembered abandoned consistent empty kept => ?_,
    fun op remembered abandoned consistent empty took => ?_⟩
  · rw [← applySeal_kept h kept]
    exact seal_settles underway going request kind pending forgotten
  · rw [← applied took]
    exact seal_settles underway going request kind pending forgotten
  · rw [← applySeal_kept h kept]
    exact seal_takes underway going request kind pending remembered abandoned consistent empty
  · rw [← applied took]
    exact seal_takes underway going request kind pending remembered abandoned consistent empty

/-! ### The recovery seal -/

section RecoverySeal

variable {s : State} {o : MemOp} {w : WriteRequest} {h : HeaderRecord}

/-- The state that the port's end of a start-up finds (R124). -/
def State.recovered (s : State) (o : MemOp) (w : WriteRequest) (h : HeaderRecord) : State :=
  ((((s.ended o).headerWritten w.target h).newEpoch).raise .recoveryDone h.epoch (BitVec.ofNat 32 s.engine.restored)).entering .opened

/-- What of it a request looks at. -/
theorem recovered_keeps (s : State) (o : MemOp) (w : WriteRequest) (h : HeaderRecord) :
    (s.recovered o w h).pins = s.pins ∧ (s.recovered o w h).host = s.host ∧ (s.recovered o w h).queue = s.queue
      ∧ (s.recovered o w h).engine = s.engine ∧ (s.recovered o w h).capture = { s.capture with tail := 0 }
      ∧ (s.recovered o w h).table = ⟨[], 0, some .intact, false⟩
      ∧ (s.recovered o w h).ctl = { s.ctl with epoch := some h.epoch, state := .opened } := by
  simp [State.recovered, State.newEpoch, State.headerWritten, State.entering]

/-- The recovery seal's completion, by its effects (R124). -/
theorem exec_recoverySealComplete (underway : s.completing .headerWrite = .underway o) (going : s.ctl.state ≠ .parking)
    (request : s.header.writeRequest = some w) (kind : w.kind = .recoverySeal) (content : w.content = some h) :
    exec .recoverySealComplete s = .next (State.afterCompletion s (s.recovered o w h).endStartUp) := by
  refine onHeaderWrite_completes (· == .recoverySeal) State.takeRecoverySeal underway request (by rw [kind]; rfl) ?_
  have cleared : ((s.ended o).selectWritten w.target w.header).clearEpoch = ((s.ended o).headerWritten w.target h).newEpoch := by
    rw [WriteRequest.header_eq content, selectWritten_eq]; rfl
  unfold State.takeRecoverySeal
  rw [cleared]
  exact if_neg (by simpa using going)

end RecoverySeal

/-- Settles O52. -/
theorem recoverySealOpensEpoch : Obligations.RecoverySealOpensEpoch := by
  intro s o w h op underway going request kind content rfl
  obtain ⟨pins, host, queue, engine, capture, table, ctl⟩ := recovered_keeps s o w h
  have closed : s.Lawful → s.ctl.state ≠ .opened := fun lawful => by
    have state := (headerWrite_quiet underway going lawful.consistent request (by rw [kind]; decide)).1
    rw [kind] at state
    simp only [WriteKind.state, List.mem_singleton] at state
    rw [state]; decide
  have opened : (s.recovered o w h).ctl.state = .opened := by rw [ctl]
  refine ⟨_, exec_recoverySealComplete underway going request kind content, fun quiet forgotten => ?_, fun level fresh => ?_,
    fun asked remembered seen pending consistent => ?_⟩
  · have same : (s.recovered o w h).endStartUp = s.recovered o w h := by
      unfold State.endStartUp
      rw [if_neg, if_pos opened, takeRemembered_none (by rw [ctl]; exact forgotten)]
      rintro ⟨level, fresh⟩
      rw [pins] at level
      rw [ctl] at fresh
      rcases quiet with low | seen
      · simp [low] at level
      · rw [show s.ctl.lowSeen = false from fresh] at seen; cases seen
    rw [same, afterCompletion_settle (by rw [opened]; decide)]
    exact settlesIn_of rfl fun lawful => lawful_rests lawful (closed lawful) host (congrArg PostingQueue.entries queue)
  · have straddles : (s.recovered o w h).endStartUp = ((s.recovered o w h).raise .requestInterrupted h.epoch
        (0#8 ++ 0#8 ++ 0#8 ++ (Operation.ofEop s.pins.eop).code)).answers (Operation.ofEop s.pins.eop) .interrupted := by
      unfold State.endStartUp
      rw [if_pos ⟨by rw [pins]; exact level, by rw [ctl]; exact fresh⟩]
      dsimp only
      rw [if_pos opened, pins]
      rw [show (s.recovered o w h).epochNumber = h.epoch by rw [State.epochNumber, ctl]; rfl]
      rfl
    rw [straddles, afterCompletion_settle (by simp [State.answers, opened])]
    refine settlesIn_of rfl fun lawful => lawful_rests lawful (closed lawful) ?_ ?_
    · simp only [State.answers, setCtl_host, raise_keeps]
      exact host
    · simp only [State.answers, setCtl_queue, raise_keeps]
      exact congrArg PostingQueue.entries queue
  · obtain ⟨-, idle, free, granule, few⟩ := headerWrite_quiet underway going consistent request (by rw [kind]; decide)
    have state := (headerWrite_quiet underway going consistent request (by rw [kind]; decide)).1
    rw [kind] at state
    simp only [WriteKind.state, List.mem_singleton] at state
    obtain ⟨-, -, -, -, -, -, -, quietAgrees, -⟩ := consistent
    obtain ⟨-, -, -, -, empty⟩ := quietAgrees (.inr state)
    have new : (s.recovered o w h).justOpened := by
      constructor <;> simp [ctl, queue, engine, capture, table, pending, empty, idle, free, granule]
    have taken : (s.recovered o w h).endStartUp = (s.recovered o w h).takeRemembered := by
      unfold State.endStartUp
      rw [if_neg, if_pos opened]
      rintro ⟨-, fresh⟩
      rw [ctl] at fresh
      rw [show s.ctl.lowSeen = false from fresh] at seen
      cases seen
    obtain ⟨takes, -, runs⟩ := settle_takeRemembered (s := s) new empty few (by rw [ctl]; exact remembered)
    rw [taken, afterCompletion_settle runs]
    exact takes

/-! ### FORMAT's writes -/

/-- Out of OPEN, DRAINING and ROLLING_BACK an event ends with a grant alone. -/
theorem settle_elsewhere (before : State) {u : State}
    (elsewhere : u.ctl.state ∉ [DeviceState.opened, .draining, .rollingBack]) :
    State.settle before u = u.releaseRead.arbitrate := by
  simp only [List.mem_cons, List.not_mem_nil, or_false, not_or] at elsewhere
  obtain ⟨opened, draining, rolling⟩ := elsewhere
  have ctl := (releaseRead_keeps u).2.2.2.2.2.2.1
  have tested : u.releaseRead.tested = u.releaseRead := by
    rw [State.tested, takeCapture_outside (by rw [ctl]; exact ⟨opened, draining⟩), commitTest_elsewhere (by rw [ctl]; exact draining),
      rollbackTest_elsewhere (by rw [ctl]; exact rolling)]
  rw [settle_closed opened, tested]
  refine takeCapture_outside ?_
  rw [(arbitrate_keeps _).2.2.2.2.1, ctl]
  exact ⟨opened, draining⟩

/-- The clearing write is followed by the format write, granted at once (R158, R170). -/
theorem settle_clearing {s v : State} {number : BitVec 32} (formatting : v.ctl.state = .formatting) (idle : v.port.op = none)
    (size : v.size = s.size) (link : v.link = s.link)
    (request : v.header.writeRequest = some ⟨.formatWrite number, .a, false, none, false, false⟩) :
    v.arbitrate.header = { v.header with
      writeRequest := some ⟨.formatWrite number, .a, true, some ⟨false, 1, 1, number, s.link.staged⟩, false, false⟩ }
    ∧ v.arbitrate.port.op = some ⟨.headerWrite, (s.size - 512) / 4, 64,
        fullBeats (HeaderRecord.words ⟨false, 1, 1, number, s.link.staged⟩), 0⟩ := by
  have standing : v.standing .header = some ⟨.headerWrite, (s.size - 512) / 4, 64,
      fullBeats (HeaderRecord.words ⟨false, 1, 1, number, s.link.staged⟩), 0⟩ := by
    simp only [State.standing, request]
    rw [size, ← link]
    rfl
  rw [arbitrate_header idle (by rw [formatting]; decide) (by rw [formatting]; decide) standing]
  refine ⟨?_, rfl⟩
  simp only [State.grant, State.tellGranted, request]
  rw [← link]
  rfl

/-- Epoch 1 as the format write opens it (R170). -/
def State.formatted (s : State) (o : MemOp) (w : WriteRequest) (h : HeaderRecord) : State :=
  ((((s.ended o).headerWritten w.target h).configuredBy h.config none).newEpoch).entering .opened

/-- What of it a request looks at. -/
theorem formatted_keeps (s : State) (o : MemOp) (w : WriteRequest) (h : HeaderRecord) :
    (s.formatted o w h).host = s.host ∧ (s.formatted o w h).queue = s.queue
      ∧ (s.formatted o w h).engine = s.engine ∧ (s.formatted o w h).capture = { s.capture with tail := 0 }
      ∧ (s.formatted o w h).table = ⟨[], 0, some .intact, false⟩
      ∧ (s.formatted o w h).ctl = { s.ctl with epoch := some h.epoch, state := .opened } := by
  simp [State.formatted, State.newEpoch, State.headerWritten, State.configuredBy, State.entering]

/-- The format write's completion, by its effects (R170). -/
theorem exec_formatWriteComplete {s : State} {o : MemOp} {w : WriteRequest} {h : HeaderRecord} {number : BitVec 32}
    (underway : s.completing .headerWrite = .underway o) (formatting : s.ctl.state = .formatting)
    (request : s.header.writeRequest = some w) (kind : w.kind = .formatWrite number) (content : w.content = some h) :
    exec .formatWriteComplete s = .next (State.afterCompletion s (s.formatted o w h).takeRemembered) := by
  refine onHeaderWrite_completes WriteKind.isFormatWrite State.takeFormat underway request (by rw [kind]; rfl) ?_
  unfold State.takeFormat
  dsimp only
  rw [WriteRequest.header_eq content, selectWritten_eq, State.openUnlessParking, if_neg]
  · rfl
  · exact fun parking => by cases formatting.symm.trans parking

/-- Settles O53. -/
theorem formatWritesFollow : Obligations.FormatWritesFollow := by
  intro s o w h number underway formatting request
  obtain ⟨host, queue, engine, capture, table, ctl⟩ := formatted_keeps s o w h
  refine ⟨fun kind => ?_, fun kind content forgotten => ?_, fun kind content pending consistent op remembered => ?_⟩
  · have made : (s.ended o).takeClearing w = (((s.ended o).setHeader { s.header with
        surveyB := some ⟨.absent, none⟩, selected := none, writeRequest := none }).requestWrite (.formatWrite number) .a) := by
      unfold State.takeClearing
      dsimp only
      rw [if_neg (fun parking => by cases formatting.symm.trans parking), kind]
      rfl
    obtain ⟨u, hu⟩ : ∃ u, (((s.ended o).setHeader { s.header with
        surveyB := some ⟨.absent, none⟩, selected := none, writeRequest := none }).requestWrite (.formatWrite number) .a) = u := ⟨_, rfl⟩
    have state : u.ctl.state = .formatting := by rw [← hu]; exact formatting
    have runs := onHeaderWrite_settles WriteKind.isClearing State.takeClearing underway request (by rw [kind]; rfl) (made.trans hu)
      (by rw [state]; decide)
    rw [settle_elsewhere s (by rw [state]; decide)] at runs
    obtain ⟨-, vmem, vdec, -, -, -, vctl, -, vheader, vport, vlink, -⟩ := releaseRead_keeps u
    obtain ⟨header, port⟩ := settle_clearing (s := s) (v := u.releaseRead) (number := number) (by rw [vctl]; exact state)
      (by rw [vport, ← hu]; rfl) (by rw [State.size, vdec, ← hu]; rfl) (by rw [vlink, ← hu]; rfl) (by rw [vheader, ← hu]; rfl)
    refine ⟨_, runs, ?_, ?_, ?_, ?_, port⟩
    · rw [(arbitrate_keeps _).2.1, vmem, ← hu]; rfl
    · rw [header, vheader, ← hu]; rfl
    · rw [header, vheader, ← hu]; rfl
    · rw [header]
  · refine ⟨_, exec_formatWriteComplete underway formatting request kind content, ?_⟩
    rw [takeRemembered_none (by rw [ctl]; exact forgotten), afterCompletion_settle (by rw [ctl]; exact fun h => by cases h)]
    exact settlesIn_of rfl fun lawful => lawful_rests lawful (by rw [formatting]; decide) host (congrArg PostingQueue.entries queue)
  · obtain ⟨-, idle, free, granule, few⟩ := headerWrite_quiet underway (by rw [formatting]; decide) consistent request
      (by rw [kind]; exact fun h => by cases h)
    obtain ⟨-, -, -, -, -, -, -, quietAgrees, -⟩ := consistent
    obtain ⟨-, -, -, -, empty⟩ := quietAgrees (.inl (by rw [formatting]; rfl))
    have new : (s.formatted o w h).justOpened := by
      constructor <;> simp [ctl, queue, engine, capture, table, pending, empty, idle, free, granule]
    obtain ⟨takes, -, runs⟩ := settle_takeRemembered (s := s) new empty few (by rw [ctl]; exact remembered)
    refine ⟨_, exec_formatWriteComplete underway formatting request kind content, ?_⟩
    rw [afterCompletion_settle runs]
    exact takes

end Sys2Proof.Machine
end

section
/-! The rollback engine's reads and restores, and the end of a start-up (sections 6.3, 6.4, 7.3 to 7.6). -/

namespace Sys2Proof.Machine

/-! ### The port's end of a start-up in UNFORMATTED or FAULT -/

/-- The controller once a request that straddles the start-up, or one remembered, is answered REFUSED (R78, R81, R117). -/
def EpochController.startedUp (c : EpochController) (p : Pins) : EpochController :=
  if p.ereq = true ∧ c.lowSeen = false then c.refusing (Operation.ofEop p.eop)
  else match c.remembered with
    | some op => { c.refusing op with remembered := none }
    | none => c

/-- The end of a start-up outside OPEN touches the controller alone (R81, R117). -/
theorem endStartUp_closed {v : State} (closed : v.ctl.state ≠ .opened) : v.endStartUp = v.setCtl (v.ctl.startedUp v.pins) := by
  unfold State.endStartUp EpochController.startedUp
  split
  · rfl
  · cases remembered : v.ctl.remembered with
    | none => rfl
    | some op => rfl

/-- It is what the statements call its end. -/
theorem endsRefusing_of {s t : State} {c : EpochController} (ctl : t.ctl = c.startedUp s.pins) (seen : c.lowSeen = s.ctl.lowSeen)
    (remembered : c.remembered = s.ctl.remembered) : s.endsRefusing c t := by
  unfold EpochController.startedUp at ctl
  rw [seen, remembered] at ctl
  refine ⟨fun level fresh => ctl.trans (if_pos ⟨level, fresh⟩), fun quiet => ?_⟩
  have neither : ¬(s.pins.ereq = true ∧ s.ctl.lowSeen = false) := by
    rintro ⟨level, fresh⟩
    rcases quiet with low | high <;> simp_all
  rw [if_neg neither] at ctl
  exact ⟨fun none => by rw [ctl, none], fun op some => by rw [ctl, Option.mem_def.1 some]⟩

/-- It leaves the device state. -/
theorem startedUp_state (c : EpochController) (p : Pins) : (c.startedUp p).state = c.state ∧ (c.startedUp p).faultReason = c.faultReason := by
  unfold EpochController.startedUp
  split
  · exact ⟨rfl, rfl⟩
  · split <;> exact ⟨rfl, rfl⟩

/-! ### The end of recovery -/

/-- A recovery's end as its event ends (R122, R123). -/
theorem settle_endRecovery {before s u v t : State} (recovering : v.ctl.state = .recovering) (pins : v.pins = s.pins) (ctl : v.ctl = s.ctl)
    (header : v.header = s.header) (mem : v.mem = u.mem) (events : v.events = u.events) (restored : v.engine.restored = u.engine.restored)
    (ht : State.settle before v.endRecovery = t) : s.recoveryEnds u t ∧ t.engine = v.engine.toIdle := by
  obtain ⟨x, hx⟩ : ∃ x, v.endRecovery = x := ⟨_, rfl⟩
  rw [hx] at ht
  have quiet : x.engine = v.engine.toIdle → x.ctl.state ∉ [DeviceState.opened, .draining, .rollingBack] →
      t.engine = v.engine.toIdle ∧ t.mem = x.mem ∧ t.ctl = x.ctl ∧ t.events = x.events
        ∧ t.header = { x.header with writeRequest := t.header.writeRequest, readRequest := t.header.readRequest }
        ∧ t.header.writeRequest.map (fun w => (w.kind, w.target)) = x.header.writeRequest.map fun w => (w.kind, w.target) := by
    intro engine elsewhere
    obtain ⟨-, rmem, -, -, -, -, rctl, rengine, rheader, -, -, revents, -⟩ := releaseRead_keeps x
    obtain ⟨-, amem, -, -, actl, -, aevents, -⟩ := arbitrate_keeps x.releaseRead
    obtain ⟨-, -, -, -, -, -, -, -, -, -, -, -, aheader, -⟩ := endsIn_arbitrate x.releaseRead
    have idle := arbitrate_engineIdle (s := x.releaseRead) (by rw [rengine, engine]; rfl)
    have request := arbitrate_writeRequest x.releaseRead
    rw [settle_elsewhere before elsewhere] at ht
    rw [ht] at amem actl aevents aheader idle request
    rw [rheader] at aheader request
    exact ⟨idle.trans (rengine.trans engine), amem.trans rmem, actl.trans rctl, aevents.trans revents, aheader, request⟩
  by_cases limit : v.epochNumber = 281474976710655#48
  · have made : x = ((((v.setEngine v.engine.toIdle).raise .epochLimit v.epochNumber (0x02#8 ++ 0#8 ++
        BitVec.ofNat 16 v.engine.restored)).enterFault .epochLimit).setCtl ((v.ctl.faulted .epochLimit).startedUp v.pins)) := by
      rw [← hx]
      refine (if_pos (by exact limit)).trans ?_
      rw [endStartUp_closed (by exact fun h => by cases h)]
      simp only [State.enterFault, setHeader_ctl, setDec_ctl, setTable_ctl, setCtl_ctl, raise_keeps, setEngine_ctl, setHeader_pins,
        setDec_pins, setTable_pins, setCtl_pins, setEngine_pins]
      rfl
    have xengine : x.engine = v.engine.toIdle := by rw [made]; simp [State.enterFault]
    have xmem : x.mem = v.mem := by rw [made]; simp [State.enterFault]
    have xctl : x.ctl = (v.ctl.faulted .epochLimit).startedUp v.pins := by rw [made]; rfl
    have xevents : x.events = ((v.setEngine v.engine.toIdle).raise .epochLimit v.epochNumber (0x02#8 ++ 0#8 ++
        BitVec.ofNat 16 v.engine.restored)).events := by rw [made]; rfl
    have xselected : x.header.selected = none := by rw [made]; rfl
    obtain ⟨state, reason⟩ := startedUp_state (v.ctl.faulted .epochLimit) v.pins
    obtain ⟨engine, tmem, tctl, tevents, theader, -⟩ := quiet xengine (by rw [xctl, state]; simp [EpochController.faulted])
    have number : v.epochNumber = s.epochNumber := by rw [State.epochNumber, ctl]; rfl
    refine ⟨⟨by rw [engine]; rfl, tmem.trans (xmem.trans mem), fun below => absurd (number.symm.trans limit) below, fun _ =>
      ⟨by rw [tctl, xctl, state]; rfl, by rw [tctl, xctl, reason]; rfl, by rw [theader, xselected], ?_, ?_⟩⟩, engine⟩
    · refine endsRefusing_of (by rw [tctl, xctl, ctl, pins]) rfl rfl
    · rw [tevents, xevents, number, ← restored]
      exact raise_congr (by exact events) _ _ _
  · have made : x = (v.setEngine v.engine.toIdle).requestWrite .recoverySeal v.header.unselected := by
      rw [← hx]
      exact if_neg (by exact limit)
    obtain ⟨engine, tmem, tctl, tevents, -, request⟩ := quiet (by rw [made]; rfl) (by rw [made]; show v.ctl.state ∉ _; rw [recovering]; decide)
    have number : v.epochNumber = s.epochNumber := by rw [State.epochNumber, ctl]; rfl
    refine ⟨⟨by rw [engine]; rfl, ?_, fun _ => ⟨?_, ?_, ?_⟩, fun equal => absurd (number.trans equal) limit⟩, engine⟩
    · rw [tmem, made]; exact mem
    · rw [tctl, made]; exact ctl
    · rw [tevents, made]; exact events
    · rw [request, made, ← header]; rfl

/-! ### An engine at work -/

/-- While the engine reads or restores, an event of its walk ends with a grant alone (R97, R104). -/
theorem settle_walking {before u t : State} (going : u.engine.phase ≠ .idle)
    (state : u.ctl.state = .recovering ∨ u.ctl.state = .rollingBack ∧ u.engine.walkDone = false) (ht : State.settle before u = t) :
    t.engine = { u.engine with granted := t.engine.granted } ∧ t.events = u.events ∧ t.mem = u.mem ∧ t.ctl = u.ctl
      ∧ t.header.selected = u.header.selected ∧ t.table = u.table := by
  have ends : State.settle before u = u.releaseRead.arbitrate := by
    rcases state with recovering | ⟨rolling, undone⟩
    · exact settle_elsewhere before (by rw [recovering]; decide)
    · rw [settle_rolling before rolling, rollbackTest_waits (by simp [State.settled, going]) (by simpa using undone)]
  rw [ends] at ht
  obtain ⟨-, rmem, -, -, rtable, -, rctl, rengine, rheader, -, -, revents, -⟩ := releaseRead_keeps u
  obtain ⟨-, amem, -, atable, actl, -, aevents, -⟩ := arbitrate_keeps u.releaseRead
  obtain ⟨-, -, -, -, -, -, -, -, -, -, -, -, aheader, -⟩ := endsIn_arbitrate u.releaseRead
  have engine := arbitrate_engine u.releaseRead
  rw [ht] at amem atable actl aevents aheader engine
  rw [rengine] at engine
  exact ⟨engine, aevents.trans revents, amem.trans rmem, actl.trans rctl, by rw [aheader, rheader], atable.trans rtable⟩

/-- A rollback's walk done, as its event ends (R103, R104). -/
theorem settle_walkDone {before u t : State} (idle : u.engine.phase = .idle) (done : u.engine.walkDone = true)
    (rolling : u.ctl.state = .rollingBack) (ht : State.settle before u = t) :
    t.engine = u.engine ∧ t.events = u.events ∧ t.mem = u.mem
      ∧ (u.queue.entries = [] → t.ctl = { u.ctl with state := .sealing }
          ∧ t.header.writeRequest.map (fun w => (w.kind, w.target)) = some (.commitSeal, u.header.unselected))
      ∧ (u.queue.entries ≠ [] → t.ctl = u.ctl) := by
  obtain ⟨v, hv⟩ : ∃ v, u.releaseRead = v := ⟨_, rfl⟩
  obtain ⟨-, rmem, -, -, rtable, rqueue, rctl, rengine, rheader, -, -, revents, -⟩ := releaseRead_keeps u
  rw [hv] at rmem rtable rqueue rctl rengine rheader revents
  have tested : v.rollbackTest = if u.queue.entries = [] then v.requestSeal else v := by
    unfold State.rollbackTest
    have unsettled : v.settled = false := by simp [State.settled, rengine, done]
    simp [unsettled, rctl, rolling, rengine, done, rqueue]
  rw [settle_rolling before rolling, hv, tested] at ht
  have quiet : ∀ x : State, x.engine = v.engine → x.arbitrate = t → t.engine = u.engine ∧ t.events = x.events ∧ t.mem = x.mem
      ∧ t.ctl = x.ctl ∧ t.header.writeRequest.map (fun w => (w.kind, w.target)) = x.header.writeRequest.map fun w => (w.kind, w.target) := by
    intro x engine made
    obtain ⟨-, amem, -, -, actl, -, aevents, -⟩ := arbitrate_keeps x
    have still := arbitrate_engineIdle (s := x) (by rw [engine, rengine]; exact idle)
    have request := arbitrate_writeRequest x
    rw [made] at amem actl aevents still request
    exact ⟨still.trans (engine.trans rengine), aevents, amem, actl, request⟩
  by_cases empty : u.queue.entries = []
  · rw [if_pos empty] at ht
    obtain ⟨engine, events, mem, ctl, request⟩ := quiet v.requestSeal rfl ht
    refine ⟨engine, events.trans revents, mem.trans rmem, fun _ => ⟨?_, ?_⟩, fun some => absurd empty some⟩
    · rw [ctl, ← rctl]; rfl
    · rw [request, ← rheader]; rfl
  · rw [if_neg empty] at ht
    obtain ⟨engine, events, mem, ctl, -⟩ := quiet v rfl ht
    exact ⟨engine, events.trans revents, mem.trans rmem, fun none => absurd none empty, fun _ => ctl.trans rctl⟩

section Engine

variable {s u v t : State} {o : MemOp} {k : OpKind} {merr : List BadBeat} {ws : List MWord} {i n : Nat}

/-- An operation completes in a state that runs (R132). -/
theorem underway_runs (underway : s.completing k = .underway o) (going : s.ctl.state ≠ .parking) (consistent : s.consistent) :
    s.ctl.state.stopped = false := by
  obtain ⟨-, -, -, -, -, -, -, -, -, -, ⟨-, parked, -⟩, -⟩ := consistent
  obtain ⟨op, -⟩ := completing_underway.1 underway
  cases state : s.ctl.state <;> try rfl
  · exact absurd state going
  · rw [(parked state).1] at op; cases op

/-- What a working engine serves (R98). -/
theorem engine_serves (busy : s.engine.phase ≠ .idle) (running : s.ctl.state.stopped = false) (consistent : s.consistent) :
    s.ctl.state = .recovering ∨ s.ctl.state = .rollingBack ∧ s.engine.walkDone = false := by
  obtain ⟨-, -, -, engineAgrees, -⟩ := consistent
  rcases engineAgrees busy with ⟨-, undone, rolling | stopped⟩ | ⟨-, recovering | stopped⟩
  · exact .inr ⟨rolling, undone⟩
  · simp [running] at stopped
  · exact .inl recovering
  · simp [running] at stopped

/-- The record judged as the statements judge it (R100, R120). -/
theorem judgeRecord_iff (same : v.engine = s.engine ∧ v.dec = s.dec ∧ v.header = s.header ∧ v.ctl = s.ctl) :
    v.judgeRecord merr ws = true ↔ s.recordIsGood merr ws := by
  obtain ⟨engine, dec, header, ctl⟩ := same
  have floor : v.granuleFloor = s.granuleFloor := by unfold State.granuleFloor; rw [dec]
  have epoch : v.epochNumber = s.epochNumber := by unfold State.epochNumber; rw [ctl]
  unfold State.judgeRecord recordGood State.recordIsGood
  rw [engine, header, floor, epoch]
  simp only [Bool.and_eq_true, List.isEmpty_iff, beq_iff_eq, decide_eq_true_eq, and_assoc]
  exact Iff.rfl

/-- A record read's completion, by its effects (R100, R121). -/
theorem exec_recordReadComplete (underway : s.completing .recordRead = .underway o) (going : s.ctl.state ≠ .parking)
    (read : ws = s.wordsRead o merr) : exec (.recordReadComplete merr) s = .next (State.afterCompletion s ((s.ended o).takeRecord merr ws)) := by
  refine onCompletion underway ?_
  rw [read]
  exact if_neg (by exact going)

/-- A restore write's completion, by its effects (R101). -/
theorem exec_restoreWriteComplete (underway : s.completing .restoreWrite = .underway o) (going : s.ctl.state ≠ .parking) :
    exec .restoreWriteComplete s = .next (State.afterCompletion s
      ((s.ended o).setEngine { s.engine with restored := s.engine.restored + 1 }).stepWalk) := by
  refine onCompletion underway ?_
  exact if_neg (by exact going)

/-- The walk's next lower slot (R101, R102). -/
theorem stepWalk_next (cursor : v.engine.cursor = some (n + 1)) : v.stepWalk = v.setEngine (v.engine.reads n) := by
  unfold State.stepWalk
  rw [cursor]
  rfl

/-- Below slot 0 the walk is done (R103, R122). -/
theorem stepWalk_last (cursor : v.engine.cursor = some 0) : v.stepWalk = v.finishWalk := by
  unfold State.stepWalk
  rw [cursor]
  rfl

/-- A rollback's walk done (R103). -/
theorem finishWalk_rollback (purpose : v.engine.purpose = some .rollback) :
    v.finishWalk = v.setEngine { v.engine.toIdle with walkDone := true } := if_neg (by rw [purpose]; decide)

/-- A recovery's (R122). -/
theorem finishWalk_recovery (purpose : v.engine.purpose = some .recovery) : v.finishWalk = v.endRecovery := if_pos purpose

/-- The end of a recovery leaves the device state, or enters FAULT (R123). -/
theorem endRecovery_state (v : State) : v.endRecovery.ctl.state = v.ctl.state ∨ v.endRecovery.ctl.state = .fault := by
  unfold State.endRecovery
  dsimp only
  split
  · rw [endStartUp_closed (by exact fun h => by cases h)]
    exact .inr (startedUp_state _ _).1
  · exact .inl rfl

end Engine

/-- Settles O55. -/
theorem restoreWriteWalksOn : Obligations.RestoreWriteWalksOn := by
  intro s o n underway going consistent
  obtain ⟨-, -, waits, -⟩ := completing_underway.1 underway
  have restoring : s.engine.phase = .restoring := by
    simp only [State.ownerWaits, Bool.and_eq_true, beq_iff_eq] at waits
    exact waits.1
  have running := underway_runs underway going consistent
  have serves := engine_serves (by rw [restoring]; decide) running consistent
  have runs := exec_restoreWriteComplete underway going
  obtain ⟨x, hx⟩ : ∃ x, (s.ended o).setEngine { s.engine with restored := s.engine.restored + 1 } = x := ⟨_, rfl⟩
  have xengine : x.engine = { s.engine with restored := s.engine.restored + 1 } := by rw [← hx]; rfl
  have xctl : x.ctl = s.ctl := by rw [← hx]; rfl
  have xmem : x.mem = s.mem.writeBeats o.start o.stores := by rw [← hx]; rfl
  have xheader : x.header = s.header := by rw [← hx]; rfl
  have xevents : x.events = s.events := by rw [← hx]; rfl
  have xqueue : x.queue = s.queue := by rw [← hx]; rfl
  have xpins : x.pins = s.pins := by rw [← hx]; rfl
  have xtable : x.table = s.table := by rw [← hx]; rfl
  rw [hx] at runs
  refine ⟨fun cursor => ?_, fun cursor purpose rolling => ?_, fun cursor purpose recovering => ?_⟩
  · rw [stepWalk_next (n := n) (by rw [xengine]; exact cursor), afterCompletion_settle (by simpa [xctl] using going)] at runs
    obtain ⟨engine, events, mem, ctl, selected, table⟩ := settle_walking (before := s) (u := x.setEngine (x.engine.reads n))
      (fun h => by cases h) (by rw [setEngine_ctl, xctl, setEngine_engine, xengine]; exact serves) rfl
    refine ⟨_, runs, mem.trans xmem, events.trans xevents, ctl.trans xctl, selected.trans (congrArg HeaderUnit.selected xheader),
      congrArg GranuleTable.status (table.trans xtable), engine.trans ?_⟩
    rw [setEngine_engine, xengine]
    rfl
  · rw [stepWalk_last (by rw [xengine]; exact cursor), finishWalk_rollback (by rw [xengine]; exact purpose),
      afterCompletion_settle (by simpa [xctl] using going)] at runs
    obtain ⟨engine, events, mem, empty, held⟩ := settle_walkDone (before := s) (u := x.setEngine { x.engine.toIdle with walkDone := true })
      rfl rfl (by rw [setEngine_ctl, xctl]; exact rolling) rfl
    rw [setEngine_ctl, xctl, setEngine_queue, xqueue, setEngine_header, xheader] at empty
    rw [setEngine_ctl, xctl, setEngine_queue, xqueue] at held
    exact ⟨_, runs, mem.trans xmem, events.trans xevents, by rw [engine]; rfl, by rw [engine, setEngine_engine, xengine]; rfl, empty, held⟩
  · rw [stepWalk_last (by rw [xengine]; exact cursor), finishWalk_recovery (by rw [xengine]; exact purpose),
      afterCompletion_settle] at runs
    · obtain ⟨⟨idle, mem, below, limit⟩, engine⟩ := settle_endRecovery (before := s) (s := s) (u := x) (v := x)
        (by rw [xctl]; exact recovering) xpins xctl xheader rfl rfl rfl rfl
      refine ⟨_, runs, mem.trans xmem, idle, by rw [engine, xengine]; rfl, fun number => ?_, fun number => ?_⟩
      · obtain ⟨ctl, events, request⟩ := below number
        exact ⟨ctl, events.trans xevents, request⟩
      · obtain ⟨-, -, selected, refusing, -⟩ := limit number
        exact ⟨refusing, selected⟩
    · rcases endRecovery_state x with same | fault
      · rw [same, xctl]; exact going
      · rw [fault]; decide

/-! ### The scan's steps -/

section Scan

variable {v : State} {i n : Nat}

/-- A scan that ends above slot 0 walks down from the slot below (R121). -/
theorem endScan_walks (v : State) (n : Nat) :
    v.endScan (n + 1) = v.setEngine { v.engine.reads n with pass := .walk, scanEnd := some (n + 1) } := rfl

/-- A scan that goes on reads the slot it has come to (R121). -/
theorem scanFrom_reads (more : i < v.logCapacity) : v.scanFrom i = v.setEngine (v.engine.reads i) := if_neg (by omega)

/-- One that has come to slot N ends there (R121). -/
theorem scanFrom_ends (last : n + 1 = v.logCapacity) : v.scanFrom (n + 1) = v.endScan (n + 1) := by
  rw [State.scanFrom, if_pos (by omega), ← last]

/-- The scan over the slot at the cursor (R121). -/
theorem stepScan_plain (cursor : v.engine.cursor = some i) (plain : v.engine.probing = false) : v.stepScan true = v.scanFrom (i + 1)
    ∧ (i + 1 < v.logCapacity → v.stepScan false = v.setEngine { v.engine.reads i with probing := true })
    ∧ (¬i + 1 < v.logCapacity → v.stepScan false = v.endScan i) := by
  unfold State.stepScan
  rw [cursor, plain]
  exact ⟨rfl, fun more => if_pos more, fun last => if_neg last⟩

/-- The scan over the slot above an invalid one (R121). -/
theorem stepScan_probing (cursor : v.engine.cursor = some i) (probing : v.engine.probing = true) :
    v.stepScan true = v.scanFrom (i + 2) ∧ v.stepScan false = v.endScan i := by
  unfold State.stepScan
  rw [cursor, probing]
  exact ⟨rfl, rfl⟩

end Scan

/-! ### A record read -/

/-- A record read that leaves the engine at work (R100 to R102, R121). -/
theorem recordRead_goesOn {s x : State} {o : MemOp} {merr : List BadBeat} {ws : List MWord} {e : RollbackEngine}
    (underway : s.completing .recordRead = .underway o) (going : s.ctl.state ≠ .parking) (consistent : s.consistent)
    (read : ws = s.wordsRead o merr) (keeps : x.ctl = s.ctl ∧ x.mem = s.mem) (made : (s.ended o).takeRecord merr ws = x.setEngine e)
    (busy : e.phase = .reading ∨ e.phase = .restoring) (undone : e.walkDone = s.engine.walkDone) :
    ∃ t, exec (.recordReadComplete merr) s = .next t ∧ t.events = x.events ∧ t.mem = s.mem ∧ t.ctl = s.ctl
      ∧ t.engine = { e with granted := t.engine.granted } := by
  obtain ⟨ctl, mem⟩ := keeps
  obtain ⟨-, -, waits, -⟩ := completing_underway.1 underway
  have reading : s.engine.phase = .reading := by
    simp only [State.ownerWaits, Bool.and_eq_true, beq_iff_eq] at waits
    exact waits.1
  have running := underway_runs underway going consistent
  have serves := engine_serves (by rw [reading]; decide) running consistent
  have runs := exec_recordReadComplete underway going read
  rw [made, afterCompletion_settle (by simpa [ctl] using going)] at runs
  obtain ⟨engine, tevents, tmem, tctl, -⟩ := settle_walking (before := s) (u := x.setEngine e)
    (by rw [setEngine_engine]; rcases busy with h | h <;> rw [h] <;> decide)
    (by rw [setEngine_ctl, ctl, setEngine_engine, undone]; exact serves) rfl
  exact ⟨_, runs, tevents, tmem.trans mem, tctl.trans ctl, engine⟩

/-- Settles O54. -/
theorem recordReadJudged : Obligations.RecordReadJudged := by
  intro s merr o ws n i underway going consistent read cursor
  obtain ⟨x, hx⟩ : ∃ x, s.ended o = x := ⟨_, rfl⟩
  have xengine : x.engine = s.engine := by rw [← hx]; rfl
  have xctl : x.ctl = s.ctl := by rw [← hx]; rfl
  have xmem : x.mem = s.mem := by rw [← hx]; exact ended_mem underway rfl
  have xheader : x.header = s.header := by rw [← hx]; rfl
  have xdec : x.dec = s.dec := by rw [← hx]; rfl
  have xevents : x.events = s.events := by rw [← hx]; rfl
  have xqueue : x.queue = s.queue := by rw [← hx]; rfl
  have xpins : x.pins = s.pins := by rw [← hx]; rfl
  have judges : x.judgeRecord merr ws = true ↔ s.recordIsGood merr ws := judgeRecord_iff ⟨xengine, xdec, xheader, xctl⟩
  have bad : ¬s.recordIsGood merr ws → x.judgeRecord merr ws = false := fun h => Bool.eq_false_iff.2 fun good => h (judges.1 good)
  have capacity : x.logCapacity = s.logCapacity := by unfold State.logCapacity; rw [xdec]
  have goesOn : ∀ e : RollbackEngine, x.takeRecord merr ws = x.setEngine e → e.phase = .reading ∨ e.phase = .restoring →
      e.walkDone = s.engine.walkDone → ∃ t, exec (.recordReadComplete merr) s = .next t ∧ t.events = s.events ∧ t.mem = s.mem
        ∧ t.ctl = s.ctl ∧ t.engine = { e with granted := t.engine.granted } := by
    intro e made busy undone
    obtain ⟨t, runs, events, mem, ctl, engine⟩ := recordRead_goesOn underway going consistent read ⟨xctl, xmem⟩
      (by rw [hx]; exact made) busy undone
    exact ⟨t, runs, events.trans xevents, mem, ctl, engine⟩
  have scans : s.engine.purpose = some .recovery → s.engine.pass = .scan → ∀ valid, x.judgeRecord merr ws = valid →
      x.takeRecord merr ws = x.stepScan valid := by
    rintro purpose pass valid rfl
    exact if_pos ⟨by rw [xengine]; exact purpose, by rw [xengine]; exact pass⟩
  refine ⟨fun walks => ?_, fun purpose pass recovering plain => ?_, fun purpose pass recovering probing => ?_⟩
  · have walk : x.takeRecord merr ws = if x.judgeRecord merr ws then x.restoreRecord ws else x.skipRecord := by
      refine if_neg ?_
      rw [xengine]
      rintro ⟨purpose, pass⟩
      rcases walks with other | walking
      · exact other purpose
      · rw [walking] at pass; cases pass
    obtain ⟨y, hy⟩ : ∃ y, (x.raise .recordDamaged s.epochNumber (BitVec.ofNat 32 i)).setEngine
      { s.engine with damaged := s.engine.damaged + 1 } = y := ⟨_, rfl⟩
    have skips : ¬s.recordIsGood merr ws → x.takeRecord merr ws = y.stepWalk := by
      intro invalid
      have number : x.epochNumber = s.epochNumber := by unfold State.epochNumber; rw [xctl]
      rw [walk, bad invalid, ← hy]
      unfold State.skipRecord
      rw [number, xengine, cursor]
      dsimp only
      rw [(raise_keeps x _ _ _).2.2.2.2.2.2.2.1, xengine]
      rfl
    have ycursor : y.engine.cursor = some i := by rw [← hy]; exact cursor
    have yctl : y.ctl = s.ctl := by rw [← hy]; simp [xctl]
    have ymem : y.mem = s.mem := by rw [← hy]; simp [xmem]
    have yqueue : y.queue = s.queue := by rw [← hy]; simp [xqueue]
    have yheader : y.header = s.header := by rw [← hy]; simp [xheader]
    have yevents : y.events = (s.raise .recordDamaged s.epochNumber (BitVec.ofNat 32 i)).events := by
      rw [← hy]; exact raise_congr xevents _ _ _
    have runs := exec_recordReadComplete underway going read
    rw [hx] at runs
    refine ⟨fun valid => ?_, fun invalid above => ?_, fun invalid last purpose rolling => ?_, fun invalid last purpose recovering => ?_⟩
    · have made : x.takeRecord merr ws = x.setEngine { s.engine with phase := .restoring, granted := false, buffer := ws } := by
        rw [walk, if_pos (judges.2 valid), ← xengine]; rfl
      obtain ⟨t, runs, events, mem, ctl, engine⟩ := goesOn _ made (.inr rfl) rfl
      exact ⟨t, runs, engine, events, mem, ctl⟩
    · subst above
      obtain ⟨t, runs, events, mem, ctl, engine⟩ := recordRead_goesOn underway going consistent read ⟨yctl, ymem⟩
        (by rw [hx]; exact (skips invalid).trans (stepWalk_next ycursor)) (.inl rfl) (by rw [← hy]; rfl)
      refine ⟨t, runs, ?_, mem, ctl, fun room => ?_⟩
      · rw [engine, ← hy]; rfl
      · rw [events, yevents, raise_joins room]; rfl
    · subst last
      have made := ((skips invalid).trans (stepWalk_last ycursor)).trans (finishWalk_rollback (by rw [← hy]; exact purpose))
      rw [made, afterCompletion_settle (by simpa [yctl] using going)] at runs
      obtain ⟨engine, events, mem, empty, held⟩ := settle_walkDone (before := s) (u := y.setEngine { y.engine.toIdle with walkDone := true })
        rfl rfl (by rw [setEngine_ctl, yctl]; exact rolling) rfl
      rw [setEngine_ctl, yctl, setEngine_queue, yqueue, setEngine_header, yheader] at empty
      rw [setEngine_ctl, yctl, setEngine_queue, yqueue] at held
      exact ⟨_, runs, ⟨by rw [engine]; rfl, by rw [engine]; rfl, empty, held⟩, mem.trans ymem, by rw [engine, ← hy]; rfl,
        by rw [engine, ← hy]; rfl, events.trans yevents⟩
    · subst last
      have made := ((skips invalid).trans (stepWalk_last ycursor)).trans (finishWalk_recovery (by rw [← hy]; exact purpose))
      have state : y.endRecovery.ctl.state ≠ .parking := by
        rcases endRecovery_state y with same | fault
        · rw [same, yctl]; exact going
        · rw [fault]; decide
      rw [made, afterCompletion_settle state] at runs
      obtain ⟨ends, engine⟩ := settle_endRecovery (before := s) (s := s) (u := s.raise .recordDamaged s.epochNumber 0#32) (v := y)
        (by rw [yctl]; exact recovering) (by rw [← hy]; simp [xpins]) yctl yheader (by simpa using ymem) yevents (by rw [← hy]; simp) rfl
      exact ⟨_, runs, ends, by rw [engine, ← hy]; rfl, by rw [engine, ← hy]; rfl⟩
  · obtain ⟨good, probes, ends⟩ := stepScan_plain (v := x) (by rw [xengine]; exact cursor) (by rw [xengine]; exact plain)
    have scan := scans purpose pass
    rw [← xengine] at goesOn ⊢
    rw [← capacity]
    refine ⟨fun valid more => ?_, fun valid last => ?_, fun invalid more => ?_, fun invalid last above => ?_⟩
    · have := goesOn _ (((scan _ (judges.2 valid)).trans good).trans (scanFrom_reads more)) (.inl rfl) rfl
      exact this
    · have := goesOn _ ((((scan _ (judges.2 valid)).trans good).trans (scanFrom_ends last)).trans (endScan_walks x i)) (.inl rfl) rfl
      exact this
    · have := goesOn _ ((scan _ (bad invalid)).trans (probes more)) (.inl rfl) rfl
      exact this
    · subst above
      have := goesOn _ (((scan _ (bad invalid)).trans (ends (by omega))).trans (endScan_walks x n)) (.inl rfl) rfl
      exact this
  · obtain ⟨good, ends⟩ := stepScan_probing (v := x) (by rw [xengine]; exact cursor) (by rw [xengine]; exact probing)
    have scan := scans purpose pass
    refine ⟨fun valid more => ?_, fun valid last => ?_, fun invalid above => ?_, fun invalid lowest => ?_⟩
    · rw [← xengine] at goesOn ⊢
      rw [← capacity] at more
      have := goesOn _ (((scan _ (judges.2 valid)).trans good).trans (scanFrom_reads more)) (.inl rfl) rfl
      exact this
    · rw [← xengine] at goesOn ⊢
      rw [← capacity] at last
      have := goesOn _ ((((scan _ (judges.2 valid)).trans good).trans (scanFrom_ends last)).trans (endScan_walks x (i + 1))) (.inl rfl) rfl
      exact this
    · subst above
      rw [← xengine] at goesOn ⊢
      have := goesOn _ (((scan _ (bad invalid)).trans ends).trans (endScan_walks x n)) (.inl rfl) rfl
      exact this
    · subst lowest
      obtain ⟨y, hy⟩ : ∃ y, x.setEngine { x.engine with pass := .walk, scanEnd := some 0 } = y := ⟨_, rfl⟩
      have yctl : y.ctl = s.ctl := by rw [← hy]; exact xctl
      have made : x.takeRecord merr ws = y.endRecovery := by
        rw [scan _ (bad invalid), ends, ← hy]
        exact finishWalk_recovery (by rw [setEngine_engine, xengine]; exact purpose)
      have state : y.endRecovery.ctl.state ≠ .parking := by
        rcases endRecovery_state y with same | fault
        · rw [same, yctl]; exact going
        · rw [fault]; decide
      have runs := exec_recordReadComplete underway going read
      rw [hx, made, afterCompletion_settle state] at runs
      obtain ⟨stops, engine⟩ := settle_endRecovery (before := s) (s := s) (u := s) (v := y) (by rw [yctl]; exact recovering)
        (by rw [← hy]; exact xpins) yctl (by rw [← hy]; exact xheader) (by rw [← hy]; exact xmem) (by rw [← hy]; exact xevents)
        (by rw [← hy, ← xengine]; rfl) rfl
      exact ⟨_, runs, stops, by rw [engine, ← hy]; rfl⟩

end Sys2Proof.Machine
end

section
/-! The start-up reads and the selection (section 7.3). -/

namespace Sys2Proof.Machine

/-! ### Events of the start-up -/

/-- What an event keeps that ends with a grant alone. -/
theorem settle_elsewhere_keeps {before u t : State} (elsewhere : u.ctl.state ∉ [DeviceState.opened, .draining, .rollingBack])
    (ht : State.settle before u = t) :
    t.mem = u.mem ∧ t.dec = u.dec ∧ t.link = u.link ∧ t.table = u.table ∧ t.ctl = u.ctl ∧ t.events = u.events
      ∧ t.header = { u.header with writeRequest := t.header.writeRequest, readRequest := t.header.readRequest }
      ∧ t.engine = { u.engine with granted := t.engine.granted }
      ∧ t.header.writeRequest.map (fun w => (w.kind, w.target)) = u.header.writeRequest.map fun w => (w.kind, w.target) := by
  obtain ⟨-, rmem, rdec, -, rtable, -, rctl, rengine, rheader, -, rlink, revents, -⟩ := releaseRead_keeps u
  obtain ⟨-, amem, adec, atable, actl, alink, aevents, -⟩ := arbitrate_keeps u.releaseRead
  obtain ⟨-, -, -, -, -, -, -, -, -, -, -, -, aheader, -⟩ := endsIn_arbitrate u.releaseRead
  have engine := arbitrate_engine u.releaseRead
  have request := arbitrate_writeRequest u.releaseRead
  rw [← ht, settle_elsewhere before elsewhere, amem, rmem, adec, rdec, alink, rlink, atable, rtable, actl, rctl, aevents, revents,
    request, rheader]
  rw [rheader] at aheader
  rw [rengine] at engine
  exact ⟨rfl, rfl, rfl, rfl, rfl, rfl, aheader, engine, rfl⟩

/-- A recovery's end below the epoch limit (R123). -/
theorem endRecovery_below {v : State} (below : v.epochNumber ≠ 281474976710655#48) :
    v.endRecovery = (v.setEngine v.engine.toIdle).requestWrite .recoverySeal v.header.unselected := if_neg (by exact below)

section Reads

variable {s t x : State} {o : MemOp} {merr : List BadBeat} {slot : Slot} {h : HeaderRecord} {other : Judgement}

/-- A start-up read's completion, by its effects (R115, R116). -/
theorem exec_headerReadComplete {ws : List MWord} (underway : s.completing .headerRead = .underway o) (read : ws = s.wordsRead o merr)
    (request : s.header.readRequest = some ⟨slot, true⟩) : exec (.headerReadComplete merr) s = .next (State.afterCompletion s
      ((s.ended o).takeHeader slot merr ws)) := by
  refine onCompletion underway ?_
  rw [request, read]
  rfl

/-- No header write stands in STARTING (R112). -/
theorem starting_quiet (starting : s.ctl.state = .starting) (consistent : s.consistent) : s.header.writeRequest = none := by
  obtain ⟨-, -, writeAgrees, -⟩ := consistent
  refine Option.eq_none_iff_forall_not_mem.2 fun w hw => ?_
  obtain ⟨state, -, -⟩ := writeAgrees w hw
  rw [starting] at state
  cases kind : w.kind <;> simp [kind, WriteKind.state, DeviceState.stopped] at state

/-- The device with a header's values taken (R118). -/
def State.headerTaken (s : State) (slot : Slot) (h : HeaderRecord) (other : Judgement) : State :=
  (s.noteDamagedSlot slot.other other h.epoch).selectHeader slot h

/-- What a selection makes of each block (R117, R118). -/
theorem headerTaken_makes (s : State) (slot : Slot) (h : HeaderRecord) (other : Judgement) :
    (s.headerTaken slot h other).pins = s.pins ∧ (s.headerTaken slot h other).mem = s.mem
      ∧ (s.headerTaken slot h other).ctl = { s.ctl with state := .recovering, epoch := some h.epoch }
      ∧ (s.headerTaken slot h other).header = { s.header with
          selected := some slot, generation := some h.generation, formatNumber := some h.formatNumber, active := some h.config
          pendingConfig := none }
      ∧ (s.headerTaken slot h other).table = { s.table with status := some (if h.broken then .broken else .intact) }
      ∧ (s.headerTaken slot h other).dec = s.dec.load h.config
      ∧ (s.headerTaken slot h other).link = { s.link with staged := h.config }
      ∧ (s.headerTaken slot h other).engine = s.engine
      ∧ (s.events.records.length < 15 → (s.headerTaken slot h other).events.records = s.events.records
          ++ if other = .damaged ∨ other = .unfit then [⟨.headerDamaged, h.epoch, if slot = .b then 0#32 else 1#32⟩] else []) := by
  unfold State.headerTaken State.selectHeader State.noteDamagedSlot
  split
  · refine ⟨?_, ?_, ?_, ?_, ?_, ?_, ?_, ?_, fun room => ?_⟩
    case refine_9 => rw [raise_joins (by omega)]; cases slot <;> rfl
    all_goals simp
  · refine ⟨rfl, rfl, rfl, rfl, rfl, rfl, rfl, rfl, fun _ => ?_⟩
    exact (List.append_nil _).symm

/-- A slot selected whose epoch is not BROKEN has its log scanned (R120, R121). -/
theorem select_scans (capacity : 0 < h.config.capacity.toNat) (whole : h.broken = false) :
    x.select slot h other = (x.headerTaken slot h other).setEngine { x.engine.reads 0 with
      purpose := some .recovery, pass := .scan, scanEnd := none, restored := 0, damaged := 0 } := by
  obtain ⟨-, -, -, -, -, dec, -, engine, -⟩ := headerTaken_makes x slot h other
  unfold State.select State.beginRecovery
  rw [whole]
  show State.scanFrom _ 0 = _
  rw [scanFrom_reads]
  · show (x.headerTaken slot h other).setEngine _ = _
    rw [← engine]
    rfl
  · unfold State.logCapacity
    rw [setEngine_dec, setEngine_dec]
    show 0 < match (x.headerTaken slot h other).dec.geometry with | some g => g.capacity | none => 0
    rw [dec]
    exact capacity

/-- One whose epoch is BROKEN is recovered at once, with EPOCH_LOST (R119). -/
theorem select_loses (broken : h.broken = true) : x.select slot h other
    = (((x.headerTaken slot h other).setEngine { x.engine with restored := 0, damaged := 0 }).raise .epochLost h.epoch 0#32).endRecovery := by
  obtain ⟨-, -, ctl, -, -, -, -, engine, -⟩ := headerTaken_makes x slot h other
  have epoch : ((x.headerTaken slot h other).setEngine { x.engine with restored := 0, damaged := 0 }).epochNumber = h.epoch := by
    rw [State.epochNumber, setEngine_ctl, ctl]; rfl
  unfold State.select State.beginRecovery
  rw [broken, ← epoch, ← engine]
  rfl

/-- The selection of a slot as its event ends (R117 to R121). -/
theorem settle_selects {before : State} (capacity : 0 < h.config.capacity.toNat)
    (same : x.mem = s.mem ∧ x.ctl = s.ctl ∧ x.pins = s.pins ∧ x.dec = s.dec ∧ x.link = s.link ∧ x.events = s.events ∧ x.table = s.table)
    (ht : State.settle before (x.select slot h other) = t) : s.selects slot h other t := by
  obtain ⟨smem, sctl, spins, sdec, slink, sevents, stable⟩ := same
  obtain ⟨pins, mem, ctl, header, table, dec, link, engine, events⟩ := headerTaken_makes x slot h other
  have records : (x.headerTaken slot h other).events.records = s.events.records
      ++ (if other = .damaged ∨ other = .unfit then [⟨.headerDamaged, h.epoch, if slot = .b then 0#32 else 1#32⟩] else [])
      ∨ 15 ≤ s.events.records.length := by
    rw [sevents] at events
    by_cases room : s.events.records.length < 15
    · exact .inl (events room)
    · exact .inr (by omega)
  have state : (x.headerTaken slot h other).ctl.state = .recovering := by rw [ctl]
  have xsize : x.size = s.size := by unfold State.size; rw [sdec]
  cases broken : h.broken with
  | false =>
    rw [select_scans capacity broken] at ht
    unfold State.selects
    rw [broken]
    rw [broken] at table
    generalize x.headerTaken slot h other = u at *
    obtain ⟨tmem, tdec, tlink, ttable, tctl, tevents, theader, tengine, -⟩ :=
      settle_elsewhere_keeps (by rw [setEngine_ctl, state]; decide) ht
    rw [setEngine_mem, mem, smem] at tmem
    rw [setEngine_dec, dec, sdec] at tdec
    rw [setEngine_link, link] at tlink
    rw [setEngine_table, table] at ttable
    rw [setEngine_ctl, ctl] at tctl
    rw [setEngine_events] at tevents
    rw [setEngine_header, header] at theader
    refine ⟨tmem, fun _ => ?_, fun broke => absurd broke (by simp), fun room _ => ?_⟩
    · rw [tctl, theader, tlink, tdec, ttable, tengine]
      exact ⟨rfl, rfl, rfl, rfl, rfl, rfl, rfl, rfl, rfl, rfl, fun _ => ⟨rfl, rfl, rfl, fun _ => ⟨rfl, rfl⟩, rfl, rfl⟩, fun broke => by cases broke⟩
    · rw [tevents]
      rcases records with records | many
      · rw [records]; exact (List.append_nil _).symm
      · omega
  | true =>
    rw [select_loses broken] at ht
    unfold State.selects
    rw [broken]
    rw [broken] at table
    generalize x.headerTaken slot h other = u at *
    obtain ⟨v, hv⟩ : ∃ v, (u.setEngine { x.engine with restored := 0, damaged := 0 }).raise .epochLost h.epoch 0#32 = v := ⟨_, rfl⟩
    have vmem : v.mem = s.mem := by rw [← hv]; simp [mem, smem]
    have vctl : v.ctl = { s.ctl with state := .recovering, epoch := some h.epoch } := by rw [← hv]; simp [ctl, sctl]
    have vpins : v.pins = s.pins := by rw [← hv]; simp [pins, spins]
    have vheader : v.header = u.header := by rw [← hv]; simp
    have vdec : v.dec = u.dec := by rw [← hv]; simp
    have vlink : v.link = u.link := by rw [← hv]; simp
    have vtable : v.table = u.table := by rw [← hv]; simp
    have vnumber : v.epochNumber = h.epoch := by rw [State.epochNumber, vctl]; rfl
    have vrecords : s.events.records.length < 14 → v.events.records = s.events.records
        ++ (if other = .damaged ∨ other = .unfit then [⟨.headerDamaged, h.epoch, if slot = .b then 0#32 else 1#32⟩] else [])
        ++ [⟨.epochLost, h.epoch, 0#32⟩] := by
      intro room
      rcases records with records | many
      · have short : (u.setEngine { x.engine with restored := 0, damaged := 0 }).events.records.length < 16 := by
          rw [setEngine_events, records, List.length_append]
          split <;> simp <;> omega
        rw [← hv, raise_joins short, setEngine_events, setEvents_events, records]
      · omega
    rw [hv] at ht
    by_cases limit : v.epochNumber = 281474976710655#48
    · obtain ⟨⟨-, tmem, -, atLimit⟩, -⟩ := settle_endRecovery (s := v) (u := v) (by rw [vctl]) rfl rfl rfl rfl rfl rfl ht
      obtain ⟨tstate, reason, selected, ends, -⟩ := atLimit limit
      refine ⟨tmem.trans vmem, fun below => ?_, fun _ _ => ⟨tstate, reason, selected, ?_⟩, fun _ recovering => ?_⟩
      · exact absurd (vnumber.symm.trans limit) (below.resolve_left (by simp))
      · unfold State.endsRefusing at ends
        rw [vctl, vpins] at ends
        exact ends
      · rw [tstate] at recovering; cases recovering
    · rw [endRecovery_below limit] at ht
      obtain ⟨tmem, tdec, tlink, ttable, tctl, tevents, theader, tengine, trequest⟩ :=
        settle_elsewhere_keeps (by show v.ctl.state ∉ _; rw [vctl]; exact (by decide : DeviceState.recovering ∉ [DeviceState.opened, .draining, .rollingBack])) ht
      have tctl : t.ctl = v.ctl := tctl
      have tdec : t.dec = v.dec := tdec
      have tlink : t.link = v.link := tlink
      have ttable : t.table = v.table := ttable
      have tevents : t.events = v.events := tevents
      have tphase : t.engine.phase = .idle := by rw [tengine]; rfl
      have unselected : v.header.unselected = slot.other := by
        rw [vheader, header]; cases slot <;> rfl
      have trequest : t.header.writeRequest.map (fun w => (w.kind, w.target)) = some (.recoverySeal, slot.other) := by
        rw [trequest, ← unselected]; rfl
      have theader : t.header = { v.header with writeRequest := t.header.writeRequest, readRequest := t.header.readRequest } := theader
      refine ⟨tmem.trans vmem, fun _ => ?_, fun _ equal => absurd (vnumber.trans equal) limit, fun room _ => ?_⟩
      · rw [vheader, header] at theader
        rw [vdec, dec, sdec] at tdec
        rw [vlink, link] at tlink
        rw [vtable, table] at ttable
        refine ⟨by rw [tctl, vctl], by rw [tctl, vctl], by rw [theader], by rw [theader], by rw [theader], by rw [theader],
          by rw [theader], by rw [tlink], by rw [tdec]; rfl, by rw [tdec]; rfl, fun whole => absurd whole (by decide),
          fun _ => ⟨by rw [ttable]; rfl, tphase, trequest⟩⟩
      · rw [tevents, vrecords room]; rfl

/-- The configuration of a VALID slot is valid (R116). -/
theorem judgeSlot_valid {size : Nat} {bad : Bool} {bs : List Byte} (valid : judgeSlot size bad bs = .valid) :
    (HeaderRecord.ofBytes bs).config.valid size = true := by
  unfold judgeSlot at valid
  dsimp only at valid
  split at valid
  · cases valid
  split at valid
  · cases valid
  split at valid
  · cases valid
  split at valid
  · cases valid
  split at valid
  · cases valid
  split at valid
  · cases valid
  · next fits => simpa using fits

/-- A valid configuration has room for a record (R10). -/
theorem capacity_pos {size : Nat} {c : Configuration} (valid : c.valid size = true) : 0 < c.capacity.toNat := by
  simp only [Configuration.valid, Bool.and_eq_true, decide_eq_true_eq] at valid
  omega

/-- A selection enters RECOVERING, or FAULT (R118, R123). -/
theorem select_state (capacity : 0 < h.config.capacity.toNat) :
    (x.select slot h other).ctl.state = .recovering ∨ (x.select slot h other).ctl.state = .fault := by
  obtain ⟨-, -, ctl, -⟩ := headerTaken_makes x slot h other
  cases broken : h.broken with
  | false => rw [select_scans capacity broken, setEngine_ctl, ctl]; exact .inl rfl
  | true =>
    rw [select_loses broken]
    rcases endRecovery_state (((x.headerTaken slot h other).setEngine { x.engine with restored := 0, damaged := 0 }).raise .epochLost
      h.epoch 0#32) with going | fault
    · exact .inl (by simp [going, ctl])
    · exact .inr fault

/-- A start-up that ends outside OPEN, as its event ends (R78, R81, R117). -/
theorem settle_endsStartUp {before v : State} {c : EpochController} (closed : c.state = .unformatted ∨ c.state = .fault)
    (ctl : v.ctl = c) (pins : v.pins = s.pins) (mem : v.mem = s.mem) (events : v.events = s.events)
    (seen : c.lowSeen = s.ctl.lowSeen) (remembered : c.remembered = s.ctl.remembered) (ht : State.settle before v.endStartUp = t) :
    v.endStartUp.ctl.state ≠ .parking ∧ s.endsRefusing c t ∧ t.header.selected = v.header.selected ∧ t.mem = s.mem ∧ t.events = s.events := by
  have made := endStartUp_closed (v := v) (by rw [ctl]; rcases closed with h | h <;> rw [h] <;> decide)
  rw [made] at ht ⊢
  have state : (v.setCtl (v.ctl.startedUp v.pins)).ctl.state = c.state := by
    rw [setCtl_ctl, (startedUp_state _ _).1, ctl]
  obtain ⟨tmem, -, -, -, tctl, tevents, theader, -⟩ := settle_elsewhere_keeps (by rw [state]; rcases closed with h | h <;> rw [h] <;> decide) ht
  refine ⟨by rw [state]; rcases closed with h | h <;> rw [h] <;> decide, endsRefusing_of (by rw [tctl, setCtl_ctl, ctl, pins]) seen
    remembered, by rw [theader]; rfl, tmem.trans mem, tevents.trans events⟩

end Reads

section Selection

variable {s : State} {merr : List BadBeat} {o : MemOp} {a b : HeaderRecord} {ja jb : Judgement}

/-- The device as slot B's judgement stands beside slot A's (R116, R117). -/
def State.surveyed (s : State) (o : MemOp) (b : HeaderRecord) (jb : Judgement) : State :=
  (s.ended o).setHeader { (s.header.setSurvey .b (surveyOf jb b)) with readRequest := none }

/-- The device as slot A's judgement stands and slot B's read is requested (R115, R116). -/
def State.surveyedA (s : State) (o : MemOp) (a : HeaderRecord) (ja : Judgement) : State :=
  (s.ended o).setHeader { s.header with
    surveyA := some ⟨ja, if ja = .absent then none else some a.formatNumber⟩, readA := some a, readRequest := some ⟨.b, false⟩ }

/-- The read of slot A is followed by slot B's (R115). -/
theorem takeHeader_a (starting : s.ctl.state = .starting) (hb : b = HeaderRecord.ofBytes (bytesOf (s.wordsRead o merr)))
    (hjb : jb = judgeSlot s.size (!merr.isEmpty) (bytesOf (s.wordsRead o merr))) :
    (s.ended o).takeHeader .a merr (s.wordsRead o merr) = s.surveyedA o b jb := by
  rw [hb, hjb]
  exact if_neg (by show s.ctl.state ≠ _; rw [starting]; decide)

/-- Slot B's read is granted as the event ends (R115, R158). -/
theorem settle_nextRead {before : State} {t : State} (starting : s.ctl.state = .starting) (quiet : s.header.writeRequest = none)
    (ht : State.settle before (s.surveyedA o b jb) = t) :
    t.port.op = some ⟨.headerRead, (s.size - 256) / 4, 64, [], 0⟩ ∧ t.mem = (s.ended o).mem ∧ t.ctl = s.ctl ∧ t.events = s.events
      ∧ t.header = { s.header with
        surveyA := some ⟨jb, if jb = .absent then none else some b.formatNumber⟩, readA := some b, readRequest := some ⟨.b, true⟩ } := by
  rw [settle_elsewhere before (by show s.ctl.state ∉ _; rw [starting]; decide)] at ht
  obtain ⟨-, mem, dec, -, -, -, ctl, -, header, port, -, events, -⟩ := releaseRead_keeps (s.surveyedA o b jb)
  generalize (s.surveyedA o b jb).releaseRead = u at *
  have starts : u.ctl.state = .starting := by rw [ctl]; exact starting
  have size : u.size = s.size := by unfold State.size; rw [dec]; rfl
  have unwritten : u.header.writeRequest = none := by rw [header]; exact quiet
  have reads : u.header.readRequest = some ⟨.b, false⟩ := by rw [header]; rfl
  have standing : u.standing .header = some ⟨.headerRead, slotWord s.size .b, 64, [], 0⟩ := by
    unfold State.standing
    simp only [unwritten, reads, size]
    rfl
  rw [arbitrate_header (by rw [port]; rfl) (by rw [starts]; decide) (by rw [starts]; decide) standing] at ht
  have told : u.tellGranted .header = u.setHeader { u.header with readRequest := some ⟨.b, true⟩ } := by
    unfold State.tellGranted
    simp only [unwritten, reads]
  rw [State.grant, told] at ht
  rw [← ht]
  refine ⟨rfl, mem, ctl, events, ?_⟩
  rw [setPort_header, setHeader_header, header]
  rfl

/-- The read of slot B ends in the selection (R117). -/
theorem takeHeader_b (starting : s.ctl.state = .starting) (hb : b = HeaderRecord.ofBytes (bytesOf (s.wordsRead o merr)))
    (hjb : jb = judgeSlot s.size (!merr.isEmpty) (bytesOf (s.wordsRead o merr))) :
    (s.ended o).takeHeader .b merr (s.wordsRead o merr) = (s.surveyed o b jb).selectSlot b := by
  rw [hb, hjb]
  exact if_neg (by show s.ctl.state ≠ _; rw [starting]; decide)

/-- The selection by the two judgements (R117). -/
theorem selectSlot_eq (readA : s.header.readA = some a) (surveyA : s.header.surveyA.map SlotSurvey.judgement = some ja) :
    (s.surveyed o b jb).selectSlot b = match selection ja jb a b with
      | some .a => (s.surveyed o b jb).select .a a jb
      | some .b => (s.surveyed o b jb).select .b b ja
      | none => (s.surveyed o b jb).selectNone ja jb := by
  have judgedA : judgementOf (s.surveyed o b jb).header.surveyA = ja := by
    show judgementOf s.header.surveyA = ja
    rw [judgementOf, surveyA]; rfl
  have judgedB : judgementOf (s.surveyed o b jb).header.surveyB = jb := rfl
  have first : (s.surveyed o b jb).header.readA.getD b = a := by
    show s.header.readA.getD b = a
    rw [readA]; rfl
  unfold State.selectSlot
  rw [judgedA, judgedB, first] <;> rfl

end Selection

/-- Settles O56. -/
theorem headerReadSelects : Obligations.HeaderReadSelects := by
  intro s merr o a b ja jb underway starting consistent configured hb hjb
  have quiet := starting_quiet starting consistent
  have mem : (s.ended o).mem = s.mem := ended_mem underway rfl
  refine ⟨fun request => ?_, fun request readA surveyA => ?_⟩
  · have completes := exec_headerReadComplete underway (merr := merr) rfl request
    rw [takeHeader_a starting hb hjb, afterCompletion_settle (by show s.ctl.state ≠ _; rw [starting]; decide)] at completes
    obtain ⟨op, tmem, tctl, tevents, theader⟩ := settle_nextRead (o := o) (b := b) (jb := jb) starting quiet rfl
    exact ⟨_, completes, theader, op, tctl, tevents, tmem.trans mem⟩
  · have completes := exec_headerReadComplete underway (merr := merr) rfl request
    rw [takeHeader_b starting hb hjb, selectSlot_eq readA surveyA] at completes
    have same : (s.surveyed o b jb).mem = s.mem ∧ (s.surveyed o b jb).ctl = s.ctl ∧ (s.surveyed o b jb).pins = s.pins
        ∧ (s.surveyed o b jb).dec = s.dec ∧ (s.surveyed o b jb).link = s.link ∧ (s.surveyed o b jb).events = s.events
        ∧ (s.surveyed o b jb).table = s.table := ⟨mem, rfl, rfl, rfl, rfl, rfl, rfl⟩
    have selects : ∀ slot h other, 0 < h.config.capacity.toNat →
        exec (.headerReadComplete merr) s = .next (State.afterCompletion s ((s.surveyed o b jb).select slot h other)) →
        ∃ t, exec (.headerReadComplete merr) s = .next t ∧ s.selects slot h other t := by
      intro slot h other capacity done
      rw [afterCompletion_settle (by rcases select_state capacity with h | h <;> rw [h] <;> decide)] at done
      exact ⟨_, done, settle_selects capacity same rfl⟩
    have capacityA : ja = .valid → 0 < a.config.capacity.toNat := by
      intro valid
      obtain ⟨-, -, -, -, -, first, -⟩ := configured
      obtain ⟨h, hh, fits⟩ := first starting (by rw [judgementOf, surveyA, valid]; rfl)
      rw [readA] at hh
      cases hh
      exact capacity_pos fits
    have capacityB : jb = .valid → 0 < b.config.capacity.toNat := by
      intro valid
      rw [hjb] at valid
      rw [hb]
      exact capacity_pos (judgeSlot_valid valid)
    have ends : ∀ (v : State) (c : EpochController), (c.state = .unformatted ∨ c.state = .fault) → v.ctl = c → v.pins = s.pins → v.mem = s.mem → v.events = s.events →
        c.lowSeen = s.ctl.lowSeen → c.remembered = s.ctl.remembered →
        exec (.headerReadComplete merr) s = .next (State.afterCompletion s v.endStartUp) →
        ∃ t, exec (.headerReadComplete merr) s = .next t ∧ s.endsRefusing c t ∧ t.header.selected = v.header.selected
          ∧ t.events = s.events := by
      intro v c closed ctl pins vmem events seen remembered done
      obtain ⟨going, refusing, selected, -, tevents⟩ := settle_endsStartUp closed ctl pins vmem events seen remembered
        (rfl : State.settle s v.endStartUp = _)
      rw [afterCompletion_settle going] at done
      exact ⟨_, done, refusing, selected, tevents⟩
    refine ⟨?_, ?_, ?_, ?_, ?_⟩
    · intro first
      have chosen : selection ja jb a b = some .a := by
        rcases first with ⟨va, vb⟩ | ⟨va, vb, order⟩
        · simp [selection, va, vb]
        · simp [selection, va, vb, Nat.not_lt.2 order]
      rw [chosen] at completes
      exact selects _ _ _ (capacityA (by rcases first with ⟨va, -⟩ | ⟨va, -⟩ <;> exact va)) completes
    · intro second
      have chosen : selection ja jb a b = some .b := by
        rcases second with ⟨va, vb⟩ | ⟨va, vb, order⟩
        · simp [selection, va, vb]
        · simp [selection, va, vb, order]
      rw [chosen] at completes
      exact selects _ _ _ (capacityB (by rcases second with ⟨-, vb⟩ | ⟨-, vb, -⟩ <;> exact vb)) completes
    · intro absentA absentB
      rw [absentA, absentB] at completes
      obtain ⟨t, done, refusing, selected, events⟩ := ends ((s.surveyed o b jb).setCtl { s.ctl with state := .unformatted }) _
        (.inl rfl) rfl rfl mem rfl rfl rfl (by rw [absentB]; exact completes)
      exact ⟨t, done, selected, events, refusing⟩
    · intro invalidA invalidB unfit
      have chosen : selection ja jb a b = none := by simp [selection, invalidA, invalidB]
      rw [chosen] at completes
      obtain ⟨t, done, refusing, selected, events⟩ := ends ((s.surveyed o b jb).enterFault .config) (s.ctl.faulted .config)
        (.inr rfl) rfl rfl mem rfl rfl rfl (by
          rw [completes]
          refine congrArg (fun x => Host.Outcome.next (State.afterCompletion s x)) ?_
          refine (if_neg ?_).trans (if_pos unfit)
          rintro ⟨rfl, rfl⟩
          rcases unfit with h | h <;> cases h)
      exact ⟨t, done, refusing, selected, events⟩
    · intro damaged
      have chosen : selection ja jb a b = none := by
        rcases damaged with ⟨ha, hb⟩ | ⟨ha, hb⟩ | ⟨ha, hb⟩ <;> simp [selection, ha, hb]
      rw [chosen] at completes
      obtain ⟨t, done, refusing, selected, events⟩ := ends ((s.surveyed o b jb).enterFault .header) (s.ctl.faulted .header)
        (.inr rfl) rfl rfl mem rfl rfl rfl (by
          rw [completes]
          refine congrArg (fun x => Host.Outcome.next (State.afterCompletion s x)) ?_
          refine (if_neg ?_).trans (if_neg ?_) <;> rcases damaged with ⟨ha, hb⟩ | ⟨ha, hb⟩ | ⟨ha, hb⟩ <;> simp [ha, hb])
      exact ⟨t, done, refusing, selected, events⟩

end Sys2Proof.Machine
end

section
/-! What the effects of an event leave: the configuration in use with what goes with it, and the operation in progress. One
lemma per shared operation; only a selection, a format, a seal that takes the pending configuration, FAULT and a start-up do
more (R114). -/

namespace Sys2Proof.Machine

/-! ### The relations -/

/-- `t` has the configurations of `s`: active, pending and staged, and the decoder loaded from the active one (R7, R8, R114). -/
structure State.sameSetup (s t : State) : Prop where
  dec : t.dec = s.dec
  staged : t.link.staged = s.link.staged
  active : t.header.active = s.header.active
  pendingConfig : t.header.pendingConfig = s.header.pendingConfig

/-- And the operation in progress of `s`, with its aging count, which an emptied queue resets (R160); in PARKING only if `s` is,
with its release kept (R133). -/
structure State.leavesSetup (s t : State) : Prop where
  setup : s.sameSetup t
  op : t.port.op = s.port.op
  aging : t.port.aging = s.port.aging ∨ t.port.aging = 0
  pfw : t.pins.pfw = s.pins.pfw
  again : t.ctl.again = s.ctl.again
  parking : t.ctl.state = .parking → s.ctl.state = .parking

section Relation

variable {s u t : State}

theorem State.sameSetup.refl (s : State) : s.sameSetup s := ⟨rfl, rfl, rfl, rfl⟩

theorem State.sameSetup.trans (h : s.sameSetup u) (k : u.sameSetup t) : s.sameSetup t :=
  ⟨k.dec.trans h.dec, k.staged.trans h.staged, k.active.trans h.active, k.pendingConfig.trans h.pendingConfig⟩

theorem State.leavesSetup.refl (s : State) : s.leavesSetup s := ⟨.refl s, rfl, .inl rfl, rfl, rfl, id⟩

theorem State.leavesSetup.trans (h : s.leavesSetup u) (k : u.leavesSetup t) : s.leavesSetup t := by
  refine ⟨h.setup.trans k.setup, k.op.trans h.op, ?_, k.pfw.trans h.pfw, k.again.trans h.again, h.parking ∘ k.parking⟩
  rcases k.aging with same | reset
  · rw [same]; exact h.aging
  · exact .inr reset

/-- Blocks that neither relation speaks of may change freely. -/
theorem leavesSetup_of_frame (dec : t.dec = s.dec) (link : t.link = s.link) (header : t.header = s.header) (port : t.port = s.port)
    (pins : t.pins = s.pins) (ctl : t.ctl = s.ctl) : s.leavesSetup t := by
  refine ⟨⟨dec, ?_, ?_, ?_⟩, ?_, .inl ?_, ?_, ?_, ?_⟩
  · rw [link]
  · rw [header]
  · rw [header]
  · rw [port]
  · rw [port]
  · rw [pins]
  · rw [ctl]
  · rw [ctl]; exact id

end Relation

section Setters

variable (s : State)

theorem leavesSetup_setPins (x : Pins) (pfw : x.pfw = s.pins.pfw := by rfl) : s.leavesSetup (s.setPins x) :=
  ⟨⟨rfl, rfl, rfl, rfl⟩, rfl, .inl rfl, pfw, rfl, id⟩
theorem leavesSetup_setCapture (x : CaptureUnit) : s.leavesSetup (s.setCapture x) := leavesSetup_of_frame rfl rfl rfl rfl rfl rfl
theorem leavesSetup_setTable (x : GranuleTable) : s.leavesSetup (s.setTable x) := leavesSetup_of_frame rfl rfl rfl rfl rfl rfl
theorem leavesSetup_setQueue (x : PostingQueue) : s.leavesSetup (s.setQueue x) := leavesSetup_of_frame rfl rfl rfl rfl rfl rfl
theorem leavesSetup_setCtl (x : EpochController) (again : x.again = s.ctl.again) (state : x.state = s.ctl.state) :
    s.leavesSetup (s.setCtl x) := ⟨⟨rfl, rfl, rfl, rfl⟩, rfl, .inl rfl, rfl, again, fun h => state.symm.trans h⟩
theorem leavesSetup_enters {d : DeviceState} (running : d ≠ .parking) : s.leavesSetup (s.setCtl { s.ctl with state := d }) :=
  ⟨⟨rfl, rfl, rfl, rfl⟩, rfl, .inl rfl, rfl, rfl, fun h => absurd h running⟩
theorem leavesSetup_workOn (op : Operation) : s.leavesSetup (s.workOn op) := leavesSetup_setCtl s _ rfl rfl
theorem leavesSetup_driveAnswer (op : Operation) (r : EpochResult) : s.leavesSetup (s.driveAnswer op r) :=
  leavesSetup_setCtl s _ rfl rfl
theorem leavesSetup_forget : s.leavesSetup (s.setCtl { s.ctl with remembered := none }) := leavesSetup_setCtl s _ rfl rfl
theorem leavesSetup_remember (op : Operation) : s.leavesSetup (s.setCtl { s.ctl with remembered := some op }) :=
  leavesSetup_setCtl s _ rfl rfl
theorem leavesSetup_setEngine (x : RollbackEngine) : s.leavesSetup (s.setEngine x) := leavesSetup_of_frame rfl rfl rfl rfl rfl rfl
theorem leavesSetup_setHost (x : HostPort) : s.leavesSetup (s.setHost x) := leavesSetup_of_frame rfl rfl rfl rfl rfl rfl
theorem leavesSetup_setAlarms (x : Alarms) : s.leavesSetup (s.setAlarms x) := leavesSetup_of_frame rfl rfl rfl rfl rfl rfl

variable {s}

theorem leavesSetup_setHeader {x : HeaderUnit} (active : x.active = s.header.active) (pending : x.pendingConfig = s.header.pendingConfig) :
    s.leavesSetup (s.setHeader x) := ⟨⟨rfl, rfl, active, pending⟩, rfl, .inl rfl, rfl, rfl, id⟩

end Setters

/-! ### Events, the queue and the captures -/

theorem leavesSetup_raise (s : State) (k : EventKind) (e : BitVec 48) (d : BitVec 32) : s.leavesSetup (s.raise k e d) :=
  leavesSetup_of_frame (by simp) (by simp) (by simp) (by simp) (by simp) (by simp)

theorem leavesSetup_raised (s : State) (k : EventKind) (e : BitVec 48) (d : BitVec 32) {x : EpochController}
    (again : x.again = s.ctl.again) (state : x.state = s.ctl.state) : s.leavesSetup ((s.raise k e d).setCtl x) :=
  (leavesSetup_raise s k e d).trans (leavesSetup_setCtl _ _ (by simp [again]) (by simp [state]))

theorem leavesSetup_watermarkTest (s : State) : s.leavesSetup s.watermarkTest :=
  leavesSetup_of_frame (by simp) (by simp) (by simp) (by simp) (by simp) (by simp)

theorem leavesSetup_mapGates (s : State) (f : Gate → Gate) : s.leavesSetup (s.mapGates f) := leavesSetup_of_frame rfl rfl rfl rfl rfl rfl

theorem leavesSetup_keepEntries (s : State) (keep : QueueEntry → Bool) : s.leavesSetup (s.keepEntries keep) := by
  refine ⟨⟨rfl, rfl, rfl, rfl⟩, rfl, ?_, rfl, rfl, id⟩
  unfold State.keepEntries
  dsimp only [setPort_port]
  split
  · exact .inr rfl
  · exact .inl rfl

theorem leavesSetup_requestWrite (s : State) (k : WriteKind) (target : Slot) : s.leavesSetup (s.requestWrite k target) :=
  leavesSetup_setHeader rfl rfl

theorem leavesSetup_dropEntries (s : State) (gone : TableEntry → Bool) : s.leavesSetup (s.dropEntries gone) :=
  (leavesSetup_setTable s _).trans (leavesSetup_watermarkTest _)

theorem leavesSetup_waitForMark (s : State) (gs : List Nat) : s.leavesSetup (s.waitForMark gs) := by
  unfold State.waitForMark
  split
  · exact leavesSetup_mapGates s _
  · exact .refl s

theorem leavesSetup_releaseInFlight (s : State) : s.leavesSetup s.releaseInFlight :=
  (leavesSetup_setCapture s _).trans (leavesSetup_dropEntries _ _)

theorem leavesSetup_endStopped (s : State) : s.leavesSetup s.endStopped :=
  (leavesSetup_releaseInFlight s).trans (leavesSetup_waitForMark _ _)

theorem leavesSetup_stopCapture (s : State) : s.leavesSetup s.stopCapture := by
  unfold State.stopCapture
  split
  · split
    · exact leavesSetup_setCapture s _
    · exact leavesSetup_endStopped s
  · exact .refl s
  · exact .refl s

theorem leavesSetup_cancelWaiting (s : State) : s.leavesSetup s.cancelWaiting :=
  (leavesSetup_dropEntries s _).trans (leavesSetup_waitForMark _ _)

theorem leavesSetup_enterBreaking (s : State) : s.leavesSetup s.enterBreaking := by
  unfold State.enterBreaking
  split
  · exact (((leavesSetup_setTable s _).trans (leavesSetup_stopCapture _)).trans (leavesSetup_cancelWaiting _)).trans
      (leavesSetup_requestWrite _ _ _)
  · exact .refl s

theorem leavesSetup_takeCapture (s : State) : s.leavesSetup s.takeCapture :=
  leavesSetup_of_frame (by simp) (by simp) (by simp) (by simp) (by simp) (by simp)

theorem leavesSetup_noteExhausted (s : State) (g : Nat) : s.leavesSetup (s.noteExhausted g) := by
  have noted := leavesSetup_setAlarms s { s.alarms with exhausted := true }
  unfold State.noteExhausted
  dsimp only
  split
  · exact noted
  · exact (noted.trans (leavesSetup_raise _ _ _ _)).trans (leavesSetup_setTable _ _)

theorem leavesSetup_applyAdmission (s : State) (g : Nat) (e : AdmissionEffect) : s.leavesSetup (s.applyAdmission g e) := by
  cases e with
  | nothing => exact .refl s
  | newCapture => exact (leavesSetup_setTable s _).trans (leavesSetup_watermarkTest _)
  | breakEpoch => exact (leavesSetup_noteExhausted s g).trans (leavesSetup_enterBreaking _)

/-! ### The host port -/

theorem leavesSetup_closeBeat (s : State) (r : HostResponse) (d : LaneData) : s.leavesSetup (s.closeBeat r d) :=
  leavesSetup_of_frame rfl rfl rfl rfl rfl rfl

theorem leavesSetup_finishBeat (s : State) (d : LaneData) : s.leavesSetup (s.finishBeat d) := by
  unfold State.finishBeat
  split
  · exact .refl s
  · split
    · exact leavesSetup_closeBeat s _ _
    · split
      · exact leavesSetup_closeBeat s _ _
      · exact leavesSetup_setHost s _

theorem leavesSetup_truncate (s : State) : s.leavesSetup s.truncate := by
  unfold State.truncate
  split
  · exact leavesSetup_setHost s _
  · exact .refl s

theorem leavesSetup_leaveOpen (s : State) : s.leavesSetup s.leaveOpen := by
  unfold State.leaveOpen
  split
  · split
    · split
      · exact leavesSetup_closeBeat s _ _
      · exact leavesSetup_setHost s _
    · exact .refl s
  · exact .refl s

theorem leavesSetup_holdBeat (s : State) (b : Beat) (r : WaitReason) : s.leavesSetup (s.holdBeat b r) := leavesSetup_setHost s _

theorem leavesSetup_requestRead (s : State) (c : Cycle) (b : Beat) : s.leavesSetup (s.requestRead c b) := by
  unfold State.requestRead
  split
  · exact leavesSetup_holdBeat s b _
  · exact (leavesSetup_holdBeat s b .wordPending).trans (leavesSetup_setHost _ _)

theorem leavesSetup_answerWord (s : State) (word : Nat) (lanes : Lanes) (data : MWord) (merr : Bool) :
    s.leavesSetup (s.answerWord word lanes data merr) := by
  unfold State.answerWord
  split
  · exact (leavesSetup_raise s _ _ _).trans (leavesSetup_closeBeat _ _ _)
  · exact leavesSetup_finishBeat s _

theorem leavesSetup_serveRead (s : State) (c : Cycle) (b : Beat) : s.leavesSetup (s.serveRead c b) := by
  unfold State.serveRead
  split
  · exact leavesSetup_finishBeat s _
  · split
    · exact leavesSetup_holdBeat s b _
    · exact leavesSetup_answerWord s _ _ _ _
    · split
      · exact leavesSetup_requestRead s c b
      · split
        · exact leavesSetup_finishBeat s _
        · exact leavesSetup_holdBeat s b _

theorem leavesSetup_releaseRead (s : State) : s.leavesSetup s.releaseRead := by
  unfold State.releaseRead
  split
  · split
    · exact leavesSetup_requestRead s _ _
    · exact .refl s
  · exact .refl s

theorem leavesSetup_requestWaiting (s : State) : s.leavesSetup s.requestWaiting := by
  unfold State.requestWaiting
  split
  · split
    · exact leavesSetup_requestRead s _ _
    · exact .refl s
  · exact .refl s

theorem leavesSetup_post (s : State) (word : Nat) (b : Beat) (cls : DecodeClass) (gate : Gate) :
    s.leavesSetup (s.post word b cls gate) := by
  unfold State.post
  split
  · exact .refl s
  · exact leavesSetup_setQueue s _

theorem leavesSetup_admitBeat (s : State) (c : Cycle) (p : Portion) (b : Beat) : s.leavesSetup (s.admitBeat c p b) := by
  unfold State.admitBeat
  split
  · exact (leavesSetup_noteExhausted s _).trans (leavesSetup_closeBeat _ _ _)
  · exact leavesSetup_holdBeat s b _
  · split
    · exact (((leavesSetup_post s _ _ _ _).trans (leavesSetup_setHost _ _)).trans (leavesSetup_applyAdmission _ _ _)).trans
        (leavesSetup_finishBeat _ _)
    · exact leavesSetup_holdBeat s b _

theorem leavesSetup_offerWrite (s : State) (c : Cycle) (p : Portion) (b : Beat) : s.leavesSetup (s.offerWrite c p b) := by
  unfold State.offerWrite
  split
  · exact leavesSetup_admitBeat s c p b
  · split
    · exact (leavesSetup_post s _ _ _ _).trans (leavesSetup_finishBeat _ _)
    · exact leavesSetup_holdBeat s b _

theorem leavesSetup_reoffer (before u : State) : u.leavesSetup (State.reoffer before u) := by
  unfold State.reoffer
  split
  · split
    · exact leavesSetup_offerWrite u _ _ _
    · exact .refl u
  · exact .refl u

theorem leavesSetup_decodeWrite (s : State) (word length : Nat) (lanes : Lanes) (data : MWord) :
    s.leavesSetup (s.decodeWrite word length lanes data) := by
  unfold State.decodeWrite
  dsimp only
  split
  · exact (leavesSetup_setHost s _).trans (leavesSetup_offerWrite _ _ _ _)
  · exact (leavesSetup_raise s _ _ _).trans (leavesSetup_closeBeat _ _ _)

theorem leavesSetup_decodeRead (s : State) (word length : Nat) (lanes : Lanes) :
    s.leavesSetup (s.decodeRead word length lanes) := by
  unfold State.decodeRead
  dsimp only
  split
  · exact leavesSetup_closeBeat s _ _
  · split
    · exact leavesSetup_closeBeat s _ _
    · exact (leavesSetup_setHost s _).trans (leavesSetup_serveRead _ _ _)

theorem leavesSetup_laterWrite (s : State) (c : Cycle) (p : Portion) (lanes : Lanes) (data : MWord) :
    s.leavesSetup (s.laterWrite c p lanes data) := by
  unfold State.laterWrite
  split
  · exact leavesSetup_offerWrite s _ _ _
  · exact leavesSetup_closeBeat s _ _

/-! ### The epoch control port -/

theorem leavesSetup_recordResult (s : State) (a : Answer) : s.leavesSetup (s.recordResult a) :=
  (leavesSetup_raise s _ _ _).trans (leavesSetup_setCtl _ _ rfl rfl)

theorem leavesSetup_takeCommit (s : State) : s.leavesSetup s.takeCommit :=
  ((leavesSetup_workOn s _).trans (leavesSetup_enters _ (by decide))).trans (leavesSetup_leaveOpen _)

theorem leavesSetup_takeRollback (s : State) : s.leavesSetup s.takeRollback :=
  ((((((leavesSetup_workOn s _).trans (leavesSetup_enters _ (by decide))).trans (leavesSetup_keepEntries _ _)).trans
    (leavesSetup_stopCapture _)).trans (leavesSetup_cancelWaiting _)).trans (leavesSetup_leaveOpen _)).trans
      (leavesSetup_setEngine _ _)

theorem leavesSetup_takeFlush (s : State) : s.leavesSetup s.takeFlush := by
  unfold State.takeFlush
  split
  · exact (leavesSetup_workOn s _).trans (leavesSetup_setQueue _ _)
  · exact leavesSetup_driveAnswer s _ _

theorem leavesSetup_takeRequest (s : State) (op : Operation) : s.leavesSetup (s.takeRequest op) := by
  have refuses : ∀ op, s.leavesSetup (s.refuseAtLimit op) := fun op =>
    (leavesSetup_raise s _ _ _).trans (leavesSetup_driveAnswer _ _ _)
  cases op with
  | illegal => exact leavesSetup_driveAnswer s _ _
  | commit =>
    dsimp only [State.takeRequest]
    split
    · exact refuses .commit
    · exact leavesSetup_takeCommit s
  | rollback =>
    dsimp only [State.takeRequest]
    split
    · exact refuses .rollback
    · split
      · exact leavesSetup_takeRollback s
      · exact leavesSetup_driveAnswer s _ _
  | flush => exact leavesSetup_takeFlush s

theorem leavesSetup_takeRemembered (s : State) : s.leavesSetup s.takeRemembered := by
  unfold State.takeRemembered
  split
  · split
    · exact (leavesSetup_forget s).trans (leavesSetup_takeRequest _ _)
    · exact .refl s
  · exact .refl s

theorem leavesSetup_reachResult (s : State) (r : EpochResult) : s.leavesSetup (s.reachResult r) := by
  unfold State.reachResult
  split
  · split
    · exact (leavesSetup_recordResult s _).trans (leavesSetup_takeRemembered _)
    · exact leavesSetup_driveAnswer s _ _
  · exact .refl s

theorem leavesSetup_risingEdge (s : State) (op : Operation) : s.leavesSetup (s.risingEdge op) := by
  have remembers : s.leavesSetup (s.setCtl { s.ctl with remembered := some op }) := leavesSetup_remember s op
  unfold State.risingEdge
  split
  · split
    · exact leavesSetup_takeRequest s op
    · exact remembers
  · exact remembers
  · exact remembers
  · exact remembers
  · exact remembers
  · exact remembers
  · exact remembers
  · exact leavesSetup_driveAnswer s _ _
  · exact leavesSetup_driveAnswer s _ _
  · exact .refl s
  · exact .refl s

/-- A sample of EREQ low is an event and a change of the controller (R79, R80). -/
theorem leavesSetup_ereqLow (s : State) : s.leavesSetup s.ereqLow := by
  unfold State.ereqLow
  extract_lets _ _ _ low _ forgot _
  have toLow : s.leavesSetup low := ⟨⟨rfl, rfl, rfl, rfl⟩, rfl, .inl rfl, rfl, rfl, id⟩
  have toForgot : s.leavesSetup forgot := by
    refine toLow.trans ?_
    unfold forgot
    clear_value low
    split
    · exact leavesSetup_raised low _ _ _ rfl rfl
    · exact .refl low
  refine toForgot.trans ?_
  clear_value forgot
  split
  · exact (leavesSetup_recordResult forgot _).trans (leavesSetup_setCtl _ _ rfl rfl)
  · split
    · exact leavesSetup_setCtl _ _ rfl rfl
    · exact leavesSetup_setCtl _ _ rfl rfl
    · exact .refl forgot

theorem leavesSetup_endStartUp (s : State) : s.leavesSetup s.endStartUp := by
  unfold State.endStartUp
  split
  · dsimp only
    split
    · exact (leavesSetup_raise s _ _ _).trans (leavesSetup_driveAnswer _ _ _)
    · exact leavesSetup_driveAnswer s _ _
  · split
    · exact leavesSetup_takeRemembered s
    · split
      · exact (leavesSetup_forget s).trans (leavesSetup_driveAnswer _ _ _)
      · exact .refl s

theorem leavesSetup_flushTest (s : State) : s.leavesSetup s.flushTest := by
  unfold State.flushTest
  split
  · exact (leavesSetup_setQueue s _).trans (leavesSetup_reachResult _ _)
  · exact .refl s

/-! ### Headers written, captures completed -/

theorem leavesSetup_setSurvey (h : HeaderUnit) (slot : Slot) (v : SlotSurvey) :
    (h.setSurvey slot v).active = h.active ∧ (h.setSurvey slot v).pendingConfig = h.pendingConfig := by
  cases slot <;> exact ⟨rfl, rfl⟩

theorem leavesSetup_selectWritten (s : State) (target : Slot) (h : HeaderRecord) :
    s.leavesSetup (s.selectWritten target h) := by
  obtain ⟨active, pending⟩ := leavesSetup_setSurvey s.header target ⟨.valid, some h.formatNumber⟩
  refine State.leavesSetup.trans ?_ (leavesSetup_setCtl _ _ rfl rfl)
  exact leavesSetup_setHeader active pending

theorem leavesSetup_clearEpoch (s : State) : s.leavesSetup s.clearEpoch :=
  ((leavesSetup_setCapture s _).trans (leavesSetup_setTable _ _)).trans (leavesSetup_setAlarms _ _)

theorem leavesSetup_noteFailure (s : State) (merr : List BadBeat) : s.leavesSetup (s.noteFailure merr) := by
  unfold State.noteFailure
  split
  · exact .refl s
  · exact leavesSetup_raise s _ _ _

theorem leavesSetup_takePreImage (s : State) (merr : List BadBeat) (image : List MWord) :
    s.leavesSetup (s.takePreImage merr image) := by
  have noted := leavesSetup_noteFailure s merr
  unfold State.takePreImage
  split
  · exact noted.trans (leavesSetup_setCapture _ _)
  · split
    · exact noted.trans (leavesSetup_endStopped _)
    · split
      · exact leavesSetup_setCapture s _
      · exact ((noted.trans (leavesSetup_releaseInFlight _)).trans (leavesSetup_enterBreaking _)).trans
          (leavesSetup_waitForMark _ _)

theorem leavesSetup_completeCapture (s : State) : s.leavesSetup s.completeCapture := by
  have logged : ∀ c g, s.leavesSetup ((s.setCapture c).setTable ((s.setCapture c).table.complete g)).watermarkTest := fun c g =>
    ((leavesSetup_setCapture s c).trans (leavesSetup_setTable _ _)).trans (leavesSetup_watermarkTest _)
  unfold State.completeCapture
  dsimp only
  split
  · exact logged _ _
  · exact (logged _ _).trans (leavesSetup_mapGates _ _)

theorem leavesSetup_takeMark (s : State) (w : WriteRequest) : s.leavesSetup (s.takeMark w) :=
  (((((leavesSetup_selectWritten s _ _).trans (leavesSetup_setTable _ _)).trans (leavesSetup_mapGates _ _)).trans
    (leavesSetup_dropEntries _ _)).trans (leavesSetup_raise _ _ _ _)).trans (leavesSetup_setAlarms _ _)

theorem leavesSetup_takeRecoverySeal (s : State) (w : WriteRequest) : s.leavesSetup (s.takeRecoverySeal w) := by
  have sealed : ∀ e d, s.leavesSetup (((s.selectWritten w.target w.header).clearEpoch).raise .recoveryDone e d) :=
    fun _ _ => ((leavesSetup_selectWritten _ _ _).trans (leavesSetup_clearEpoch _)).trans (leavesSetup_raise _ _ _ _)
  unfold State.takeRecoverySeal
  dsimp only
  split
  · exact sealed _ _
  · exact ((sealed _ _).trans (leavesSetup_enters _ (by decide))).trans (leavesSetup_endStartUp _)

theorem leavesSetup_takeClearing (s : State) (w : WriteRequest) : s.leavesSetup (s.takeClearing w) := by
  unfold State.takeClearing
  dsimp only
  split
  · exact leavesSetup_setHeader rfl rfl
  · refine State.leavesSetup.trans ?_ (leavesSetup_requestWrite _ _ _)
    exact leavesSetup_setHeader rfl rfl

theorem leavesSetup_openUnlessParking (s : State) : s.leavesSetup s.openUnlessParking := by
  unfold State.openUnlessParking
  split
  · exact .refl s
  · exact leavesSetup_enters s (by decide)

theorem leavesSetup_noteDamagedSlot (s : State) (slot : Slot) (j : Judgement) (e : BitVec 48) :
    s.leavesSetup (s.noteDamagedSlot slot j e) := by
  unfold State.noteDamagedSlot
  split
  · exact leavesSetup_raise s _ _ _
  · exact .refl s

/-! ### Parking, and the end of an event -/

theorem leavesSetup_parkHost (s : State) : s.leavesSetup s.parkHost := by
  unfold State.parkHost
  split
  · exact leavesSetup_closeBeat s _ _
  · exact leavesSetup_setHost s _

theorem sameSetup_enterParking (s : State) : s.sameSetup s.enterParking := by
  obtain ⟨u, hu⟩ : ∃ u, ((s.setCtl s.ctl.park).setHeader s.header.park).setEngine s.engine.park = u := ⟨_, rfl⟩
  have parked : s.sameSetup u := by rw [← hu]; exact ⟨rfl, rfl, rfl, rfl⟩
  have made : s.enterParking = (u.parkHost.keepEntries QueueEntry.draining).setQueue
      { (u.parkHost.keepEntries QueueEntry.draining).queue with mark := none } := by rw [← hu]; rfl
  rw [made]
  exact parked.trans (((leavesSetup_parkHost u).trans (leavesSetup_keepEntries _ _)).trans (leavesSetup_setQueue _ _)).setup

theorem sameSetup_noteParked (s : State) : s.sameSetup s.noteParked := by
  have parked : s.sameSetup (s.setCtl { s.ctl with state := .parked }) := ⟨rfl, rfl, rfl, rfl⟩
  exact parked.trans (leavesSetup_raise _ _ _ _).setup

theorem leavesSetup_requestSeal (s : State) : s.leavesSetup s.requestSeal :=
  (leavesSetup_enters s (by decide)).trans (leavesSetup_requestWrite _ _ _)

theorem leavesSetup_commitTest (s : State) : s.leavesSetup s.commitTest := by
  unfold State.commitTest
  split
  · exact leavesSetup_requestSeal s
  · exact .refl s

theorem leavesSetup_rollbackTest (s : State) : s.leavesSetup s.rollbackTest := by
  obtain ⟨x, hx⟩ : ∃ x, (if s.settled then s.beginWalk else s) = x := ⟨_, rfl⟩
  have begun : s.leavesSetup x := by
    rw [← hx]
    split
    · exact leavesSetup_of_frame (by simp) (by simp) (by simp) (by simp) (by simp) (by simp)
    · exact .refl s
  unfold State.rollbackTest
  rw [hx]
  dsimp only
  split
  · exact begun.trans (leavesSetup_requestSeal x)
  · exact begun

theorem sameSetup_tellGranted (s : State) (r : Requester) : s.sameSetup (s.tellGranted r) := by
  cases r with
  | header =>
    dsimp only [State.tellGranted]
    split
    · exact ⟨rfl, rfl, rfl, rfl⟩
    · split <;> exact ⟨rfl, rfl, rfl, rfl⟩
  | hostRead =>
    dsimp only [State.tellGranted]
    split <;> exact ⟨rfl, rfl, rfl, rfl⟩
  | engine | capture | drain => exact ⟨rfl, rfl, rfl, rfl⟩

theorem sameSetup_arbitrate (s : State) : s.sameSetup s.arbitrate := by
  rcases arbitrate_cases s with h | ⟨r, o, -, -, -, -, -, h⟩ <;> rw [h]
  · exact .refl s
  · exact State.sameSetup.trans (sameSetup_tellGranted s r) ⟨rfl, rfl, rfl, rfl⟩

/-- What an event's end does before the grant (log 6). -/
abbrev State.testedFrom (before u : State) : State :=
  (((State.reoffer before u).releaseRead).takeCapture.commitTest).rollbackTest

theorem leavesSetup_testedFrom (before u : State) : u.leavesSetup (State.testedFrom before u) :=
  ((((leavesSetup_reoffer before u).trans (leavesSetup_releaseRead _)).trans (leavesSetup_takeCapture _)).trans
    (leavesSetup_commitTest _)).trans (leavesSetup_rollbackTest _)

theorem sameSetup_settle (before u : State) : u.sameSetup (State.settle before u) :=
  (((leavesSetup_testedFrom before u).setup.trans (sameSetup_arbitrate _)).trans (leavesSetup_reoffer _ _).setup).trans
    (leavesSetup_takeCapture _).setup

end Sys2Proof.Machine
end

section
/-! Where the active configuration comes from and goes (R114). -/

namespace Sys2Proof.Machine

/-! ### FAULT takes it -/

/-- The active configuration stays, PARKING not being entered, or FAULT has taken it (R114). -/
abbrev State.activeOrFault (s t : State) : Prop :=
  t.header.active = s.header.active ∧ (t.ctl.state = .parking → s.ctl.state = .parking)
    ∨ t.header.active = none ∧ t.ctl.state = .fault

section Fault

variable {s u t : State}

theorem activeOrFault_of (h : s.leavesSetup t) : s.activeOrFault t := .inl ⟨h.setup.active, h.parking⟩

theorem activeOrFault_after (h : s.leavesSetup u) (k : u.activeOrFault t) : s.activeOrFault t := by
  rw [State.activeOrFault, ← h.setup.active]
  exact k.imp (fun ⟨same, parking⟩ => ⟨same, h.parking ∘ parking⟩) id

/-- A start-up that ends in FAULT (R81, R117). -/
theorem faulted_state (s : State) (r : FaultReason) :
    (s.enterFault r).endStartUp.header.active = none ∧ (s.enterFault r).endStartUp.ctl.state = .fault := by
  rw [endStartUp_closed (by exact fun h => by cases h)]
  exact ⟨rfl, (startedUp_state _ _).1⟩

theorem activeOrFault_endRecovery (s : State) : s.activeOrFault s.endRecovery := by
  unfold State.endRecovery
  dsimp only
  split
  · exact .inr (faulted_state _ _)
  · exact .inl ⟨rfl, id⟩

theorem activeOrFault_finishWalk (s : State) : s.activeOrFault s.finishWalk := by
  unfold State.finishWalk
  split
  · exact activeOrFault_endRecovery s
  · exact .inl ⟨rfl, id⟩

theorem activeOrFault_stepWalk (s : State) : s.activeOrFault s.stepWalk := by
  unfold State.stepWalk
  split
  · exact activeOrFault_finishWalk s
  · exact .inl ⟨rfl, id⟩

theorem activeOrFault_endScan (s : State) (n : Nat) : s.activeOrFault (s.endScan n) := by
  cases n with
  | zero => exact activeOrFault_after (leavesSetup_setEngine s _) (activeOrFault_finishWalk _)
  | succ k => exact .inl ⟨rfl, id⟩

theorem activeOrFault_scanFrom (s : State) (slot : Nat) : s.activeOrFault (s.scanFrom slot) := by
  unfold State.scanFrom
  split
  · exact activeOrFault_endScan s _
  · exact .inl ⟨rfl, id⟩

theorem activeOrFault_takeRecord (s : State) (merr : List BadBeat) (ws : List MWord) : s.activeOrFault (s.takeRecord merr ws) := by
  unfold State.takeRecord State.stepScan State.skipRecord
  dsimp only
  split
  · split
    · split
      · exact activeOrFault_scanFrom s _
      · exact activeOrFault_endScan s _
    · split
      · exact activeOrFault_scanFrom s _
      · split
        · exact .inl ⟨rfl, id⟩
        · exact activeOrFault_endScan s _
  · split
    · exact .inl ⟨rfl, id⟩
    · exact activeOrFault_after ((leavesSetup_raise s _ _ _).trans (leavesSetup_setEngine _ _)) (activeOrFault_stepWalk _)

/-- An event in FAULT stays there (R82). -/
theorem settle_fault {before : State} (fault : u.ctl.state = .fault) : (State.settle before u).ctl.state = .fault := by
  obtain ⟨-, -, -, -, ctl, -⟩ := settle_elsewhere_keeps (before := before) (u := u) (by rw [fault]; decide) rfl
  rw [ctl, fault]

theorem activeOrFault_settle {before : State} (h : s.activeOrFault u) : (State.settle before u).header.active = s.header.active
    ∨ (State.settle before u).header.active = none ∧ (State.settle before u).ctl.state = .fault := by
  rw [(sameSetup_settle before u).active]
  exact h.imp And.left fun ⟨gone, fault⟩ => ⟨gone, settle_fault fault⟩

end Fault

/-! ### A start-up takes it -/

/-- What a start-up leaves: no active configuration in STARTING or FAULT, or PARKED where its first sample takes PFW (R127, R133). -/
theorem startUp_active (s : State) : s.startUp.header.active = s.header.active ∧ s.startUp.ctl.state = s.ctl.state
    ∨ s.startUp.header.active = none ∧ s.startUp.ctl.state = .fault := by
  have granted := (sameSetup_arbitrate s.sampleStrap).active
  have ctl : s.startUp.ctl = s.sampleStrap.ctl := (arbitrate_keeps _).2.2.2.2.1
  rw [ctl]
  rw [← State.startUp] at granted
  rw [granted]
  unfold State.sampleStrap
  split
  · exact .inr (faulted_state s _)
  · exact .inl ⟨rfl, rfl⟩

theorem parkAtStart_active (s : State) (order : StartOrder) : ((s.parkAtStart order).header.active = s.header.active
    ∨ (s.parkAtStart order).header.active = none) ∧ (s.parkAtStart order).ctl.state = .parked := by
  have parked : ∀ u : State, u.noteParked.ctl.state = .parked := fun u => by
    rw [State.noteParked, (raise_keeps _ _ _ _).2.2.2.2.2.2.1]; rfl
  refine ⟨?_, parked _⟩
  have active : ∀ u : State, u.enterParking.noteParked.header.active = u.header.active := fun u =>
    ((sameSetup_enterParking u).trans (sameSetup_noteParked _)).active
  unfold State.parkAtStart
  rw [active]
  cases order with
  | pfwFirst => exact .inl rfl
  | strapFirst =>
    dsimp only [State.sampleStrap]
    split
    · exact .inr (faulted_state s _).1
    · exact .inl rfl

/-- A restart's (R133). -/
theorem beginRestart_active (s : State) (again : Option StartOrder) : (s.beginRestart again).header.active = none
    ∧ ((s.beginRestart again).ctl.state = .starting ∨ (s.beginRestart again).ctl.state = .fault
      ∨ (s.beginRestart again).ctl.state = .parked ∧ again ≠ none) := by
  cases again with
  | none =>
    rcases startUp_active s.volatileReset with ⟨active, state⟩ | ⟨active, state⟩
    · exact ⟨active, .inl state⟩
    · exact ⟨active, .inr (.inl state)⟩
  | some order =>
    obtain ⟨active, state⟩ := parkAtStart_active (s.volatileReset.setPins { s.pins with pfw := true }) order
    exact ⟨by rcases active with h | h <;> exact h, .inr (.inr ⟨state, by simp⟩)⟩

/-- The entry to PARKED's (R132, R133). -/
theorem enterParked_active (u : State) : u.enterParked.header.active = u.header.active
    ∨ u.enterParked.header.active = none ∧ (u.enterParked.ctl.state = .starting ∨ u.enterParked.ctl.state = .fault
      ∨ u.enterParked.ctl.state = .parked ∧ u.pins.pfw = false ∧ u.ctl.again ≠ none) := by
  unfold State.enterParked
  split
  · exact .inl (sameSetup_noteParked u).active
  · next released =>
    obtain ⟨active, state⟩ := beginRestart_active u.noteParked u.ctl.again
    exact .inr ⟨active, state.imp id (Or.imp id fun ⟨parked, again⟩ => ⟨parked, by simpa using released, again⟩)⟩

/-! ### Every command -/

/-- The active configuration goes with a start-up or FAULT (R114). -/
abbrev State.activeGone (s : State) (c : Instr) (t : State) : Prop :=
  t.header.active = none ∧ (t.ctl.state = .starting ∨ t.ctl.state = .fault
    ∨ t.ctl.state = .parked ∧ ((∃ msz order, c = .resetnRelease ⟨msz, order⟩ ∨ c = .restart ⟨msz, some order⟩)
      ∨ s.ctl.state = .parking ∧ s.pins.pfw = false ∧ s.ctl.again ≠ none))

/-- It stays as it is, or goes so. -/
abbrev State.activeStays (s : State) (c : Instr) (t : State) : Prop := t.header.active = s.header.active ∨ s.activeGone c t

section Commands

variable {s t u v : State} {c : Instr}

theorem activeStays_of (h : s.sameSetup t) : s.activeStays c t := .inl h.active

/-- An active configuration gone in PARKING is gone as R114 says. -/
theorem activeGone_parking (kept : s.leavesSetup u) (parking : u.ctl.state = .parking) (gone : t.header.active = none)
    (ends : t.ctl.state = .starting ∨ t.ctl.state = .fault ∨ t.ctl.state = .parked ∧ u.pins.pfw = false ∧ u.ctl.again ≠ none) :
    s.activeGone c t := by
  refine ⟨gone, ends.imp id (Or.imp id fun ⟨parked, released, again⟩ => ⟨parked, .inr ⟨kept.parking parking, ?_, ?_⟩⟩)⟩
  · rw [← kept.pfw, released]
  · rw [← kept.again]; exact again

/-- A completion whose effects leave the active configuration, or end in FAULT. -/
theorem activeStays_completion (o : MemOp) (kept : (s.finishOp o).activeOrFault u)
    (parked : s.ctl.state = .parking → (s.finishOp o).leavesSetup u) : s.activeStays c (State.afterCompletion s u) := by
  by_cases state : u.ctl.state = .parking
  · rw [afterCompletion_parking state]
    rcases kept with ⟨same, parking⟩ | ⟨-, fault⟩
    · have kept : s.activeStays c u.enterParked ↔ (s.finishOp o).activeStays c u.enterParked := .rfl
      have leaves := parked (parking state)
      rcases enterParked_active u with stays | ⟨gone, ends⟩
      · exact .inl (stays.trans same)
      · exact kept.2 (.inr (activeGone_parking leaves state gone ends))
    · rw [state] at fault; cases fault
  · rw [afterCompletion_settle state]
    rcases activeOrFault_settle (before := s) kept with same | ⟨gone, fault⟩
    · exact .inl same
    · exact .inr ⟨gone, .inr (.inl fault)⟩

theorem activeStays_leaves (o : MemOp) (kept : (s.finishOp o).leavesSetup u) : s.activeStays c (State.afterCompletion s u) :=
  activeStays_completion o (activeOrFault_of kept) fun _ => kept

/-- A completion leaves the state, or makes its effects (log 5). -/
theorem onOperation_elim {P : State → Prop} {k : OpKind} {effect : MemOp → State} (h : s.onOperation k effect = .next t) (stays : P s)
    (he : ∀ o, s.completing k = .underway o → P (effect o)) : P t := by
  unfold State.onOperation at h
  split at h
  · cases h
    exact stays
  · cases h
  · next o underway =>
    cases h
    exact he o underway

theorem onHeaderWrite_elim {P : State → Prop} {mine : WriteKind → Bool} {effect : State → WriteRequest → State}
    (h : s.onHeaderWrite mine effect = .next t) (stays : P s)
    (he : ∀ (o : MemOp) (w : WriteRequest), s.completing .headerWrite = .underway o → s.header.writeRequest = some w →
      mine w.kind = true → P (State.afterCompletion s (effect (s.finishOp o) w))) : P t := by
  refine onOperation_elim h stays fun o underway => ?_
  split
  · next w request =>
    split
    · next kind => exact he o w underway request kind
    · exact stays
  · exact stays

theorem activeStays_onLink {i : Instr} {effect : List Byte → State} (h : s.onLink i effect = .next t)
    (he : ∀ sent, (effect sent).header.active = s.header.active) : s.activeStays c t := by
  cases h
  split
  · split
    · exact .inl (he _)
    · exact .inl rfl
  · exact .inl rfl

/-- The host bus leaves the configurations (R137 to R150). -/
theorem activeStays_hostBus (h : exec c s = .next t) (named : (∃ word hlen lanes data, c = .hostWriteFirstBeat word hlen lanes data)
    ∨ (∃ lanes data, c = .hostWriteLaterBeat lanes data) ∨ (∃ word hlen lanes, c = .hostReadFirstBeat word hlen lanes)
    ∨ ∃ lanes, c = .hostReadLaterBeat lanes) : s.activeStays c t := by
  have settles : ∀ {u before : State}, s.leavesSetup u → s.activeStays c (State.settle before u) := fun kept =>
    activeStays_of (kept.setup.trans (sameSetup_settle _ _))
  rcases named with ⟨word, hlen, lanes, data, rfl⟩ | ⟨lanes, data, rfl⟩ | ⟨word, hlen, lanes, rfl⟩ | ⟨lanes, rfl⟩
  · cases h
    split
    · refine settles ?_
      split
      · exact (leavesSetup_truncate s).trans (leavesSetup_closeBeat _ _ _)
      · exact (leavesSetup_truncate s).trans (leavesSetup_decodeWrite _ _ _ _ _)
    · exact .inl rfl
  · cases h
    split
    · exact settles (leavesSetup_laterWrite s _ _ _ _)
    · exact .inl rfl
  · cases h
    split
    · refine settles ?_
      split
      · exact (leavesSetup_truncate s).trans (leavesSetup_closeBeat _ _ _)
      · exact (leavesSetup_truncate s).trans (leavesSetup_decodeRead _ _ _ _)
    · exact .inl rfl
  · cases h
    split
    · refine settles ?_
      split
      · exact leavesSetup_serveRead s _ _
      · exact leavesSetup_closeBeat s _ _
    · exact .inl rfl

/-- So does the epoch control port (R76 to R81). -/
theorem activeStays_requestEdge (op : Operation) : s.activeStays c (s.requestEdge op) := by
  unfold State.requestEdge
  dsimp only
  split
  · exact .inl rfl
  · obtain ⟨u, hu⟩ : ∃ u, (s.setPins { s.pins with ereq := true, eop := op.eop }).setCtl
        { (s.setPins { s.pins with ereq := true, eop := op.eop }).ctl with lowSeen := true } = u := ⟨_, rfl⟩
    rw [hu]
    have low : s.sameSetup u := by rw [← hu]; exact ⟨rfl, rfl, rfl, rfl⟩
    exact activeStays_of ((low.trans (leavesSetup_risingEdge u op).setup).trans (sameSetup_settle _ _))

theorem activeStays_hostReadWordArrival {merr : Option MWord} (h : execHostReadWordArrival merr s = .next t) : s.activeStays c t := by
  refine onOperation_elim (P := s.activeStays _) h (.inl rfl) fun o _ => ?_
  split
  · obtain ⟨u, hu⟩ : ∃ u, s.setPort { s.port with
        op := some { o with beat := o.beat + 1 }, address := BitVec.ofNat 24 (o.start + o.beat) } = u := ⟨_, rfl⟩
    have passed : s.sameSetup u := by rw [← hu]; exact ⟨rfl, rfl, rfl, rfl⟩
    have placed : ∀ word data bad, u.leavesSetup (u.placeWord word data bad) := by
      intro word data bad
      unfold State.placeWord
      split
      · split
        · exact .refl u
        · exact leavesSetup_setHost u _
      · exact .refl u
    have answered : ∀ (v : State) word data bad, v.leavesSetup (v.answerArrived word data bad) := by
      intro v word data bad
      unfold State.answerArrived
      split
      · split
        · exact leavesSetup_answerWord v _ _ _ _
        · exact .refl v
      · exact .refl v
    have taken : s.sameSetup (s.takeWord o merr) := by
      unfold State.takeWord
      dsimp only
      rw [hu]
      exact passed.trans ((placed _ _ _).trans (answered _ _ _ _)).setup
    exact activeStays_of (taken.trans (sameSetup_settle _ _))
  · exact .inl rfl

/-- Reset and power (R127, R128, R133, R134). -/
theorem activeStays_release {sample : ReleaseSample} (h : execResetnRelease sample s = .next t) :
    s.activeStays (.resetnRelease sample) t := by
  cases h
  dsimp only
  split
  · split
    · obtain ⟨active, state⟩ := parkAtStart_active (s.setPins { s.pins with resetLow := false, msz := sample.msz }) sample.order
      rcases active with same | gone
      · exact .inl same
      · exact .inr ⟨gone, .inr (.inr ⟨state, .inl ⟨sample.msz, sample.order, .inl rfl⟩⟩)⟩
    · rcases startUp_active (s.setPins { s.pins with resetLow := false, msz := sample.msz }) with ⟨same, -⟩ | ⟨gone, fault⟩
      · exact .inl same
      · exact .inr ⟨gone, .inr (.inl fault)⟩
  · exact .inl rfl

theorem activeStays_restart {sample : RestartSample} (h : execRestart sample s = .next t) : s.activeStays (.restart sample) t := by
  cases h
  dsimp only
  split
  · exact .inl rfl
  · split
    · obtain ⟨gone, state⟩ := beginRestart_active (s.setPins { s.pins with pfw := false, msz := sample.msz }) sample.again
      refine .inr ⟨gone, state.imp id (Or.imp id fun ⟨parked, again⟩ => ⟨parked, .inl ?_⟩)⟩
      obtain ⟨order, horder⟩ := Option.ne_none_iff_exists'.1 again
      exact ⟨sample.msz, order, .inr (by rw [← horder])⟩
    · split <;> exact .inl rfl

theorem activeStays_pfwTaken (h : execPfwTaken s = .next t) : s.activeStays c t := by
  cases h
  obtain ⟨u, hu⟩ : ∃ u, s.setPins { s.pins with pfw := true } = u := ⟨_, rfl⟩
  have seen : s.sameSetup u := by rw [← hu]; exact ⟨rfl, rfl, rfl, rfl⟩
  dsimp only
  rw [hu]
  refine activeStays_of (seen.trans ?_)
  split
  · exact .refl u
  · split
    · exact ⟨rfl, rfl, rfl, rfl⟩
    · split
      · exact sameSetup_enterParking u
      · exact (sameSetup_enterParking u).trans (sameSetup_noteParked _)

/-! ### The completions that select a configuration -/

/-- What an event's end leaves of an active configuration it found (R114). -/
theorem active_afterCompletion (before u : State) : (State.afterCompletion before u).header.active = u.header.active
    ∨ u.ctl.state = .parking ∧ (State.afterCompletion before u).header.active = none
      ∧ ((State.afterCompletion before u).ctl.state = .starting ∨ (State.afterCompletion before u).ctl.state = .fault
        ∨ (State.afterCompletion before u).ctl.state = .parked ∧ u.pins.pfw = false ∧ u.ctl.again ≠ none) := by
  by_cases parking : u.ctl.state = .parking
  · rw [afterCompletion_parking parking]
    exact (enterParked_active u).imp id fun gone => ⟨parking, gone⟩
  · rw [afterCompletion_settle parking]
    exact .inl (sameSetup_settle before u).active

/-- An active configuration that a completion writes, as its event ends (R89, R114, R170). -/
theorem active_written (before : State) (kept : u.leavesSetup v) (pfw : u.pins.pfw = s.pins.pfw) (ctl : u.ctl.state = s.ctl.state)
    (again : u.ctl.again = s.ctl.again) : (State.afterCompletion before v).header.active = u.header.active
      ∨ s.activeGone c (State.afterCompletion before v) := by
  by_cases parking : v.ctl.state = .parking
  · rw [afterCompletion_parking parking]
    refine (enterParked_active v).imp (fun same => same.trans kept.setup.active) fun ⟨gone, ends⟩ => ⟨gone, ?_⟩
    refine ends.imp id (Or.imp id fun ⟨parked, released, kept'⟩ => ⟨parked, .inr ⟨ctl ▸ kept.parking parking, ?_, ?_⟩⟩)
    · rw [← pfw, ← kept.pfw, released]
    · rw [← again, ← kept.again]; exact kept'
  · rw [afterCompletion_settle parking, (sameSetup_settle before v).active, kept.setup.active]
    exact .inl rfl

/-- A seal's effects (R89). -/
theorem takeSeal_active (s : State) (w : WriteRequest) : ∃ u : State, u.leavesSetup (s.takeSeal w) ∧ u.pins.pfw = s.pins.pfw
    ∧ u.ctl.state = s.ctl.state ∧ u.ctl.again = s.ctl.again
    ∧ u.header.active = if w.wrotePending then some w.header.config else s.header.active := by
  refine ⟨s.applySeal w w.header, ?_, ?_⟩
  · unfold State.takeSeal
    dsimp only
    split
    · exact .refl _
    · exact ((leavesSetup_enters _ (by decide)).trans (leavesSetup_reachResult _ _)).trans (leavesSetup_takeRemembered _)
  · have written := (leavesSetup_selectWritten s w.target w.header).setup.active
    unfold State.applySeal
    dsimp only
    split
    · simp [State.clearEpoch, State.selectWritten]
    · exact ⟨rfl, rfl, rfl, written⟩

/-- A format write's (R170). -/
theorem takeFormat_active (s : State) (w : WriteRequest) : ∃ u : State, u.leavesSetup (s.takeFormat w) ∧ u.pins.pfw = s.pins.pfw
    ∧ u.ctl.state = s.ctl.state ∧ u.ctl.again = s.ctl.again ∧ u.header.active = some w.header.config := by
  refine ⟨(((s.selectWritten w.target w.header).setHeader { (s.selectWritten w.target w.header).header with
      active := some w.header.config, pendingConfig := none }).setDec
        ((s.selectWritten w.target w.header).dec.load w.header.config)).clearEpoch, ?_, rfl, rfl, rfl, rfl⟩
  exact (leavesSetup_openUnlessParking _).trans (leavesSetup_takeRemembered _)

/-- What a recovery's steps leave: RECOVERING, or FAULT (R121 to R123). -/
abbrev State.recoversOrFaults (t : State) : Prop :=
  t.ctl.state = .recovering ∨ t.header.active = none ∧ t.ctl.state = .fault

theorem recoversOrFaults_endRecovery (recovering : u.ctl.state = .recovering) : u.endRecovery.recoversOrFaults := by
  unfold State.endRecovery
  dsimp only
  split
  · exact .inr (faulted_state _ _)
  · exact .inl recovering

theorem recoversOrFaults_finishWalk (recovering : u.ctl.state = .recovering) : u.finishWalk.recoversOrFaults := by
  unfold State.finishWalk
  split
  · exact recoversOrFaults_endRecovery recovering
  · exact .inl recovering

theorem recoversOrFaults_scanFrom (recovering : u.ctl.state = .recovering) (slot : Nat) : (u.scanFrom slot).recoversOrFaults := by
  have ends : ∀ n, (u.endScan n).recoversOrFaults := fun n => by
    cases n with
    | zero => exact recoversOrFaults_finishWalk (by exact recovering)
    | succ k => exact .inl recovering
  unfold State.scanFrom
  split
  · exact ends _
  · exact .inl recovering

theorem recoversOrFaults_select (slot : Slot) (h : HeaderRecord) (other : Judgement) : (u.select slot h other).recoversOrFaults := by
  obtain ⟨x, hx⟩ : ∃ x, u.headerTaken slot h other = x := ⟨_, rfl⟩
  have recovering : x.ctl.state = .recovering := by
    rw [← hx, (headerTaken_makes u slot h other).2.2.1]
  unfold State.select
  rw [← State.headerTaken, hx]
  unfold State.beginRecovery
  dsimp only
  split
  · exact recoversOrFaults_endRecovery (by simp [recovering])
  · exact recoversOrFaults_scanFrom (by exact recovering) 0

/-- A start-up read's: in PARKING it selects nothing; else it may enter RECOVERING, or FAULT (R117, R118, R123, R130). -/
theorem takeHeader_leaves (s : State) (slot : Slot) (merr : List BadBeat) (ws : List MWord) :
    (s.ctl.state = .parking → s.leavesSetup (s.takeHeader slot merr ws)) ∧ (s.ctl.state ≠ .parking →
      s.leavesSetup (s.takeHeader slot merr ws) ∨ (s.takeHeader slot merr ws).recoversOrFaults) := by
  obtain ⟨u, hu⟩ : ∃ u, s.setHeader { (s.header.setSurvey slot (surveyOf (judgeSlot s.size (!merr.isEmpty) (bytesOf ws))
      (HeaderRecord.ofBytes (bytesOf ws)))) with readRequest := none } = u := ⟨_, rfl⟩
  have judged : s.leavesSetup u := by
    obtain ⟨active, pending⟩ := leavesSetup_setSurvey s.header slot (surveyOf (judgeSlot s.size (!merr.isEmpty) (bytesOf ws))
      (HeaderRecord.ofBytes (bytesOf ws)))
    rw [← hu]
    exact leavesSetup_setHeader active pending
  have state : u.ctl.state = s.ctl.state := by rw [← hu]; rfl
  unfold State.takeHeader
  dsimp only
  rw [hu, state]
  refine ⟨fun parking => by rw [if_pos parking]; exact judged, fun going => ?_⟩
  rw [if_neg going]
  cases slot with
  | a => exact .inl (judged.trans (leavesSetup_setHeader rfl rfl))
  | b =>
    dsimp only [State.selectSlot]
    split
    · exact .inr (recoversOrFaults_select _ _ _)
    · exact .inr (recoversOrFaults_select _ _ _)
    · unfold State.selectNone
      split
      · exact .inl ((judged.trans (leavesSetup_enters u (by decide))).trans (leavesSetup_endStartUp _))
      · split
        · exact .inr (.inr (faulted_state _ _))
        · exact .inr (.inr (faulted_state _ _))

end Commands

section Statement

variable {s t : State} {c : Instr}

/-- Every command but three leaves the active configuration, or it goes as R114 says. -/
theorem exec_activeStays (h : exec c s = .next t) (sealing : c ≠ .sealComplete) (format : c ≠ .formatWriteComplete)
    (read : ∀ merr, c ≠ .headerReadComplete merr) : s.activeStays c t := by
  have writes : ∀ {mine effect}, (∀ (u : State) w, u.leavesSetup (effect u w)) → s.onHeaderWrite mine effect = .next t →
      s.activeStays c t := fun kept done => onHeaderWrite_elim (P := s.activeStays c) done (.inl rfl) fun o w _ _ _ =>
        activeStays_leaves o (kept _ w)
  have cuts : ∀ {tear}, s.cutOff tear = .next t → s.activeStays c t := by
    intro tear done
    unfold State.cutOff at done
    split at done
    · cases done
      exact .inr ⟨rfl, .inl rfl⟩
    · cases done
  cases c with
  | sealComplete => exact absurd rfl sealing
  | formatWriteComplete => exact absurd rfl format
  | headerReadComplete merr => exact absurd rfl (read merr)
  | resetnAssert tear => exact cuts h
  | supplyCollapse tear => exact cuts h
  | resetnRelease sample => exact activeStays_release h
  | restart sample => exact activeStays_restart h
  | pfwTaken => exact activeStays_pfwTaken h
  | hostWriteFirstBeat word hlen lanes data => exact activeStays_hostBus h (.inl ⟨word, hlen, lanes, data, rfl⟩)
  | hostWriteLaterBeat lanes data => exact activeStays_hostBus h (.inr (.inl ⟨lanes, data, rfl⟩))
  | hostReadFirstBeat word hlen lanes => exact activeStays_hostBus h (.inr (.inr (.inl ⟨word, hlen, lanes, rfl⟩)))
  | hostReadLaterBeat lanes => exact activeStays_hostBus h (.inr (.inr (.inr ⟨lanes, rfl⟩)))
  | hostReadWordArrival merr => exact activeStays_hostReadWordArrival h
  | hostReadComplete =>
    refine onOperation_elim (P := s.activeStays _) h (.inl rfl) fun o _ => ?_
    split
    · refine activeStays_leaves o ?_
      dsimp only
      split
      · exact leavesSetup_setHost _ _
      · exact (leavesSetup_setHost _ _).trans (leavesSetup_requestWaiting _)
    · exact .inl rfl
  | commit => cases h; exact activeStays_requestEdge .commit
  | rollback => cases h; exact activeStays_requestEdge .rollback
  | flush => cases h; exact activeStays_requestEdge .flush
  | illegalOperation => cases h; exact activeStays_requestEdge .illegal
  | answerAck ereq =>
    cases h
    split
    · split
      · exact .inl rfl
      · exact activeStays_of (leavesSetup_ereqLow s).setup
    · exact .inl rfl
  | ereqFall =>
    cases h
    split
    · exact .inl rfl
    · exact activeStays_of (leavesSetup_ereqLow s).setup
  | drainWriteComplete =>
    exact onOperation_elim (P := s.activeStays _) h (.inl rfl) fun o _ => activeStays_leaves o (((leavesSetup_keepEntries _ _).trans (leavesSetup_reoffer _ _)).trans
      (leavesSetup_flushTest _))
  | preImageReadComplete merr =>
    exact onOperation_elim (P := s.activeStays _) h (.inl rfl) fun o _ => activeStays_leaves o (leavesSetup_takePreImage _ _ _)
  | recordWriteComplete => exact onOperation_elim (P := s.activeStays _) h (.inl rfl) fun o _ => activeStays_leaves o (leavesSetup_completeCapture _)
  | recordReadComplete merr =>
    refine onOperation_elim (P := s.activeStays _) h (.inl rfl) fun o _ => activeStays_completion o ?_ fun parking => ?_
    · split
      · exact activeOrFault_of (leavesSetup_setEngine _ _)
      · exact activeOrFault_takeRecord _ _ _
    · rw [if_pos (by exact parking)]
      exact leavesSetup_setEngine _ _
  | restoreWriteComplete =>
    refine onOperation_elim (P := s.activeStays _) h (.inl rfl) fun o _ => activeStays_completion o ?_ fun parking => ?_
    · dsimp only
      split
      · exact activeOrFault_of ((leavesSetup_setEngine _ _).trans (leavesSetup_setEngine _ _))
      · exact activeOrFault_after (leavesSetup_setEngine _ _) (activeOrFault_stepWalk _)
    · dsimp only
      rw [if_pos (by exact parking)]
      exact (leavesSetup_setEngine _ _).trans (leavesSetup_setEngine _ _)
  | markWriteComplete => exact writes leavesSetup_takeMark (show execMarkWriteComplete s = .next t from h)
  | recoverySealComplete => exact writes leavesSetup_takeRecoverySeal (show execRecoverySealComplete s = .next t from h)
  | clearingWriteComplete => exact writes leavesSetup_takeClearing (show execClearingWriteComplete s = .next t from h)
  | getStatus => exact activeStays_onLink (show execGetStatus s = .next t from h) fun _ => rfl
  | getStaged => exact activeStays_onLink (show execGetStaged s = .next t from h) fun _ => rfl
  | unknownCommand code => exact activeStays_onLink (show execUnknownCommand code s = .next t from h) fun _ => rfl
  | popEvent => exact activeStays_onLink (show execPopEvent s = .next t from h) fun _ => by dsimp only; split <;> rfl
  | popEventRemoval =>
    cases h
    split
    · dsimp only
      split <;> exact .inl rfl
    · exact .inl rfl
  | getActive => exact activeStays_onLink (show execGetActive s = .next t from h) fun _ => by split <;> rfl
  | stageRegion index present cls base length =>
    refine activeStays_onLink (show execStageRegion index present cls base length s = .next t from h) fun _ => ?_
    split
    · rfl
    · split <;> rfl
  | stageLog capacity policy watermark => exact activeStays_onLink (show execStageLog capacity policy watermark s = .next t from h) fun _ => by split <;> rfl
  | apply =>
    refine activeStays_onLink (show execApply s = .next t from h) fun _ => ?_
    split
    · rfl
    · split <;> rfl
  | unstage => exact activeStays_onLink (show execUnstage s = .next t from h) fun _ => by dsimp only; split <;> rfl
  | format number =>
    refine activeStays_onLink (show execFormat number s = .next t from h) fun _ => ?_
    split
    · rfl
    · split
      · rfl
      · split
        · rfl
        · exact (sameSetup_arbitrate _).active
  | frameEnd =>
    cases h
    split <;> exact .inl rfl
  | frameStart =>
    cases h
    split
    · exact .inl rfl
    · dsimp only
      split <;> exact .inl rfl

end Statement

/-- The configuration a header write holds. -/
theorem WriteRequest.config_eq (w : WriteRequest) : w.header.config = (w.content.map HeaderRecord.config).getD .default := by
  unfold WriteRequest.header
  cases w.content <;> rfl

/-- Settles O17. -/
theorem activeConfigurationChangesOnlyAsStated : Obligations.ActiveConfigurationChangesOnlyAsStated := by
  intro s c t h moved
  by_cases sealing : c = .sealComplete
  · subst sealing
    have stays : t.header.active = s.header.active ∨ s.activeGone .sealComplete t ∨ ∃ w ∈ s.header.writeRequest, w.wrotePending = true
        ∧ t.header.active = some ((w.content.map HeaderRecord.config).getD .default) := by
      refine onHeaderWrite_elim (P := fun t => t.header.active = s.header.active ∨ s.activeGone .sealComplete t
        ∨ ∃ w ∈ s.header.writeRequest, w.wrotePending = true ∧ t.header.active = some ((w.content.map HeaderRecord.config).getD .default))
        (show execSealComplete s = .next t from h) (.inl rfl) fun o w _ request _ => ?_
      obtain ⟨u, kept, pfw, state, again, active⟩ := takeSeal_active (s.finishOp o) w
      rcases active_written (c := .sealComplete) (s := s) s kept pfw state again with written | gone
      · rw [written, active]
        split
        · next took => exact .inr (.inr ⟨w, request, took, by rw [WriteRequest.config_eq]⟩)
        · exact .inl rfl
      · exact .inr (.inl gone)
    rcases stays.resolve_left moved with gone | took
    · exact .inr (.inr (.inr gone))
    · exact .inl ⟨rfl, took⟩
  by_cases format : c = .formatWriteComplete
  · subst format
    have stays : t.header.active = s.header.active ∨ s.activeGone .formatWriteComplete t ∨ ∃ w ∈ s.header.writeRequest,
        t.header.active = some ((w.content.map HeaderRecord.config).getD .default) := by
      refine onHeaderWrite_elim (P := fun t => t.header.active = s.header.active ∨ s.activeGone .formatWriteComplete t
        ∨ ∃ w ∈ s.header.writeRequest, t.header.active = some ((w.content.map HeaderRecord.config).getD .default))
        (show execFormatWriteComplete s = .next t from h) (.inl rfl) fun o w _ request _ => ?_
      obtain ⟨u, kept, pfw, state, again, active⟩ := takeFormat_active (s.finishOp o) w
      rcases active_written (c := .formatWriteComplete) (s := s) s kept pfw state again with written | gone
      · exact .inr (.inr ⟨w, request, by rw [written, active, WriteRequest.config_eq]⟩)
      · exact .inr (.inl gone)
    rcases stays.resolve_left moved with gone | took
    · exact .inr (.inr (.inr gone))
    · exact .inr (.inl ⟨rfl, took⟩)
  by_cases read : ∃ merr, c = .headerReadComplete merr
  · obtain ⟨merr, rfl⟩ := read
    have stays : s.activeStays (.headerReadComplete merr) t ∨ t.ctl.state = .recovering := by
      refine onOperation_elim (P := fun t => s.activeStays (.headerReadComplete merr) t ∨ t.ctl.state = .recovering)
        (show execHeaderReadComplete merr s = .next t from h) (.inl (.inl rfl)) fun o _ => ?_
      obtain ⟨parked, selects⟩ := takeHeader_leaves (s.finishOp o) ((s.header.readRequest.map ReadRequest.slot).getD .a) merr
        (s.wordsRead o merr)
      by_cases parking : s.ctl.state = .parking
      · exact .inl (activeStays_leaves o (parked parking))
      · rcases selects parking with kept | recovering | ⟨gone, fault⟩
        · exact .inl (activeStays_leaves o kept)
        · refine .inr ?_
          rw [afterCompletion_settle (by rw [recovering]; decide)]
          rw [(settle_elsewhere_keeps (by rw [recovering]; decide) rfl).2.2.2.2.1, recovering]
        · exact .inl (activeStays_completion o (.inr ⟨gone, fault⟩) parked)
    rcases stays with stays | recovering
    · exact .inr (.inr (.inr (stays.resolve_left moved)))
    · exact .inr (.inr (.inl ⟨merr, rfl, recovering⟩))
  · exact .inr (.inr (.inr ((exec_activeStays h sealing format fun merr same => read ⟨merr, same⟩).resolve_left moved)))

end Sys2Proof.Machine
end


section
/-! What no event leaves behind it: an IDLE port with a request standing, or an effect owed (R26, R73, R78, R86, R97, R104,
R159). -/

namespace Sys2Proof.Machine

section Ends

variable {s u v w t : State}

/-! ### The grant -/

/-- The choice falls on a request that stands (R158, R159). -/
theorem standing_of_choice {r : Requester} (h : s.choice = some r) : (s.standing r).isSome := by
  unfold State.choice at h
  split at h
  · cases h; assumption
  split at h
  · cases h; assumption
  split at h
  · cases h; assumption
  split at h
  · next read =>
    split at h
    · next aged => cases h; exact aged.2
    · cases h; exact read
  split at h
  · cases h; assumption
  · cases h

/-- None is made where none stands (R159). -/
theorem choice_none (h : s.choice = none) : s.standing .header = none ∧ s.standing .engine = none ∧ s.standing .capture = none
    ∧ s.standing .hostRead = none ∧ s.standing .drain = none := by
  unfold State.choice at h
  split at h
  · cases h
  split at h
  · cases h
  split at h
  · cases h
  split at h
  · split at h <;> cases h
  split at h
  · cases h
  · next header engine capture read drain =>
    exact ⟨by simpa using header, by simpa using engine, by simpa using capture, by simpa using read, by simpa using drain⟩

/-- On an IDLE port outside PARKING and PARKED a request is granted, or none stands (R159). -/
theorem arbitrate_grants (idle : s.port.op = none) (parking : s.ctl.state ≠ .parking) (parked : s.ctl.state ≠ .parked) :
    s.arbitrate = s ∧ s.choice = none ∨ ∃ r o, s.choice = some r ∧ s.standing r = some o ∧ s.arbitrate = s.grant r o := by
  unfold State.arbitrate
  rw [if_neg (by simp [idle, parking, parked])]
  cases choice : s.choice with
  | none => exact .inl ⟨rfl, rfl⟩
  | some r =>
    obtain ⟨o, standing⟩ := Option.isSome_iff_exists.1 (standing_of_choice choice)
    exact .inr ⟨r, o, rfl, standing, by simp only [standing]⟩

/-- No offer is due where nothing has changed (R39, R62). -/
theorem reoffer_unchanged (u : State) : State.reoffer u u = u := by
  unfold State.reoffer State.offerDue
  split
  · next c p b _ _ _ =>
    refine if_neg fun due => ?_
    obtain ⟨-, -, due⟩ := due
    split at due
    · simp at due
    · simp only [Bool.and_eq_true, decide_eq_true_eq] at due
      omega
    · cases due
  · rfl

/-! ### Captures and their tests -/

/-- A capture that could be taken (R26). -/
abbrev State.captureDue (s : State) : Prop :=
  s.capture.phase = .idle ∧ (s.ctl.state = .opened ∨ s.ctl.state = .draining) ∧ s.table.status = some .intact
    ∧ 0 < capturingCount s.table.entries

theorem oldestCapturing_none {t : GranuleTable} : t.oldestCapturing = none ↔ capturingCount t.entries = 0 := by
  rw [GranuleTable.oldestCapturing, List.find?_eq_none, capturingCount, List.countP_eq_zero]

/-- Where none could be, none is taken (R26). -/
theorem takeCapture_undue (h : ¬s.captureDue) : s.takeCapture = s := by
  unfold State.takeCapture
  split
  · next due =>
    obtain ⟨idle, state, intact⟩ := due
    have few : capturingCount s.table.entries = 0 := by
      by_contra some
      exact h ⟨idle, state, intact, by omega⟩
    rw [oldestCapturing_none.2 few]
  · rfl

/-- After it none could be (R26). -/
theorem captureDue_takeCapture (s : State) : ¬s.takeCapture.captureDue := by
  by_cases due : s.captureDue
  · obtain ⟨idle, state, intact, some⟩ := due
    cases oldest : s.table.oldestCapturing with
    | none => have := oldestCapturing_none.1 oldest; omega
    | some e =>
      rw [takeCapture_takes idle state intact oldest]
      rintro ⟨reading, -⟩
      cases reading
  · rw [takeCapture_undue due]
    exact due

/-- Whether one could be hangs on the unit's phase, the device state and the table. -/
theorem captureDue_congr (phase : v.capture.phase = u.capture.phase) (ctl : v.ctl.state = u.ctl.state) (table : v.table = u.table) :
    v.captureDue ↔ u.captureDue := by
  unfold State.captureDue
  rw [phase, ctl, table]

/-- The tests leave the controller, or enter SEALING from DRAINING or ROLLING_BACK (R86, R104). -/
theorem tested_ctl (s : State) : s.tested.ctl = s.ctl ∨ s.tested.ctl.state = .sealing := by
  obtain ⟨-, -, -, -, -, -, -, -, -, -, ctl, state, -⟩ := endsIn_tested s
  rcases state with same | ⟨-, sealing⟩
  · rw [same] at ctl
    exact .inl ctl
  · exact .inr sealing

/-- They leave no capture that could be taken (R26). -/
theorem captureDue_tested (s : State) : ¬s.tested.captureDue := by
  have due := captureDue_takeCapture s
  rcases tested_ctl s with same | sealing
  · rw [captureDue_congr (u := s.takeCapture)]
    · exact due
    · simp
    · rw [same]; simp
    · simp
  · rintro ⟨-, opened | draining, -⟩
    · rw [sealing] at opened; cases opened
    · rw [sealing] at draining; cases draining

/-- No commit's wait that is satisfied (R86). -/
theorem commitReady_tested (s : State) : s.tested.commitReady = false := by
  by_cases draining : s.tested.ctl.state = .draining
  · have going : s.takeCapture.commitTest.ctl.state ≠ .rollingBack := by
      intro rolling
      rcases commitTest_cases s.takeCapture with same | ⟨-, sealing⟩
      · rcases tested_ctl s with kept | sealed
        · rw [same] at rolling
          rw [kept, ← (takeCapture_keeps s).2.2.2.2.2.1, rolling] at draining
          cases draining
        · rw [sealed] at draining; cases draining
      · rw [sealing] at rolling; cases rolling
    have made : s.tested = s.takeCapture.commitTest := rollbackTest_elsewhere going
    rw [made] at draining ⊢
    unfold State.commitTest at draining ⊢
    split at draining
    · cases draining
    · next unready =>
      rw [if_neg unready]
      simpa using unready
  · simp [State.commitReady, draining]

/-- A walk begun is at work, or done (R99). -/
theorem settled_beginWalk (s : State) : s.beginWalk.settled = false := by
  unfold State.beginWalk
  dsimp only
  split
  · rw [finishWalk_rollback rfl]
    simp [State.settled]
  · simp [State.settled, State.readSlot]

/-- And no rollback settled or due for its seal (R97, R104). -/
theorem rollback_tested (s : State) : s.tested.settled = false
    ∧ ¬(s.tested.ctl.state = .rollingBack ∧ s.tested.engine.walkDone = true ∧ s.tested.queue.entries = []) := by
  obtain ⟨x, hx⟩ : ∃ x, s.takeCapture.commitTest = x := ⟨_, rfl⟩
  have made : s.tested = x.rollbackTest := by rw [← hx]
  obtain ⟨z, hz⟩ : ∃ z, (if x.settled then x.beginWalk else x) = z := ⟨_, rfl⟩
  have unsettled : z.settled = false := by
    rw [← hz]
    split
    · exact settled_beginWalk x
    · next undue => simpa using undue
  rw [made]
  unfold State.rollbackTest
  rw [hz]
  dsimp only
  split
  · refine ⟨by simp [State.settled, State.requestSeal, State.requestWrite], ?_⟩
    rintro ⟨sealing, -⟩
    cases sealing
  · next undue =>
    refine ⟨unsettled, ?_⟩
    rintro ⟨rolling, done, empty⟩
    exact undue ⟨rolling, done, by simp [empty]⟩

/-! ### The end of an event -/

/-- The end of an event, from its tests on (log 6). -/
theorem settle_tested (before u : State) : ∃ w : State, State.settle before u
    = (State.reoffer w.tested w.tested.arbitrate).takeCapture ∧ w.tested.ctl = (State.settle before u).ctl
      ∧ w = (State.reoffer before u).releaseRead := by
  refine ⟨(State.reoffer before u).releaseRead, rfl, ?_, rfl⟩
  show _ = ((State.reoffer _ (State.arbitrate _)).takeCapture).ctl
  rw [(takeCapture_keeps _).2.2.2.2.2.1, (offerLeaves_reoffer _ _).ctl, (arbitrate_keeps _).2.2.2.2.1]

/-- No event ends with an IDLE port and a request standing (R159). -/
theorem workConserving_settle (before u : State) : (State.settle before u).workConserving := by
  obtain ⟨w, ends, ctl, -⟩ := settle_tested before u
  intro _ parking parked idle
  rw [← ctl] at parking parked
  have kept := (leavesSetup_reoffer w.tested w.tested.arbitrate).trans (leavesSetup_takeCapture _)
  rw [ends, kept.op] at idle
  have free : w.tested.port.op = none := by
    cases busy : w.tested.port.op with
    | none => rfl
    | some o =>
      rw [arbitrate_busy (by rw [busy]; rfl), busy] at idle
      cases idle
  rcases arbitrate_grants free parking parked with ⟨same, none⟩ | ⟨r, o, -, -, granted⟩
  · rw [ends, same, reoffer_unchanged, takeCapture_undue (captureDue_tested w)]
    exact choice_none none
  · rw [granted] at idle
    cases idle

/-- A flush mark is satisfied by the ages alone (R73). -/
theorem flushed_congr {q r : PostingQueue} (mark : r.mark = q.mark) (ages : r.ages = q.ages) : r.flushed = q.flushed := by
  have shown : ∀ q : PostingQueue, q.flushed = match q.mark with
      | some m => q.ages.all fun a => !atOrBefore m a
      | none => false := by
    intro q
    unfold PostingQueue.flushed
    rw [PostingQueue.ages]
    cases q.mark with
    | none => rfl
    | some m => simp [Function.comp_def]
  rw [shown, shown, mark, ages]

theorem ages_undrained {q r : PostingQueue} (same : r.entries.map QueueEntry.undrained = q.entries.map QueueEntry.undrained) :
    r.ages = q.ages := by
  have shown : ∀ q : PostingQueue, q.ages = (q.entries.map QueueEntry.undrained).map QueueEntry.age := by
    intro q
    rw [List.map_map]
    rfl
  rw [shown, shown, same]

/-- An offer satisfies none that was not (R73). -/
theorem unflushed_offered (leaves : u.offerLeaves w) (h : u.queue.flushed = false) : w.queue.flushed = false := by
  cases mark : u.queue.mark with
  | none =>
    unfold PostingQueue.flushed
    rw [leaves.mark, mark]
  | some m =>
    unfold PostingQueue.flushed at h
    rw [mark] at h
    obtain ⟨e, he, near⟩ := List.all_eq_false.1 h
    refine not_flushed_behindOffer leaves mark (List.mem_map_of_mem he) ?_
    simpa [atOrBefore] using near

/-- Nor does the rest of an event's end (R73). -/
theorem unflushed_settle (before : State) (h : u.queue.flushed = false) : (State.settle before u).queue.flushed = false := by
  obtain ⟨w, ends, -, released⟩ := settle_tested before u
  have offered := unflushed_offered (offerLeaves_reoffer before u) h
  have same : w.queue = (State.reoffer before u).queue := by rw [released, (releaseRead_keeps _).2.2.2.2.2.1]
  have tested : w.tested.queue = w.queue := by simp
  have granted : w.tested.arbitrate.queue.flushed = false := by
    obtain ⟨n, queue⟩ := arbitrate_queue w.tested
    rw [queue, flushed_congr (q := w.tested.queue) (r := { w.tested.queue with entries := markDraining n w.tested.queue.entries }) rfl
      (ages_undrained (markDraining_undrained n _)), tested, same]
    exact offered
  rw [ends, (takeCapture_keeps _).2.2.2.2.1]
  exact unflushed_offered (offerLeaves_reoffer _ _) granted

/-- In ROLLING_BACK no offer is made, and no capture taken (R146). -/
theorem reoffer_closed (before : State) (closed : u.ctl.state ≠ .opened) : State.reoffer before u = u := by
  unfold State.reoffer
  split
  · exact if_neg fun due => closed due.1
  · rfl

/-- What a grant leaves of what the commit's and the rollback's tests look at. -/
theorem arbitrate_tests (s : State) : s.arbitrate.commitReady = s.commitReady ∧ s.arbitrate.settled = s.settled
    ∧ s.arbitrate.engine.walkDone = s.engine.walkDone ∧ (s.arbitrate.queue.entries = [] ↔ s.queue.entries = [])
    ∧ s.arbitrate.capture.phase = s.capture.phase := by
  have engine := arbitrate_engine s
  obtain ⟨-, -, -, table, ctl, -⟩ := arbitrate_keeps s
  obtain ⟨n, queue⟩ := arbitrate_queue s
  have empty : s.arbitrate.queue.entries = [] ↔ s.queue.entries = [] := by
    rw [queue, ← List.length_eq_zero_iff, ← List.length_eq_zero_iff]
    dsimp only
    rw [markDraining_length]
  have walkDone : s.arbitrate.engine.walkDone = s.engine.walkDone := by rw [engine]
  have ephase : s.arbitrate.engine.phase = s.engine.phase := by rw [engine]
  have cphase : s.arbitrate.capture.phase = s.capture.phase := by
    rcases arbitrate_capture s with same | granted
    · rw [same]
    · rw [granted]
  have host : s.arbitrate.guardedReadOpen = s.guardedReadOpen := by
    obtain ⟨-, -, -, -, -, -, -, -, -, -, -, -, -, host, -⟩ := endsIn_arbitrate s
    unfold State.guardedReadOpen
    rw [host]
  refine ⟨?_, ?_, walkDone, empty, cphase⟩
  · unfold State.commitReady
    rw [ctl, table, cphase]
    congr 1
    rw [Bool.eq_iff_iff, List.isEmpty_iff, List.isEmpty_iff, empty]
  · unfold State.settled
    rw [ctl, ephase, walkDone, cphase, table, host]

/-- No event leaves undone what it owes, where its effects satisfied no flush mark and left no request remembered that OPEN could
take (R26, R73, R78, R86, R97, R104). -/
theorem nothingDue_settle (before : State) (unflushed : u.queue.flushed = false)
    (asked : u.ctl.state = .opened → u.ctl.remembered ≠ none → u.ctl.pendingRequest ≠ none) :
    (State.settle before u).nothingDue := by
  have queue := unflushed_settle before unflushed
  obtain ⟨w, ends, ctl, released⟩ := settle_tested before u
  obtain ⟨t, ht⟩ : ∃ t, State.settle before u = t := ⟨_, rfl⟩
  rw [ht] at ends ctl queue ⊢
  have captured : ¬t.captureDue := by rw [ends]; exact captureDue_takeCapture _
  have controller : w.ctl = u.ctl := by rw [released, (releaseRead_keeps _).2.2.2.2.2.2.1, (offerLeaves_reoffer _ _).ctl]
  have closed : t.ctl.state ≠ .opened → t = w.tested.arbitrate := by
    intro closed
    have state : w.tested.arbitrate.ctl.state ≠ .opened := by rw [(arbitrate_keeps _).2.2.2.2.1, ctl]; exact closed
    rw [ends, reoffer_closed _ state, takeCapture_undue]
    rw [captureDue_congr (arbitrate_tests w.tested).2.2.2.2 (by rw [(arbitrate_keeps _).2.2.2.2.1]) (arbitrate_keeps _).2.2.2.1]
    exact captureDue_tested w
  obtain ⟨commit, settled, walkDone, empty, -⟩ := arbitrate_tests w.tested
  obtain ⟨unsettled, undue⟩ := rollback_tested w
  refine ⟨?_, ?_, ?_, ?_, queue, ?_⟩
  · by_cases opened : t.ctl.state = .opened
    · simp [State.commitReady, opened]
    · rw [closed opened, commit, commitReady_tested]
  · by_cases opened : t.ctl.state = .opened
    · simp [State.settled, opened]
    · rw [closed opened, settled, unsettled]
  · rintro ⟨rolling, done, none⟩
    have made := closed (by rw [rolling]; decide)
    rw [made] at done none
    exact undue ⟨by rw [ctl, rolling], walkDone ▸ done, empty.1 none⟩
  · intro idle state intact
    by_contra some
    exact captured ⟨idle, state, intact, by omega⟩
  · intro opened
    have same : t.ctl = u.ctl := by
      rcases tested_ctl w with same | sealing
      · rw [← ctl, same, controller]
      · rw [← ctl, sealing] at opened; cases opened
    rw [same] at opened ⊢
    exact asked opened

end Ends

end Sys2Proof.Machine
end

section
/-! Every command, by what it leaves owed (R26, R73, R78, R86, R97, R104, R159). -/

namespace Sys2Proof.Machine

section Standing

variable {s u v t x : State}

/-! ### The requests that stand -/

/-- Whether a request stands hangs on its owner, the queue and the device state alone (R157). -/
theorem standing_none_congr (state : t.ctl.state = s.ctl.state)
    (writes : t.header.writeRequest.map WriteRequest.granted = s.header.writeRequest.map WriteRequest.granted)
    (reads : t.header.readRequest = s.header.readRequest) (engine : t.engine = s.engine) (capture : t.capture = s.capture)
    (read : t.host.read = s.host.read) (queue : t.queue.entries = s.queue.entries) (r : Requester) (h : s.standing r = none) :
    t.standing r = none := by
  cases r with
  | header =>
    unfold State.standing at h ⊢
    dsimp only at h ⊢
    rw [reads]
    cases hs : s.header.writeRequest with
    | none =>
      rw [hs] at writes h
      rw [Option.map_eq_none_iff.1 writes]
      cases hr : s.header.readRequest with
      | none => rfl
      | some q =>
        rw [hr] at h
        dsimp only at h ⊢
        split at h
        · next granted => rw [if_pos granted]
        · cases h
    | some w =>
      rw [hs] at writes h
      obtain ⟨x, hx, granted⟩ := Option.map_eq_some_iff.1 writes
      rw [hx]
      dsimp only at h ⊢
      rw [granted]
      split at h
      · next granted => rw [if_pos granted]
      · cases h
  | engine =>
    unfold State.standing at h ⊢
    dsimp only at h ⊢
    rw [engine]
    split at h
    · next granted => rw [if_pos granted]
    · next free =>
      rw [if_neg free]
      split at h
      · rfl
      · cases h
      · cases h
  | capture =>
    unfold State.standing at h ⊢
    dsimp only at h ⊢
    rw [capture, state]
    split at h
    · next granted => rw [if_pos granted]
    · next free =>
      rw [if_neg free]
      split at h
      · rfl
      · cases h
      · cases h
  | hostRead =>
    unfold State.standing at h ⊢
    dsimp only at h ⊢
    rw [read]
    exact h
  | drain =>
    unfold State.standing State.drainStands at h ⊢
    dsimp only at h ⊢
    rw [queue, state]
    exact h

theorem workConserving_congr (reset : t.pins.resetLow = s.pins.resetLow) (port : t.port.op = s.port.op)
    (state : t.ctl.state = s.ctl.state)
    (writes : t.header.writeRequest.map WriteRequest.granted = s.header.writeRequest.map WriteRequest.granted)
    (reads : t.header.readRequest = s.header.readRequest) (engine : t.engine = s.engine) (capture : t.capture = s.capture)
    (read : t.host.read = s.host.read) (queue : t.queue.entries = s.queue.entries) (h : s.workConserving) : t.workConserving := by
  intro released parking parked idle
  rw [reset] at released
  rw [state] at parking parked
  rw [port] at idle
  obtain ⟨header, engine', capture', read', drain⟩ := h released parking parked idle
  have same := standing_none_congr state writes reads engine capture read queue
  exact ⟨same _ header, same _ engine', same _ capture', same _ read', same _ drain⟩

/-- A grant among what stands leaves none on an IDLE port (R159). -/
theorem workConserving_arbitrate (s : State) : s.arbitrate.workConserving := by
  intro _ parking parked idle
  rw [(arbitrate_keeps s).2.2.2.2.1] at parking parked
  have free : s.port.op = none := by
    cases busy : s.port.op with
    | none => rfl
    | some o =>
      rw [arbitrate_busy (by rw [busy]; rfl), busy] at idle
      cases idle
  rcases arbitrate_grants free parking parked with ⟨same, none⟩ | ⟨r, o, -, -, granted⟩
  · rw [same]
    exact choice_none none
  · rw [granted] at idle
    cases idle

theorem workConserving_parking (h : t.ctl.state = .parking ∨ t.ctl.state = .parked) : t.workConserving := fun _ parking parked _ =>
  absurd h (by simp [parking, parked])

theorem noteParked_state (s : State) : s.noteParked.ctl.state = .parked := by
  rw [State.noteParked, (raise_keeps _ _ _ _).2.2.2.2.2.2.1]
  rfl

theorem workConserving_beginRestart (s : State) (again : Option StartOrder) : (s.beginRestart again).workConserving := by
  cases again with
  | none => exact workConserving_arbitrate _
  | some order => exact workConserving_parking (.inr (noteParked_state _))

theorem workConserving_afterCompletion (before u : State) : (State.afterCompletion before u).workConserving := by
  by_cases parking : u.ctl.state = .parking
  · rw [afterCompletion_parking parking]
    unfold State.enterParked
    split
    · exact workConserving_parking (.inr (noteParked_state _))
    · exact workConserving_beginRestart _ _
  · rw [afterCompletion_settle parking]
    exact workConserving_settle before u

/-- What a sample of EREQ low leaves (R79, R80). -/
theorem ereqLow_leaves (s : State) : s.ereqLow.pins.resetLow = s.pins.resetLow ∧ s.ereqLow.port = s.port
    ∧ s.ereqLow.ctl.state = s.ctl.state ∧ s.ereqLow.header = s.header ∧ s.ereqLow.engine = s.engine ∧ s.ereqLow.capture = s.capture
    ∧ s.ereqLow.host = s.host ∧ s.ereqLow.queue = s.queue ∧ s.ereqLow.table = s.table ∧ s.ereqLow.ctl.remembered = none := by
  unfold State.ereqLow
  extract_lets _ _ _ low _ forgot _
  have toForgot : forgot.pins.resetLow = s.pins.resetLow ∧ forgot.port = s.port ∧ forgot.ctl.state = s.ctl.state
      ∧ forgot.header = s.header ∧ forgot.engine = s.engine ∧ forgot.capture = s.capture ∧ forgot.host = s.host
      ∧ forgot.queue = s.queue ∧ forgot.table = s.table ∧ forgot.ctl.remembered = none := by
    unfold forgot
    split
    · refine ⟨?_, ?_, rfl, ?_, ?_, ?_, ?_, ?_, ?_, rfl⟩ <;> simp only [setCtl_pins, setCtl_port, setCtl_header, setCtl_engine, setCtl_capture,
        setCtl_host, setCtl_queue, setCtl_table, raise_keeps] <;> rfl
    · next none => exact ⟨rfl, rfl, rfl, rfl, rfl, rfl, rfl, rfl, rfl, none⟩
  clear_value forgot
  split
  · simpa [State.recordResult] using toForgot
  · split
    · exact toForgot
    · exact toForgot
    · exact toForgot

/-! ### What is owed -/

/-- An event's effects leave a flush mark unsatisfied, and a remembered request only where OPEN could not take it (R73, R78). -/
structure State.unowed (s : State) : Prop where
  unflushed : s.queue.flushed = false
  asked : s.ctl.state = .opened → s.ctl.remembered ≠ none → s.ctl.pendingRequest ≠ none

theorem unowed_of_nothingDue (h : s.nothingDue) : s.unowed := by
  obtain ⟨-, -, -, -, unflushed, asked⟩ := h
  exact ⟨unflushed, asked⟩

theorem unowed_congr (queue : t.queue = s.queue) (state : t.ctl.state = s.ctl.state) (remembered : t.ctl.remembered = s.ctl.remembered)
    (pending : t.ctl.pendingRequest = s.ctl.pendingRequest) (h : s.unowed) : t.unowed := by
  refine ⟨queue ▸ h.unflushed, ?_⟩
  rw [state, remembered, pending]
  exact h.asked

/-- Outside OPEN a flush mark alone counts. -/
theorem unowed_closed (closed : s.ctl.state ≠ .opened) (unflushed : s.queue.flushed = false) : s.unowed :=
  ⟨unflushed, fun opened => absurd opened closed⟩

theorem unflushed_of_noMark {q : PostingQueue} (h : q.mark = none) : q.flushed = false := by
  unfold PostingQueue.flushed
  rw [h]

theorem unowed_offered (leaves : s.offerLeaves u) (h : s.unowed) : u.unowed := by
  refine ⟨unflushed_offered leaves h.unflushed, ?_⟩
  rw [leaves.ctl]
  exact h.asked

theorem nothingDue_of_unowed {before : State} (h : u.unowed) : (State.settle before u).nothingDue :=
  nothingDue_settle before h.unflushed h.asked

/-- Outside OPEN, DRAINING and ROLLING_BACK nothing else is owed. -/
theorem nothingDue_elsewhere (elsewhere : t.ctl.state ∉ [DeviceState.opened, .draining, .rollingBack])
    (unflushed : t.queue.flushed = false) : t.nothingDue := by
  simp only [List.mem_cons, List.not_mem_nil, or_false, not_or] at elsewhere
  obtain ⟨opened, draining, rolling⟩ := elsewhere
  refine ⟨by simp [State.commitReady, draining], by simp [State.settled, rolling], fun due => rolling due.1,
    fun _ state => absurd state (by simp [opened, draining]), unflushed, fun open' => absurd open' opened⟩

theorem flushed_arbitrate (s : State) : s.arbitrate.queue.flushed = s.queue.flushed := by
  obtain ⟨n, queue⟩ := arbitrate_queue s
  rw [queue, flushed_congr (q := s.queue) (r := { s.queue with entries := markDraining n s.queue.entries }) rfl
    (ages_undrained (markDraining_undrained n _))]

theorem sampleStrap_queue (s : State) : s.sampleStrap.queue = s.queue := by
  unfold State.sampleStrap
  split
  · rw [endStartUp_closed (by exact fun h => by cases h)]
    rfl
  · rfl

theorem noteParked_queue (s : State) : s.noteParked.queue = s.queue := by
  rw [State.noteParked, (raise_keeps _ _ _ _).2.2.2.2.2.1]
  rfl

/-- PFW clears the flush mark (R71). -/
theorem nothingDue_parks (s : State) : s.enterParking.nothingDue ∧ s.enterParking.noteParked.nothingDue := by
  have unflushed : s.enterParking.queue.flushed = false := unflushed_of_noMark rfl
  have state : s.enterParking.ctl.state = .parking := by
    unfold State.enterParking State.parkHost
    dsimp only
    split <;> rfl
  refine ⟨nothingDue_elsewhere (by rw [state]; decide) unflushed, nothingDue_elsewhere (by rw [noteParked_state]; decide) ?_⟩
  rw [noteParked_queue]
  exact unflushed

theorem nothingDue_startUp (starting : s.ctl.state = .starting) (unflushed : s.queue.flushed = false) : s.startUp.nothingDue := by
  refine nothingDue_elsewhere ?_ ?_
  · rcases startUp_active s with ⟨-, state⟩ | ⟨-, state⟩
    · rw [state, starting]; decide
    · rw [state]; decide
  · rw [State.startUp, flushed_arbitrate, sampleStrap_queue]
    exact unflushed

theorem nothingDue_beginRestart (s : State) (again : Option StartOrder) : (s.beginRestart again).nothingDue := by
  cases again with
  | none => exact nothingDue_startUp rfl rfl
  | some order => exact (nothingDue_parks _).2

theorem nothingDue_afterCompletion (before : State) (h : u.unowed) : (State.afterCompletion before u).nothingDue := by
  by_cases parking : u.ctl.state = .parking
  · rw [afterCompletion_parking parking]
    unfold State.enterParked
    split
    · refine nothingDue_elsewhere (by rw [noteParked_state]; decide) ?_
      rw [noteParked_queue]
      exact h.unflushed
    · exact nothingDue_beginRestart _ _
  · rw [afterCompletion_settle parking]
    exact nothingDue_of_unowed h

/-! ### The flush mark -/

/-- Captures stopped or cancelled turn gates alone (R31, R51, R55). -/
theorem waitForMark_queue (s : State) (gs : List Nat) : (s.waitForMark gs).queue.mark = s.queue.mark
    ∧ (s.waitForMark gs).queue.ages = s.queue.ages := by
  unfold State.waitForMark
  split
  · refine ⟨rfl, ?_⟩
    show List.map _ (List.map _ _) = _
    rw [List.map_map]
    rfl
  · exact ⟨rfl, rfl⟩

theorem dropEntries_queue (s : State) (gone : TableEntry → Bool) : (s.dropEntries gone).queue = s.queue := by
  simp [State.dropEntries]

theorem stopCapture_mark (s : State) : s.stopCapture.queue.mark = s.queue.mark := by
  unfold State.stopCapture State.endStopped State.releaseInFlight
  split
  · split
    · rfl
    · rw [(waitForMark_queue _ _).1, dropEntries_queue]; rfl
  · rfl
  · rfl

theorem cancelWaiting_mark (s : State) : s.cancelWaiting.queue.mark = s.queue.mark := by
  rw [State.cancelWaiting, (waitForMark_queue _ _).1, dropEntries_queue]

theorem takeRollback_mark (s : State) : s.takeRollback.queue.mark = s.queue.mark := by
  unfold State.takeRollback
  dsimp only
  rw [setEngine_queue, leaveOpen_eq, (writeOvertaken_keeps _).2.2.2.2.2.1, cancelWaiting_mark, stopCapture_mark]
  rfl

/-! ### Requests taken -/

/-- A request taken with no flush mark standing leaves none satisfied, and is in hand (R72, R77, R83). -/
theorem takeRequest_owes (x : State) (op : Operation) (mark : x.queue.mark = none) :
    (x.takeRequest op).queue.flushed = false ∧ (x.takeRequest op).ctl.pendingRequest ≠ none
      ∧ (x.takeRequest op).ctl.remembered = x.ctl.remembered := by
  have answers : ∀ (y : State) op r, y.queue = x.queue → y.ctl.remembered = x.ctl.remembered →
      (y.driveAnswer op r).queue.flushed = false ∧ (y.driveAnswer op r).ctl.pendingRequest ≠ none
        ∧ (y.driveAnswer op r).ctl.remembered = x.ctl.remembered := fun y op r queue remembered =>
    ⟨by rw [driveAnswer_eq]; show y.queue.flushed = false; rw [queue]; exact unflushed_of_noMark mark, by simp [State.driveAnswer],
      remembered⟩
  have refuses : ∀ op, (x.refuseAtLimit op).queue.flushed = false ∧ (x.refuseAtLimit op).ctl.pendingRequest ≠ none
      ∧ (x.refuseAtLimit op).ctl.remembered = x.ctl.remembered := fun op => answers _ op _ (by simp) (by simp)
  cases op with
  | illegal => exact answers x _ _ rfl rfl
  | commit =>
    dsimp only [State.takeRequest]
    split
    · exact refuses .commit
    · unfold State.takeCommit
      rw [leaveOpen_eq, (writeOvertaken_keeps _).2.2.2.2.2.1, (writeOvertaken_keeps _).2.2.2.2.2.2.1]
      exact ⟨unflushed_of_noMark mark, by simp [State.workOn], rfl⟩
  | rollback =>
    dsimp only [State.takeRequest]
    split
    · exact refuses .rollback
    · split
      · rw [takeRollback_ctl]
        exact ⟨unflushed_of_noMark ((takeRollback_mark x).trans mark), by simp, rfl⟩
      · exact answers x _ _ rfl rfl
  | flush =>
    dsimp only [State.takeRequest, State.takeFlush]
    cases newest : x.queue.entries.getLast? with
    | none => exact answers x _ _ rfl rfl
    | some e =>
      refine ⟨not_flushed_of_age (m := e.age) rfl (List.mem_map_of_mem (List.mem_of_getLast? newest)) (by simp), ?_, rfl⟩
      simp [State.workOn]

/-- A remembered request is taken where OPEN can take it (R78). -/
theorem unowed_takeRemembered (h : x.queue.mark = none ∨ x.unowed ∧ (x.ctl.pendingRequest ≠ none ∨ x.ctl.remembered = none)) :
    x.takeRemembered.unowed ∧ (x.takeRemembered.queue.mark = none
      ∨ x.takeRemembered.ctl.pendingRequest ≠ none ∨ x.takeRemembered.ctl.remembered = none) := by
  have stays : ∀ asked : x.ctl.state = .opened → x.ctl.remembered ≠ none → x.ctl.pendingRequest ≠ none, x.unowed
      ∧ (x.queue.mark = none ∨ x.ctl.pendingRequest ≠ none ∨ x.ctl.remembered = none) := by
    intro asked
    rcases h with mark | ⟨unowed, later⟩
    · exact ⟨⟨unflushed_of_noMark mark, asked⟩, .inl mark⟩
    · exact ⟨unowed, .inr later⟩
  unfold State.takeRemembered
  cases remembered : x.ctl.remembered with
  | none => exact stays fun _ asked => absurd remembered asked
  | some op =>
    dsimp only
    split
    · next free =>
      obtain ⟨-, free⟩ := free
      have mark : x.queue.mark = none := by
        rcases h with mark | ⟨-, pending | none⟩
        · exact mark
        · exact absurd free pending
        · rw [remembered] at none; cases none
      obtain ⟨unflushed, pending, -⟩ := takeRequest_owes (x.setCtl { x.ctl with remembered := none }) op mark
      exact ⟨⟨unflushed, fun _ _ => pending⟩, .inr (.inl pending)⟩
    · next taken =>
      exact stays fun opened _ none => taken ⟨opened, none⟩

/-- A result reached with no flush mark standing (R79, R80). -/
theorem unowed_reachResult (result : EpochResult) (mark : x.queue.mark = none)
    (pending : x.ctl.pendingRequest ≠ none ∨ x.ctl.remembered = none) :
    (x.reachResult result).unowed ∧ ((x.reachResult result).queue.mark = none
      ∨ (x.reachResult result).ctl.pendingRequest ≠ none ∨ (x.reachResult result).ctl.remembered = none) := by
  unfold State.reachResult
  cases request : x.ctl.pendingRequest with
  | none =>
    have none : x.ctl.remembered = none := pending.resolve_left (by simp [request])
    exact ⟨⟨unflushed_of_noMark mark, fun _ asked => absurd none asked⟩, .inl mark⟩
  | some r =>
    dsimp only
    split
    · refine unowed_takeRemembered (.inl ?_)
      simpa [State.recordResult] using mark
    · exact ⟨⟨unflushed_of_noMark mark, fun _ _ => by simp [State.driveAnswer]⟩, .inl mark⟩

/-- A result reached where it may be that no request is in hand (R79, R80). -/
theorem reachResult_owes (result : EpochResult) (mark : x.queue.mark = none) : (x.reachResult result).queue.mark = none
    ∨ (x.reachResult result).unowed ∧ ((x.reachResult result).ctl.pendingRequest ≠ none ∨ (x.reachResult result).ctl.remembered = none) := by
  cases request : x.ctl.pendingRequest with
  | none =>
    unfold State.reachResult
    rw [request]
    exact .inl mark
  | some r =>
    obtain ⟨unowed, left⟩ := unowed_reachResult result mark (.inl (by simp [request]))
    exact left.imp id fun later => ⟨unowed, later⟩

end Standing

/-! ### Every command -/

/-- What an event of `s` that ends in `t` leaves: no IDLE port with a request standing, and nothing owed. -/
abbrev State.conserves (s t : State) : Prop :=
  t.workConserving ∧ (s.handshakeLawful → s.requestAgrees → s.nothingDue → t.nothingDue)

section Commands

variable {s u t : State} {c : Instr}

theorem conserves_refl (work : s.workConserving) : s.conserves s := ⟨work, fun _ _ due => due⟩

theorem conserves_settle {before : State} (h : s.handshakeLawful → s.requestAgrees → s.nothingDue → u.unowed) :
    s.conserves (State.settle before u) :=
  ⟨workConserving_settle before u, fun handshake requests due => nothingDue_of_unowed (h handshake requests due)⟩

theorem conserves_completion (h : s.handshakeLawful → s.requestAgrees → s.nothingDue → u.unowed) :
    s.conserves (State.afterCompletion s u) :=
  ⟨workConserving_afterCompletion s u, fun handshake requests due => nothingDue_afterCompletion s (h handshake requests due)⟩

/-- Effects that leave queue and controller owe what was owed. -/
theorem unowed_frame (queue : u.queue = s.queue) (ctl : u.ctl = s.ctl) (due : s.nothingDue) : u.unowed :=
  unowed_congr queue (by rw [ctl]) (by rw [ctl]) (by rw [ctl]) (unowed_of_nothingDue due)

/-- What no requester and no test looks at may change freely. -/
theorem conserves_frame (work : s.workConserving) (reset : t.pins.resetLow = s.pins.resetLow) (port : t.port = s.port) (ctl : t.ctl = s.ctl)
    (writes : t.header.writeRequest.map WriteRequest.granted = s.header.writeRequest.map WriteRequest.granted)
    (reads : t.header.readRequest = s.header.readRequest) (engine : t.engine = s.engine) (capture : t.capture = s.capture)
    (host : t.host = s.host) (queue : t.queue = s.queue) (table : t.table = s.table) : s.conserves t := by
  refine ⟨workConserving_congr reset (by rw [port]) (by rw [ctl]) writes reads engine capture (by rw [host]) (by rw [queue]) work,
    fun _ _ due => ?_⟩
  obtain ⟨commit, settled, rollback, captures, flushed, asked⟩ := due
  refine ⟨?_, ?_, ?_, ?_, queue ▸ flushed, ctl ▸ asked⟩
  · unfold State.commitReady at commit ⊢
    rw [ctl, table, capture, queue]
    exact commit
  · unfold State.settled State.guardedReadOpen at settled ⊢
    rw [ctl, engine, capture, table, host]
    exact settled
  · rw [ctl, engine, queue]; exact rollback
  · rw [capture, ctl, table]; exact captures

/-! ### The host bus -/

theorem reads_keep (s : State) : (∀ c b, (s.requestRead c b).queue = s.queue ∧ (s.requestRead c b).ctl = s.ctl)
    ∧ (∀ d, (s.finishBeat d).queue = s.queue ∧ (s.finishBeat d).ctl = s.ctl)
    ∧ (∀ w l d m, (s.answerWord w l d m).queue = s.queue ∧ (s.answerWord w l d m).ctl = s.ctl)
    ∧ ∀ c b, (s.serveRead c b).queue = s.queue ∧ (s.serveRead c b).ctl = s.ctl := by
  have requests : ∀ c b, (s.requestRead c b).queue = s.queue ∧ (s.requestRead c b).ctl = s.ctl := by
    intro c b
    unfold State.requestRead
    split <;> exact ⟨rfl, rfl⟩
  have finishes : ∀ d, (s.finishBeat d).queue = s.queue ∧ (s.finishBeat d).ctl = s.ctl := by
    intro d
    unfold State.finishBeat
    split
    · exact ⟨rfl, rfl⟩
    · split
      · exact ⟨rfl, rfl⟩
      · split <;> exact ⟨rfl, rfl⟩
  have answers : ∀ w l d m, (s.answerWord w l d m).queue = s.queue ∧ (s.answerWord w l d m).ctl = s.ctl := by
    intro w l d m
    unfold State.answerWord
    split
    · simp [State.failRead, State.closeBeat, State.endCycle]
    · exact finishes _
  refine ⟨requests, finishes, answers, fun c b => ?_⟩
  unfold State.serveRead
  split
  · exact finishes _
  · split
    · exact ⟨rfl, rfl⟩
    · exact answers _ _ _ _
    · split
      · exact requests c b
      · split
        · exact finishes _
        · exact ⟨rfl, rfl⟩

theorem truncate_keeps (s : State) : s.truncate.queue = s.queue ∧ s.truncate.ctl = s.ctl := by
  unfold State.truncate
  split <;> exact ⟨rfl, rfl⟩

theorem unowed_decodeWrite (word length : Nat) (lanes : Lanes) (data : MWord) (h : s.unowed) :
    (s.decodeWrite word length lanes data).unowed := by
  unfold State.decodeWrite
  dsimp only
  split
  · exact unowed_offered (offerLeaves_offerWrite _ _ _ _) (unowed_congr (s := s) rfl rfl rfl rfl h)
  · refine unowed_congr (s := s) ?_ ?_ ?_ ?_ h <;> simp [State.refuseWrite, State.closeBeat, State.endCycle]

theorem decodeRead_keeps (s : State) (word length : Nat) (lanes : Lanes) :
    (s.decodeRead word length lanes).queue = s.queue ∧ (s.decodeRead word length lanes).ctl = s.ctl := by
  unfold State.decodeRead
  dsimp only
  split
  · exact ⟨rfl, rfl⟩
  · split
    · exact ⟨rfl, rfl⟩
    · exact (reads_keep _).2.2.2 _ _

theorem conserves_hostBus (h : exec c s = .next t) (work : s.workConserving)
    (named : (∃ word hlen lanes data, c = .hostWriteFirstBeat word hlen lanes data)
      ∨ (∃ lanes data, c = .hostWriteLaterBeat lanes data) ∨ (∃ word hlen lanes, c = .hostReadFirstBeat word hlen lanes)
      ∨ ∃ lanes, c = .hostReadLaterBeat lanes) : s.conserves t := by
  obtain ⟨queue, ctl⟩ := truncate_keeps s
  rcases named with ⟨word, hlen, lanes, data, rfl⟩ | ⟨lanes, data, rfl⟩ | ⟨word, hlen, lanes, rfl⟩ | ⟨lanes, rfl⟩
  · cases h
    split
    · refine conserves_settle fun _ _ due => ?_
      split
      · exact unowed_frame queue ctl due
      · exact unowed_decodeWrite _ _ _ _ (unowed_frame queue ctl due)
    · exact conserves_refl work
  · cases h
    split
    · refine conserves_settle fun _ _ due => ?_
      unfold State.laterWrite
      split
      · exact unowed_offered (offerLeaves_offerWrite _ _ _ _) (unowed_of_nothingDue due)
      · exact unowed_frame (s := s) rfl rfl due
    · exact conserves_refl work
  · cases h
    split
    · refine conserves_settle fun _ _ due => ?_
      split
      · exact unowed_frame queue ctl due
      · obtain ⟨rqueue, rctl⟩ := decodeRead_keeps s.truncate word.toNat ((lengthOf hlen).getD 1) lanes
        exact unowed_frame (rqueue.trans queue) (rctl.trans ctl) due
    · exact conserves_refl work
  · cases h
    split
    · refine conserves_settle fun _ _ due => ?_
      split
      · obtain ⟨rqueue, rctl⟩ := (reads_keep s).2.2.2 _ _
        exact unowed_frame rqueue rctl due
      · exact unowed_frame (s := s) rfl rfl due
    · exact conserves_refl work

theorem conserves_hostReadWordArrival {merr : Option MWord} (work : s.workConserving) (h : execHostReadWordArrival merr s = .next t) :
    s.conserves t := by
  refine onOperation_elim (P := s.conserves) h (conserves_refl work) fun o _ => ?_
  split
  · refine conserves_settle fun _ _ due => ?_
    have placed : ∀ (u : State) word data bad, (u.placeWord word data bad).queue = u.queue ∧ (u.placeWord word data bad).ctl = u.ctl := by
      intro u word data bad
      unfold State.placeWord
      split
      · split <;> exact ⟨rfl, rfl⟩
      · exact ⟨rfl, rfl⟩
    have answered : ∀ (u : State) word data bad, (u.answerArrived word data bad).queue = u.queue
        ∧ (u.answerArrived word data bad).ctl = u.ctl := by
      intro u word data bad
      unfold State.answerArrived
      split
      · split
        · exact (reads_keep u).2.2.1 _ _ _ _
        · exact ⟨rfl, rfl⟩
      · exact ⟨rfl, rfl⟩
    unfold State.takeWord
    dsimp only
    refine unowed_frame ?_ ?_ due
    · rw [(answered _ _ _ _).1, (placed _ _ _ _).1]; rfl
    · rw [(answered _ _ _ _).2, (placed _ _ _ _).2]; rfl
  · exact conserves_refl work

/-! ### The epoch control port -/

theorem conserves_requestEdge (op : Operation) (work : s.workConserving) : s.conserves (s.requestEdge op) := by
  unfold State.requestEdge
  dsimp only
  split
  · exact conserves_frame work rfl rfl rfl rfl rfl rfl rfl rfl rfl rfl
  · refine conserves_settle fun _ requests due => ?_
    obtain ⟨x, hx⟩ : ∃ x, (s.setPins { s.pins with ereq := true, eop := op.eop }).setCtl
        { (s.setPins { s.pins with ereq := true, eop := op.eop }).ctl with lowSeen := true } = x := ⟨_, rfl⟩
    have queue : x.queue = s.queue := by rw [← hx]; rfl
    have state : x.ctl.state = s.ctl.state := by rw [← hx]; rfl
    have pending : x.ctl.pendingRequest = s.ctl.pendingRequest := by rw [← hx]; rfl
    have unflushed : x.queue.flushed = false := by rw [queue]; exact (unowed_of_nothingDue due).unflushed
    rw [hx]
    unfold State.risingEdge
    cases hs : x.ctl.state with
    | opened =>
      dsimp only
      split
      · next free =>
        have mark : x.queue.mark = none := by
          obtain ⟨-, -, -, mark, -⟩ := requests
          rw [queue]
          cases standing : s.queue.mark with
          | none => rfl
          | some m =>
            obtain ⟨-, flush⟩ := mark (by rw [standing]; rfl)
            rw [← pending, free] at flush
            cases flush
        obtain ⟨unflushed, pending, -⟩ := takeRequest_owes x op mark
        exact ⟨unflushed, fun _ _ => pending⟩
      · next taken => exact ⟨unflushed, fun _ _ => taken⟩
    | unformatted | fault => exact unowed_closed (by show x.ctl.state ≠ _; rw [hs]; decide) unflushed
    | starting | recovering | formatting | draining | rollingBack | sealing =>
      exact unowed_closed (by show x.ctl.state ≠ _; rw [hs]; decide) unflushed
    | parking | parked => exact unowed_closed (by rw [hs]; decide) unflushed

theorem conserves_ereqLow (work : s.workConserving) : s.conserves s.ereqLow := by
  obtain ⟨reset, port, state, header, engine, capture, host, queue, table, remembered⟩ := ereqLow_leaves s
  refine ⟨workConserving_congr reset (by rw [port]) state (by rw [header]) (by rw [header]) engine capture (by rw [host])
    (by rw [queue]) work, fun _ _ due => ?_⟩
  obtain ⟨commit, settled, rollback, captures, flushed, -⟩ := due
  refine ⟨?_, ?_, ?_, ?_, queue ▸ flushed, fun _ asked => absurd remembered asked⟩
  · unfold State.commitReady at commit ⊢
    rw [state, table, capture, queue]
    exact commit
  · unfold State.settled State.guardedReadOpen at settled ⊢
    rw [state, engine, capture, table, host]
    exact settled
  · rw [state, engine, queue]; exact rollback
  · rw [capture, state, table]; exact captures

theorem conserves_answerAck (ereq : Bool) (work : s.workConserving) (h : execAnswerAck ereq s = .next t) : s.conserves t := by
  cases h
  split
  · next a answer =>
    split
    · refine ⟨workConserving_congr rfl rfl rfl rfl rfl rfl rfl rfl rfl work, fun handshake _ due => ?_⟩
      obtain ⟨commit, settled, rollback, captures, flushed, asked⟩ := due
      refine ⟨commit, settled, rollback, captures, flushed, fun _ remembered => ?_⟩
      obtain ⟨-, -, -, -, waits, answered, -⟩ := handshake
      obtain ⟨-, -, idle⟩ := waits remembered
      rw [answered (by rw [answer]; simp)] at idle
      cases idle
    · exact conserves_ereqLow work
  · exact conserves_refl work

theorem conserves_ereqFall (work : s.workConserving) (h : execEreqFall s = .next t) : s.conserves t := by
  cases h
  split
  · exact conserves_frame work rfl rfl rfl rfl rfl rfl rfl rfl rfl rfl
  · exact conserves_ereqLow work

/-! ### Reset and power -/

theorem conserves_cutOff {tear : List Lanes} (h : s.cutOff tear = .next t) : s.conserves t := by
  unfold State.cutOff at h
  split at h
  · cases h
    exact ⟨(fun released => by cases released), fun _ _ _ => nothingDue_elsewhere (by exact (by decide : DeviceState.starting ∉ [DeviceState.opened, .draining, .rollingBack])) rfl⟩
  · cases h

theorem conserves_release {sample : ReleaseSample} (consistent : s.consistent) (work : s.workConserving)
    (h : execResetnRelease sample s = .next t) : s.conserves t := by
  cases h
  dsimp only
  split
  · next low =>
    obtain ⟨held, -⟩ := consistent
    have made := held low
    split
    · exact ⟨workConserving_parking (.inr (noteParked_state _)), fun _ _ _ => (nothingDue_parks _).2⟩
    · refine ⟨workConserving_arbitrate _, fun _ _ _ => nothingDue_startUp ?_ ?_⟩
      · show s.ctl.state = _; rw [made]; rfl
      · show s.queue.flushed = _; rw [made]; rfl
  · exact conserves_refl work

theorem conserves_restart {sample : RestartSample} (work : s.workConserving) (h : execRestart sample s = .next t) : s.conserves t := by
  cases h
  have kept : s.conserves (s.setPins { s.pins with pfw := false, msz := sample.msz }) :=
    conserves_frame work rfl rfl rfl rfl rfl rfl rfl rfl rfl rfl
  dsimp only
  split
  · exact kept
  · split
    · exact ⟨workConserving_beginRestart _ _, fun _ _ _ => nothingDue_beginRestart _ _⟩
    · split
      · next parking =>
        exact ⟨workConserving_parking (.inl parking), fun _ _ due => nothingDue_elsewhere (by show s.ctl.state ∉ _; rw [parking]; decide)
          (unowed_of_nothingDue due).unflushed⟩
      · exact kept

theorem conserves_pfwTaken (work : s.workConserving) (h : execPfwTaken s = .next t) : s.conserves t := by
  cases h
  have parking : ∀ u : State, u.enterParking.ctl.state = .parking := by
    intro u
    unfold State.enterParking State.parkHost
    dsimp only
    split <;> rfl
  dsimp only
  split
  · exact conserves_frame work rfl rfl rfl rfl rfl rfl rfl rfl rfl rfl
  · split
    · next stopped =>
      refine ⟨workConserving_parking stopped, fun _ _ due => nothingDue_elsewhere ?_ (unowed_of_nothingDue due).unflushed⟩
      rcases stopped with h | h <;> exact (by show s.ctl.state ∉ _; rw [show s.ctl.state = _ from h]; decide)
    · split
      · exact ⟨workConserving_parking (.inl (parking _)), fun _ _ _ => (nothingDue_parks _).1⟩
      · exact ⟨workConserving_parking (.inr (noteParked_state _)), fun _ _ _ => (nothingDue_parks _).2⟩

/-! ### The management link -/

theorem conserves_onLink {i : Instr} {effect : List Byte → State} (work : s.workConserving) (h : s.onLink i effect = .next t)
    (he : ∀ sent, s.conserves (effect sent)) : s.conserves t := by
  cases h
  split
  · split
    · exact he _
    · exact conserves_refl work
  · exact conserves_refl work

/-- A link command touches the link, the events and the configurations (R165 to R173). -/
theorem conserves_link (work : s.workConserving) (reset : t.pins.resetLow = s.pins.resetLow) (port : t.port = s.port) (ctl : t.ctl = s.ctl)
    (header : t.header = s.header) (engine : t.engine = s.engine) (capture : t.capture = s.capture) (host : t.host = s.host)
    (queue : t.queue = s.queue) (table : t.table = s.table) : s.conserves t :=
  conserves_frame work reset port ctl (by rw [header]) (by rw [header]) engine capture host queue table

theorem conserves_apply (work : s.workConserving) (h : execApply s = .next t) : s.conserves t := by
  refine conserves_onLink work h fun sent => ?_
  split
  · exact conserves_link work rfl rfl rfl rfl rfl rfl rfl rfl rfl
  · split
    · exact conserves_link work rfl rfl rfl rfl rfl rfl rfl rfl rfl
    · refine conserves_frame work rfl rfl rfl ?_ rfl rfl rfl rfl rfl rfl
      show (s.header.writeRequest.map fun w => if w.granted then { w with newer := true } else w).map WriteRequest.granted = _
      cases s.header.writeRequest with
      | none => rfl
      | some w =>
        dsimp only [Option.map_some]
        split <;> rfl

theorem conserves_format (number : BitVec 32) (work : s.workConserving) (h : execFormat number s = .next t) : s.conserves t := by
  refine conserves_onLink work h fun sent => ?_
  split
  · exact conserves_link work rfl rfl rfl rfl rfl rfl rfl rfl rfl
  · split
    · exact conserves_link work rfl rfl rfl rfl rfl rfl rfl rfl rfl
    · split
      · exact conserves_link work rfl rfl rfl rfl rfl rfl rfl rfl rfl
      · refine ⟨workConserving_arbitrate _, fun _ _ due => nothingDue_elsewhere ?_ ?_⟩
        · unfold State.beginFormat
          rw [(arbitrate_keeps _).2.2.2.2.1]
          exact (by decide : DeviceState.formatting ∉ [DeviceState.opened, .draining, .rollingBack])
        · unfold State.beginFormat
          rw [flushed_arbitrate]
          exact (unowed_of_nothingDue due).unflushed

end Commands

end Sys2Proof.Machine
end

section
/-! The completions, by what they leave owed (R26, R73, R78, R86, R97, R104, R159). -/

namespace Sys2Proof.Machine

section Queues

variable {s u v t : State}

/-! ### Effects that leave the queue alone -/

/-- The queue stays, and with it the controller, or OPEN is not entered. -/
abbrev State.keepsQueue (s t : State) : Prop := t.queue = s.queue ∧ (t.ctl = s.ctl ∨ t.ctl.state ≠ .opened)

theorem State.keepsQueue.trans (h : s.keepsQueue u) (k : u.keepsQueue v) : s.keepsQueue v := by
  obtain ⟨queue, ctl⟩ := h
  obtain ⟨queue', ctl'⟩ := k
  refine ⟨queue'.trans queue, ?_⟩
  rcases ctl' with same | closed
  · rw [same]; exact ctl
  · exact .inr closed

theorem unowed_keepsQueue (h : s.keepsQueue u) (due : s.nothingDue) : u.unowed := by
  obtain ⟨queue, same | closed⟩ := h
  · exact unowed_frame queue same due
  · exact unowed_closed closed (queue ▸ (unowed_of_nothingDue due).unflushed)

theorem keepsQueue_raise (s : State) (kind : EventKind) (epoch : BitVec 48) (detail : BitVec 32) :
    s.keepsQueue (s.raise kind epoch detail) := by
  obtain ⟨-, -, -, -, -, queue, ctl, -⟩ := raise_keeps s kind epoch detail
  exact ⟨queue, .inl ctl⟩

theorem keepsQueue_fault (s : State) (r : FaultReason) : s.keepsQueue (s.enterFault r).endStartUp := by
  refine ⟨?_, .inr ?_⟩
  · rw [endStartUp_closed (by exact fun h => by cases h)]
    rfl
  · rw [(faulted_state s r).2]
    decide

theorem keepsQueue_endRecovery (s : State) : s.keepsQueue s.endRecovery := by
  unfold State.endRecovery
  dsimp only
  split
  · exact (show s.keepsQueue _ from keepsQueue_raise (s.setEngine s.engine.toIdle) _ _ _).trans (keepsQueue_fault _ _)
  · exact ⟨rfl, .inl rfl⟩

theorem keepsQueue_finishWalk (s : State) : s.keepsQueue s.finishWalk := by
  unfold State.finishWalk
  split
  · exact keepsQueue_endRecovery s
  · exact ⟨rfl, .inl rfl⟩

theorem keepsQueue_stepWalk (s : State) : s.keepsQueue s.stepWalk := by
  unfold State.stepWalk
  split
  · exact keepsQueue_finishWalk s
  · exact ⟨rfl, .inl rfl⟩

theorem keepsQueue_endScan (s : State) (n : Nat) : s.keepsQueue (s.endScan n) := by
  cases n with
  | zero => exact keepsQueue_finishWalk (s.setEngine { s.engine with pass := .walk, scanEnd := some 0 })
  | succ k => exact ⟨rfl, .inl rfl⟩

theorem keepsQueue_scanFrom (s : State) (slot : Nat) : s.keepsQueue (s.scanFrom slot) := by
  unfold State.scanFrom
  split
  · exact keepsQueue_endScan s _
  · exact ⟨rfl, .inl rfl⟩

theorem keepsQueue_stepScan (s : State) (valid : Bool) : s.keepsQueue (s.stepScan valid) := by
  unfold State.stepScan
  dsimp only
  (repeat' split)
  · exact keepsQueue_scanFrom s _
  · exact keepsQueue_endScan s _
  · exact keepsQueue_scanFrom s _
  · exact ⟨rfl, .inl rfl⟩
  · exact keepsQueue_endScan s _

theorem keepsQueue_takeRecord (s : State) (merr : List BadBeat) (ws : List MWord) : s.keepsQueue (s.takeRecord merr ws) := by
  unfold State.takeRecord
  dsimp only
  split
  · exact keepsQueue_stepScan s _
  · split
    · exact ⟨rfl, .inl rfl⟩
    · refine (keepsQueue_raise s .recordDamaged s.epochNumber (BitVec.ofNat 32 (s.engine.cursor.getD 0))).trans ?_
      exact keepsQueue_stepWalk (State.setEngine _ _)

theorem keepsQueue_select (s : State) (slot : Slot) (h : HeaderRecord) (other : Judgement) : s.keepsQueue (s.select slot h other) := by
  have taken : s.keepsQueue ((s.noteDamagedSlot slot.other other h.epoch).selectHeader slot h) := by
    refine State.keepsQueue.trans (u := s.noteDamagedSlot slot.other other h.epoch) ?_ ⟨rfl, .inr (by exact fun o => by cases o)⟩
    unfold State.noteDamagedSlot
    split
    · exact keepsQueue_raise _ _ _ _
    · exact ⟨rfl, .inl rfl⟩
  obtain ⟨u, hu⟩ : ∃ u, (s.noteDamagedSlot slot.other other h.epoch).selectHeader slot h = u := ⟨_, rfl⟩
  rw [hu] at taken
  unfold State.select
  rw [hu]
  refine taken.trans ?_
  unfold State.beginRecovery
  dsimp only
  obtain ⟨x, hx⟩ : ∃ x, u.setEngine { u.engine with restored := 0, damaged := 0 } = x := ⟨_, rfl⟩
  have counted : u.keepsQueue x := by rw [← hx]; exact ⟨rfl, .inl rfl⟩
  rw [hx]
  refine counted.trans ?_
  split
  · exact (keepsQueue_raise x .epochLost x.epochNumber 0#32).trans (keepsQueue_endRecovery _)
  · exact State.keepsQueue.trans (u := x.setEngine { x.engine with purpose := some .recovery, pass := .scan, scanEnd := none })
      ⟨rfl, .inl rfl⟩ (keepsQueue_scanFrom _ 0)

theorem keepsQueue_takeHeader (s : State) (slot : Slot) (merr : List BadBeat) (ws : List MWord) :
    s.keepsQueue (s.takeHeader slot merr ws) := by
  obtain ⟨u, hu⟩ : ∃ u, s.setHeader { (s.header.setSurvey slot (surveyOf (judgeSlot s.size (!merr.isEmpty) (bytesOf ws))
      (HeaderRecord.ofBytes (bytesOf ws)))) with readRequest := none } = u := ⟨_, rfl⟩
  have judged : s.keepsQueue u := by rw [← hu]; exact ⟨rfl, .inl rfl⟩
  unfold State.takeHeader
  dsimp only
  rw [hu]
  refine judged.trans ?_
  split
  · exact ⟨rfl, .inl rfl⟩
  · cases slot with
    | a => exact ⟨rfl, .inl rfl⟩
    | b =>
      dsimp only [State.selectSlot]
      split
      · exact keepsQueue_select _ _ _ _
      · exact keepsQueue_select _ _ _ _
      · unfold State.selectNone
        split
        · refine ⟨?_, .inr ?_⟩ <;> rw [endStartUp_closed (by exact fun h => by cases h)]
          · rfl
          · exact fun o => by rw [show State.setCtl _ _ = _ from rfl, setCtl_ctl, (startedUp_state _ _).1] at o; cases o
        · split
          · exact keepsQueue_fault _ _
          · exact keepsQueue_fault _ _

/-! ### Effects that turn gates -/

/-- The queue's entries keep their ages, and its mark and the controller's requests stay. -/
structure State.turnsGates (s t : State) : Prop where
  mark : t.queue.mark = s.queue.mark
  ages : t.queue.ages = s.queue.ages
  state : t.ctl.state = s.ctl.state
  remembered : t.ctl.remembered = s.ctl.remembered
  pending : t.ctl.pendingRequest = s.ctl.pendingRequest

theorem State.turnsGates.trans (h : s.turnsGates u) (k : u.turnsGates v) : s.turnsGates v :=
  ⟨k.mark.trans h.mark, k.ages.trans h.ages, k.state.trans h.state, k.remembered.trans h.remembered, k.pending.trans h.pending⟩

theorem turnsGates_of_frame (queue : t.queue = s.queue) (ctl : t.ctl = s.ctl) : s.turnsGates t :=
  ⟨by rw [queue], by rw [queue], by rw [ctl], by rw [ctl], by rw [ctl]⟩

theorem turnsGates_mapGates (s : State) (f : Gate → Gate) : s.turnsGates (s.mapGates f) :=
  ⟨rfl, ages_of_posts (sameWrites_mapGates s f).posts, rfl, rfl, rfl⟩

theorem turnsGates_ends (h : s.capturesEnd t) (same : s.sameWrites t) : s.turnsGates t :=
  ⟨(congrArg PostingQueue.mark h.queue :), ages_of_posts same.posts, by rw [h.ctl], by rw [h.ctl], by rw [h.ctl]⟩

theorem turnsGates_enterBreaking (s : State) : s.turnsGates s.enterBreaking := by
  obtain ⟨ctl, mark, -⟩ := enterBreaking_leaves s
  exact ⟨mark, ages_of_posts (sameWrites_enterBreaking s).posts, by rw [ctl], by rw [ctl], by rw [ctl]⟩

theorem turnsGates_noteFailure (s : State) (merr : List BadBeat) : s.turnsGates (s.noteFailure merr) := by
  unfold State.noteFailure
  split
  · exact turnsGates_of_frame rfl rfl
  · exact turnsGates_of_frame (by simp) (by simp)

theorem turnsGates_takePreImage (s : State) (merr : List BadBeat) (image : List MWord) : s.turnsGates (s.takePreImage merr image) := by
  have noted := turnsGates_noteFailure s merr
  unfold State.takePreImage
  split
  · exact noted.trans (turnsGates_of_frame rfl rfl)
  · split
    · exact noted.trans (turnsGates_ends (capturesEnd_endStopped _) (sameWrites_endStopped _))
    · split
      · exact turnsGates_of_frame rfl rfl
      · have released : ∀ u : State, u.turnsGates u.releaseInFlight := fun u =>
          turnsGates_of_frame (dropEntries_queue _ _) (by simp [State.releaseInFlight, State.dropEntries])
        exact noted.trans (((released _).trans (turnsGates_enterBreaking _)).trans
          (turnsGates_ends (capturesEnd_waitForMark _ _) (sameWrites_waitForMark _ _)))

theorem turnsGates_completeCapture (s : State) : s.turnsGates s.completeCapture := by
  unfold State.completeCapture
  dsimp only
  split
  · exact turnsGates_of_frame (by simp) (by simp)
  · exact State.turnsGates.trans (turnsGates_of_frame (by simp) (by simp)) (turnsGates_mapGates _ _)

theorem turnsGates_takeMark (s : State) (w : WriteRequest) : s.turnsGates (s.takeMark w) := by
  obtain ⟨x, hx⟩ : ∃ x, (s.selectWritten w.target w.header).setTable { (s.selectWritten w.target w.header).table with
      status := some .broken } = x := ⟨_, rfl⟩
  have written : s.turnsGates x := by rw [← hx]; exact ⟨rfl, rfl, rfl, rfl, rfl⟩
  unfold State.takeMark
  dsimp only
  rw [hx]
  refine (written.trans (turnsGates_mapGates x Gate.afterMark)).trans (v := State.setAlarms (State.raise _ _ _ _) _)
    (turnsGates_of_frame ?_ ?_)
  · simp [dropEntries_queue]
  · simp [State.dropEntries]

theorem unowed_turnsGates (h : s.turnsGates u) (due : s.nothingDue) : u.unowed := by
  obtain ⟨unflushed, asked⟩ := unowed_of_nothingDue due
  refine ⟨(flushed_congr h.mark h.ages).trans unflushed, ?_⟩
  rw [h.state, h.remembered, h.pending]
  exact asked

end Queues

/-! ### The completions -/

section Completions

variable {s u t : State} {c : Instr}

theorem conserves_keepsQueue (o : MemOp) (h : (s.finishOp o).keepsQueue u) : s.conserves (State.afterCompletion s u) :=
  conserves_completion fun _ _ due => unowed_keepsQueue (s := s) h due

theorem conserves_turnsGates (o : MemOp) (h : (s.finishOp o).turnsGates u) : s.conserves (State.afterCompletion s u) :=
  conserves_completion fun _ _ due => unowed_turnsGates (s := s) ⟨h.mark, h.ages, h.state, h.remembered, h.pending⟩ due

theorem conserves_hostReadComplete (work : s.workConserving) (h : execHostReadComplete s = .next t) : s.conserves t := by
  refine onOperation_elim (P := s.conserves) h (conserves_refl work) fun o _ => ?_
  split
  · refine conserves_completion fun _ _ due => ?_
    dsimp only
    split
    · exact unowed_frame (s := s) rfl rfl due
    · unfold State.requestWaiting
      split
      · split
        · obtain ⟨queue, ctl⟩ := (reads_keep ((s.finishOp o).setHost { (s.finishOp o).host with read := none })).1 _ _
          exact unowed_frame (s := s) queue ctl due
        · exact unowed_frame (s := s) rfl rfl due
      · exact unowed_frame (s := s) rfl rfl due
  · exact conserves_refl work

/-- A flush mark stands for a FLUSH in hand, which is answered where the drain satisfies it (R73, R92). -/
theorem conserves_drainWriteComplete (work : s.workConserving) (h : execDrainWriteComplete s = .next t) : s.conserves t := by
  refine onOperation_elim (P := s.conserves) h (conserves_refl work) fun o _ => conserves_completion fun _ requests due => ?_
  obtain ⟨x, hx⟩ : ∃ x, State.reoffer s ((s.finishOp o).keepEntries fun e => !e.draining) = x := ⟨_, rfl⟩
  have offered : ((s.finishOp o).keepEntries fun e => !e.draining).offerLeaves x := by rw [← hx]; exact offerLeaves_reoffer _ _
  have ctl : x.ctl = s.ctl := offered.ctl
  have mark : x.queue.mark = s.queue.mark := offered.mark
  rw [hx]
  unfold State.flushTest
  split
  · next flushed =>
    refine (unowed_reachResult .ok rfl (.inl ?_)).1
    obtain ⟨-, -, -, stands, -⟩ := requests
    have standing : s.queue.mark.isSome := by
      rw [← mark]
      cases marked : x.queue.mark with
      | none => rw [unflushed_of_noMark marked] at flushed; cases flushed
      | some m => rfl
    obtain ⟨-, pending⟩ := stands standing
    intro none
    rw [← ctl, show x.ctl.pendingRequest = _ from none] at pending
    cases pending
  · next unflushed =>
    refine ⟨by simpa using unflushed, ?_⟩
    rw [ctl]
    exact (unowed_of_nothingDue due).asked

/-- A header write other than the mark completes with no flush mark standing (R73, R112). -/
theorem noMark_of_write {w : WriteRequest} (consistent : s.consistent) (requests : s.requestAgrees) (request : s.header.writeRequest = some w)
    (elsewhere : .opened ∉ w.kind.state) : s.queue.mark = none := by
  obtain ⟨-, -, writes, -⟩ := consistent
  obtain ⟨-, -, -, stands, -⟩ := requests
  obtain ⟨state, -⟩ := writes w (by rw [request]; rfl)
  cases mark : s.queue.mark with
  | none => rfl
  | some m =>
    obtain ⟨opened, -⟩ := stands (by rw [mark]; rfl)
    rw [opened] at state
    exact state.elim (fun mine => absurd mine elsewhere) (fun stopped => by cases stopped)

/-- A seal's completion with no flush mark standing (R89, R90). -/
theorem unowed_takeSeal (w : WriteRequest) (mark : u.queue.mark = none) : (u.takeSeal w).unowed := by
  obtain ⟨x, hx⟩ : ∃ x, u.applySeal w w.header = x := ⟨_, rfl⟩
  have queue : x.queue = u.queue := by
    rw [← hx]
    unfold State.applySeal
    dsimp only
    split <;> simp [State.clearEpoch, State.selectWritten]
  unfold State.takeSeal
  dsimp only
  rw [hx]
  split
  · next parking =>
    exact unowed_closed (by rw [parking]; decide) (by rw [queue]; exact unflushed_of_noMark mark)
  · refine (unowed_takeRemembered ?_).1
    exact reachResult_owes (x := x.setCtl { x.ctl with state := .opened }) _ (by rw [setCtl_queue, queue]; exact mark)

/-- The recovery's seal's (R81, R124). -/
theorem unowed_takeRecoverySeal (w : WriteRequest) (mark : u.queue.mark = none) : (u.takeRecoverySeal w).unowed := by
  obtain ⟨x, hx⟩ : ∃ x, State.raise (u.selectWritten w.target w.header).clearEpoch .recoveryDone
      (u.selectWritten w.target w.header).clearEpoch.epochNumber
      (BitVec.ofNat 32 (u.selectWritten w.target w.header).clearEpoch.engine.restored) = x := ⟨_, rfl⟩
  have queue : x.queue = u.queue := by
    rw [← hx]
    simp [State.clearEpoch, State.selectWritten]
  unfold State.takeRecoverySeal
  dsimp only
  rw [hx]
  split
  · next parking =>
    exact unowed_closed (by rw [parking]; decide) (by rw [queue]; exact unflushed_of_noMark mark)
  · have unmarked : (x.setCtl { x.ctl with state := .opened }).queue.mark = none := by rw [setCtl_queue, queue]; exact mark
    unfold State.endStartUp
    split
    · have answers : ∀ (y : State) op r, y.queue.mark = none → (y.driveAnswer op r).unowed := fun y op r mark =>
        ⟨unflushed_of_noMark (q := (y.driveAnswer op r).queue) mark, fun _ _ => by simp [State.driveAnswer]⟩
      simp only [setCtl_ctl, if_true]
      refine answers _ _ _ ?_
      rw [(raise_keeps _ _ _ _).2.2.2.2.2.1]
      exact unmarked
    · simp only [setCtl_ctl, if_true]
      exact (unowed_takeRemembered (.inl unmarked)).1

/-- The format write's (R170). -/
theorem unowed_takeFormat (w : WriteRequest) (mark : u.queue.mark = none) : (u.takeFormat w).unowed := by
  unfold State.takeFormat State.openUnlessParking
  dsimp only
  refine (unowed_takeRemembered (.inl ?_)).1
  split <;> exact mark

theorem conserves_headerWrite {mine : WriteKind → Bool} {effect : State → WriteRequest → State} (work : s.workConserving)
    (h : s.onHeaderWrite mine effect = .next t) (he : ∀ o w, s.header.writeRequest = some w → mine w.kind = true →
      s.handshakeLawful → s.requestAgrees → s.nothingDue → (effect (s.finishOp o) w).unowed) : s.conserves t :=
  onHeaderWrite_elim (P := s.conserves) h (conserves_refl work) fun o w _ request kind => conserves_completion (he o w request kind)

theorem conserves_sealComplete (consistent : s.consistent) (work : s.workConserving) (h : execSealComplete s = .next t) : s.conserves t := by
  refine conserves_headerWrite work h fun o w request kind _ requests due => ?_
  have seals : w.kind = .commitSeal := by simpa using kind
  exact unowed_takeSeal (u := s.finishOp o) w (noMark_of_write (s := s) consistent requests request (by rw [seals]; decide))

theorem conserves_recoverySealComplete (consistent : s.consistent) (work : s.workConserving) (h : execRecoverySealComplete s = .next t) :
    s.conserves t := by
  refine conserves_headerWrite work h fun o w request kind _ requests due => ?_
  have seals : w.kind = .recoverySeal := by simpa using kind
  exact unowed_takeRecoverySeal (u := s.finishOp o) w (noMark_of_write (s := s) consistent requests request (by rw [seals]; decide))

theorem conserves_formatWriteComplete (consistent : s.consistent) (work : s.workConserving) (h : execFormatWriteComplete s = .next t) :
    s.conserves t := by
  refine conserves_headerWrite work h fun o w request kind _ requests due => ?_
  refine unowed_takeFormat (u := s.finishOp o) w (noMark_of_write (s := s) consistent requests request ?_)
  cases hk : w.kind with
  | formatWrite n => simp [WriteKind.state]
  | clearing | commitSeal | recoverySeal | mark => rw [hk] at kind; cases kind

theorem conserves_clearingWriteComplete (work : s.workConserving) (h : execClearingWriteComplete s = .next t) : s.conserves t := by
  refine conserves_headerWrite work h fun o w _ _ _ _ due => ?_
  unfold State.takeClearing
  dsimp only
  split
  · exact unowed_frame (s := s) rfl rfl due
  · exact unowed_frame (s := s) rfl rfl due

/-! ### Every command -/

theorem exec_conserves (h : exec c s = .next t) (consistent : s.consistent) (work : s.workConserving) : s.conserves t := by
  have links : ∀ {i : Instr} {effect : List Byte → State}, s.onLink i effect = .next t → (∀ sent, (effect sent).pins = s.pins
      ∧ (effect sent).port = s.port ∧ (effect sent).ctl = s.ctl ∧ (effect sent).header = s.header ∧ (effect sent).engine = s.engine
      ∧ (effect sent).capture = s.capture ∧ (effect sent).host = s.host ∧ (effect sent).queue = s.queue
      ∧ (effect sent).table = s.table) → s.conserves t := fun done he => conserves_onLink work done fun sent => by
    obtain ⟨pins, port, ctl, header, engine, capture, host, queue, table⟩ := he sent
    exact conserves_link work (by rw [pins]) port ctl header engine capture host queue table
  cases c with
  | resetnAssert tear => exact conserves_cutOff (show s.cutOff tear = .next t from h)
  | supplyCollapse tear => exact conserves_cutOff (show s.cutOff tear = .next t from h)
  | resetnRelease sample => exact conserves_release consistent work h
  | restart sample => exact conserves_restart work h
  | pfwTaken => exact conserves_pfwTaken work h
  | hostWriteFirstBeat word hlen lanes data => exact conserves_hostBus h work (.inl ⟨word, hlen, lanes, data, rfl⟩)
  | hostWriteLaterBeat lanes data => exact conserves_hostBus h work (.inr (.inl ⟨lanes, data, rfl⟩))
  | hostReadFirstBeat word hlen lanes => exact conserves_hostBus h work (.inr (.inr (.inl ⟨word, hlen, lanes, rfl⟩)))
  | hostReadLaterBeat lanes => exact conserves_hostBus h work (.inr (.inr (.inr ⟨lanes, rfl⟩)))
  | hostReadWordArrival merr => exact conserves_hostReadWordArrival work h
  | hostReadComplete => exact conserves_hostReadComplete work h
  | commit => cases h; exact conserves_requestEdge .commit work
  | rollback => cases h; exact conserves_requestEdge .rollback work
  | flush => cases h; exact conserves_requestEdge .flush work
  | illegalOperation => cases h; exact conserves_requestEdge .illegal work
  | answerAck ereq => exact conserves_answerAck ereq work h
  | ereqFall => exact conserves_ereqFall work h
  | drainWriteComplete => exact conserves_drainWriteComplete work h
  | preImageReadComplete merr =>
    exact onOperation_elim (P := s.conserves) h (conserves_refl work) fun o _ => conserves_turnsGates o (turnsGates_takePreImage _ _ _)
  | recordWriteComplete =>
    exact onOperation_elim (P := s.conserves) h (conserves_refl work) fun o _ => conserves_turnsGates o (turnsGates_completeCapture _)
  | recordReadComplete merr =>
    refine onOperation_elim (P := s.conserves) h (conserves_refl work) fun o _ => conserves_keepsQueue o ?_
    split
    · exact ⟨rfl, .inl rfl⟩
    · exact keepsQueue_takeRecord _ _ _
  | restoreWriteComplete =>
    refine onOperation_elim (P := s.conserves) h (conserves_refl work) fun o _ => conserves_keepsQueue o ?_
    dsimp only
    split
    · exact ⟨rfl, .inl rfl⟩
    · exact keepsQueue_stepWalk (State.setEngine _ _)
  | headerReadComplete merr =>
    exact onOperation_elim (P := s.conserves) h (conserves_refl work) fun o _ => conserves_keepsQueue o (keepsQueue_takeHeader _ _ _ _)
  | markWriteComplete =>
    exact onHeaderWrite_elim (P := s.conserves) (show execMarkWriteComplete s = .next t from h) (conserves_refl work)
      fun o w _ _ _ => conserves_turnsGates o (turnsGates_takeMark _ w)
  | sealComplete => exact conserves_sealComplete consistent work h
  | recoverySealComplete => exact conserves_recoverySealComplete consistent work h
  | clearingWriteComplete => exact conserves_clearingWriteComplete work h
  | formatWriteComplete => exact conserves_formatWriteComplete consistent work h
  | getStatus =>
    exact links (show execGetStatus s = .next t from h) fun _ => ⟨rfl, rfl, rfl, rfl, rfl, rfl, rfl, rfl, rfl⟩
  | getStaged =>
    exact links (show execGetStaged s = .next t from h) fun _ => ⟨rfl, rfl, rfl, rfl, rfl, rfl, rfl, rfl, rfl⟩
  | unknownCommand code =>
    exact links (show execUnknownCommand code s = .next t from h) fun _ => ⟨rfl, rfl, rfl, rfl, rfl, rfl, rfl, rfl, rfl⟩
  | popEvent =>
    exact links (show execPopEvent s = .next t from h) fun _ => by
      dsimp only
      split <;> exact ⟨rfl, rfl, rfl, rfl, rfl, rfl, rfl, rfl, rfl⟩
  | popEventRemoval =>
    cases h
    split
    · dsimp only
      split <;> exact conserves_link work rfl rfl rfl rfl rfl rfl rfl rfl rfl
    · exact conserves_refl work
  | getActive =>
    exact links (show execGetActive s = .next t from h) fun _ => by
      split <;> exact ⟨rfl, rfl, rfl, rfl, rfl, rfl, rfl, rfl, rfl⟩
  | stageRegion index present cls base length =>
    exact links (show execStageRegion index present cls base length s = .next t from h) fun _ => by
      split
      · exact ⟨rfl, rfl, rfl, rfl, rfl, rfl, rfl, rfl, rfl⟩
      · split <;> exact ⟨rfl, rfl, rfl, rfl, rfl, rfl, rfl, rfl, rfl⟩
  | stageLog capacity policy watermark =>
    exact links (show execStageLog capacity policy watermark s = .next t from h) fun _ => by
      split <;> exact ⟨rfl, rfl, rfl, rfl, rfl, rfl, rfl, rfl, rfl⟩
  | apply => exact conserves_apply work h
  | unstage =>
    refine conserves_onLink work (show execUnstage s = .next t from h) fun sent => ?_
    dsimp only
    split
    · exact conserves_link work rfl rfl rfl rfl rfl rfl rfl rfl rfl
    · exact conserves_frame work rfl rfl rfl rfl rfl rfl rfl rfl rfl rfl
  | format number => exact conserves_format number work h
  | frameStart =>
    cases h
    split
    · exact conserves_refl work
    · dsimp only
      split <;> exact conserves_frame work rfl rfl rfl rfl rfl rfl rfl rfl rfl rfl
  | frameEnd =>
    cases h
    split <;> exact conserves_frame work rfl rfl rfl rfl rfl rfl rfl rfl rfl rfl

end Completions

section Statement

/-- Settles O12, command by command: the events' end makes every test once, and the effects before it leave no flush mark satisfied
and no remembered request that OPEN could take. -/
theorem stepLeavesNothingDue : Obligations.StepLeavesNothingDue := by
  intro s t consistent work h
  unfold step at h
  split at h
  · cases h
    exact conserves_refl work
  · next c rest _ =>
    obtain ⟨held, agree⟩ := consistent
    exact exec_conserves (s := s.setPending rest) h ⟨fun low => congrArg (State.setPending · rest) (held low), agree⟩ work

end Statement

end Sys2Proof.Machine
end


section
/-! The arbiter's rank and aging, and the output lines (R158 to R160, R152 to R154, R137, R138, R151, R163, R164). -/

namespace Sys2Proof.Machine

section Rank

variable {s t u v : State} {o : MemOp} {r q : Requester}

/-! ### The arbiter -/

/-- A requester asks for nothing that is not granted (R157). -/
def State.unasked (s : State) : Requester → Prop
  | .header => (∀ w ∈ s.header.writeRequest, w.granted = true)
      ∧ (s.header.writeRequest = none → ∀ r ∈ s.header.readRequest, r.granted = true)
  | .engine => s.engine.granted = true ∨ s.engine.phase = .idle
  | .capture => s.capture.granted = true ∨ s.ctl.state.stopped = true ∨ s.capture.phase = .idle
  | .hostRead => ∀ r ∈ s.host.read, r.granted = true
  | .drain => s.drainStands = false

theorem standing_none_iff (s : State) (q : Requester) : s.standing q = none ↔ s.unasked q := by
  cases q with
  | header =>
    unfold State.standing State.unasked
    cases s.header.writeRequest with
    | some w => simp
    | none => cases s.header.readRequest <;> simp
  | engine =>
    unfold State.standing State.unasked
    cases s.engine.granted <;> cases s.engine.phase <;> simp
  | capture =>
    unfold State.standing State.unasked
    cases s.capture.granted <;> cases s.ctl.state.stopped <;> cases s.capture.phase <;> simp
  | hostRead =>
    unfold State.standing State.unasked
    cases s.host.read <;> simp
  | drain =>
    unfold State.standing State.unasked
    cases s.drainStands <;> simp

/-- The choice is the winner by rank, a drain before a host read at an aging count of 4 (R158 to R160). -/
theorem choice_of_wins (h : s.wins r) : s.choice = some r := by
  obtain ⟨stands, above, aged⟩ := h
  unfold State.choice
  cases r with
  | header => rw [if_pos stands]
  | engine =>
    have header : s.standing .header = none := by simpa using above .header (by decide)
    rw [header, if_neg (by decide), if_pos stands]
  | capture =>
    have header : s.standing .header = none := by simpa using above .header (by decide)
    have engine : s.standing .engine = none := by simpa using above .engine (by decide)
    rw [header, engine, if_neg (by decide), if_neg (by decide), if_pos stands]
  | hostRead =>
    have header : s.standing .header = none := by simpa using above .header (by decide)
    have engine : s.standing .engine = none := by simpa using above .engine (by decide)
    have capture : s.standing .capture = none := by simpa using above .capture (by decide)
    rw [header, engine, capture, if_neg (by decide), if_neg (by decide), if_neg (by decide), if_pos stands, if_neg]
    rintro ⟨limit, drain⟩
    rcases aged rfl with below | none
    · exact absurd below (by simpa [Config.agingLimit] using limit)
    · rw [none] at drain; cases drain
  | drain =>
    have header : s.standing .header = none := by simpa using above .header (by decide)
    have engine : s.standing .engine = none := by simpa using above .engine (by decide)
    have capture : s.standing .capture = none := by simpa using above .capture (by decide)
    rw [header, engine, capture, if_neg (by decide), if_neg (by decide), if_neg (by decide)]
    rcases above .hostRead (by decide) with none | ⟨-, -, aged⟩
    · rw [none, if_neg (by decide), if_pos stands]
    · split
      · rw [if_pos ⟨aged, stands⟩]
      · rfl

/-- What the choice leaves behind (R158, R160). -/
theorem above_of_choice (h : s.choice = some r) (above : q ∈ r.above) :
    s.standing q = none ∨ q = .hostRead ∧ r = .drain ∧ 4 ≤ s.port.aging := by
  unfold State.choice at h
  split at h
  · cases h; cases above
  next header =>
  have header : s.standing .header = none := by simpa using header
  split at h
  · cases h
    obtain rfl := List.mem_singleton.1 above
    exact .inl header
  next engine =>
  have engine : s.standing .engine = none := by simpa using engine
  split at h
  · cases h
    simp only [Requester.above, List.mem_cons, List.not_mem_nil, or_false] at above
    rcases above with rfl | rfl
    · exact .inl header
    · exact .inl engine
  next capture =>
  have capture : s.standing .capture = none := by simpa using capture
  have three : q ∈ Requester.above .hostRead → s.standing q = none := by
    intro above
    simp only [Requester.above, List.mem_cons, List.not_mem_nil, or_false] at above
    rcases above with rfl | rfl | rfl
    · exact header
    · exact engine
    · exact capture
  have four : q ∈ Requester.above .drain → q = .hostRead ∨ q ∈ Requester.above .hostRead := by cases q <;> decide
  split at h
  · split at h
    · next aged =>
      cases h
      exact (four above).elim (fun read => .inr ⟨read, rfl, aged.1⟩) (fun higher => .inl (three higher))
    · cases h
      exact .inl (three above)
  · next read =>
    split at h
    · cases h
      rcases four above with rfl | higher
      · exact .inl (by simpa using read)
      · exact .inl (three higher)
    · cases h

/-- A grant touches its owner's block and the port alone (R159). -/
theorem unasked_grant (other : q ≠ .drain) (h : s.unasked q) : (s.grant r o).unasked q := by
  have framed : ∀ x, (State.setPort x ⟨some o, BitVec.ofNat 24 o.start, s.agingAfter r⟩).unasked q ↔ x.unasked q := by
    intro x; cases q <;> exact Iff.rfl
  unfold State.grant
  rw [framed]
  cases r with
  | header =>
    unfold State.tellGranted
    dsimp only
    cases writes : s.header.writeRequest with
    | some w =>
      cases q with
      | header => simp [State.unasked]
      | drain => exact absurd rfl other
      | engine | capture | hostRead => exact h
    | none =>
      dsimp only
      cases reads : s.header.readRequest with
      | none => exact h
      | some r =>
        cases q with
        | header => simp [State.unasked]
        | drain => exact absurd rfl other
        | engine | capture | hostRead => exact h
  | engine =>
    cases q with
    | engine => exact .inl rfl
    | drain => exact absurd rfl other
    | header | capture | hostRead => exact h
  | capture =>
    cases q with
    | capture => exact .inl rfl
    | drain => exact absurd rfl other
    | header | engine | hostRead => exact h
  | hostRead =>
    unfold State.tellGranted
    dsimp only
    cases read : s.host.read with
    | none => exact h
    | some r =>
      cases q with
      | hostRead => simp [State.unasked]
      | drain => exact absurd rfl other
      | header | engine | capture => exact h
  | drain =>
    cases q with
    | drain => exact absurd rfl other
    | header | engine | capture | hostRead => exact h

/-- The owner of a granted operation waits for it (R159, R161). -/
theorem grant_waits (h : s.standing r = some o) : (s.grant r o).ownerWaits o.kind = true := by
  cases r with
  | header =>
    unfold State.standing at h
    unfold State.grant State.tellGranted
    dsimp only at h ⊢
    split at h
    · next w request =>
      split at h
      · cases h
      · cases h
        simp [State.ownerWaits]
    · next request =>
      split at h
      · next r read =>
        split at h
        · cases h
        · cases h
          simp [State.ownerWaits]
      · cases h
  | engine =>
    unfold State.standing at h
    dsimp only at h
    split at h
    · cases h
    · split at h
      · cases h
      · next phase => cases h; simp [State.grant, State.tellGranted, State.ownerWaits, phase]
      · next phase => cases h; simp [State.grant, State.tellGranted, State.ownerWaits, phase]
  | capture =>
    unfold State.standing at h
    dsimp only at h
    split at h
    · cases h
    · split at h
      · cases h
      · next phase => cases h; simp [State.grant, State.tellGranted, State.ownerWaits, phase]
      · next phase => cases h; simp [State.grant, State.tellGranted, State.ownerWaits, phase]
  | hostRead =>
    unfold State.standing at h
    dsimp only at h
    split at h
    · next read =>
      split at h
      · cases h
      · cases h; simp [State.grant, State.tellGranted, State.ownerWaits, read]
    · cases h
  | drain =>
    unfold State.standing at h
    dsimp only at h
    split at h
    · cases h; rfl
    · cases h

/-- A winner's grant, with its effect on the port and on the queue (R66, R159, R160). -/
theorem arbitrate_wins (idle : s.port.op = none) (parking : s.ctl.state ≠ .parking) (parked : s.ctl.state ≠ .parked)
    (standing : s.standing r = some o) (wins : s.wins r) :
    s.arbitrate.port = ⟨some o, BitVec.ofNat 24 o.start,
        if r = .drain then 0 else if r = .hostRead ∧ s.standing .drain ≠ none then s.port.aging + 1 else s.port.aging⟩
      ∧ s.arbitrate.ownerWaits o.kind = true ∧ o.kind.requester = r
      ∧ (r ≠ .drain → s.arbitrate.queue = s.queue)
      ∧ (r = .drain → s.arbitrate.queue.entries = (s.queue.entries.take o.length).map (fun e => { e with draining := true })
          ++ s.queue.entries.drop o.length) := by
  have made : s.arbitrate = s.grant r o := by
    rcases arbitrate_grants idle parking parked with ⟨-, none⟩ | ⟨r', o', choice, stands, made⟩
    · rw [choice_of_wins wins] at none; cases none
    · rw [choice_of_wins wins] at choice
      cases choice
      rw [standing] at stands
      cases stands
      exact made
  rw [made]
  refine ⟨?_, grant_waits standing, standing_requester standing, grant_undrained, ?_⟩
  · show MemoryPort.mk (some o) (BitVec.ofNat 24 o.start) (s.agingAfter r) = _
    cases r with
    | header | engine | capture => rfl
    | drain => rfl
    | hostRead => simp [State.agingAfter, Option.isSome_iff_ne_none]
  · rintro rfl
    rw [(markDraining_ne standing).2]
    rfl

theorem arbitrate_makesNone (h : s.port.op.isSome ∨ s.ctl.state = .parking ∨ s.ctl.state = .parked
    ∨ ∀ r ∈ [Requester.header, .engine, .capture, .hostRead, .drain], s.standing r = none) : s.arbitrate = s := by
  by_cases closed : s.port.op.isSome ∨ s.ctl.state = .parking ∨ s.ctl.state = .parked
  · unfold State.arbitrate
    rw [if_pos closed]
  · simp only [not_or, Option.not_isSome_iff_eq_none] at closed
    obtain ⟨idle, parking, parked⟩ := closed
    rcases h with busy | stopped | stopped | none
    · rw [idle] at busy; cases busy
    · exact absurd stopped parking
    · exact absurd stopped parked
    · rcases arbitrate_grants idle parking parked with ⟨same, -⟩ | ⟨r, o, -, stands, -⟩
      · exact same
      · rw [none r (by cases r <;> decide)] at stands
        cases stands

end Rank

/-! ### The output lines -/

section Lines

variable {s : State} {o : MemOp} {l : ManagementLink} {k edges : Nat}

/-- The lines of an operation in its periods (R152 to R154). -/
theorem memOp_lines (o : MemOp) : o.lines .address = ⟨BitVec.ofNat 24 o.start, true, true, 0, false, LaneData.empty⟩
    ∧ o.lines .turnaround = ⟨BitVec.ofNat 24 (o.start + (o.length - 1)), true, true, 0, false, LaneData.empty⟩
    ∧ (o.kind.isWrite = false → o.lines (.beat k) = ⟨BitVec.ofNat 24 (o.start + k), false, true, 15, false, LaneData.empty⟩)
    ∧ (o.kind.isWrite = true → k < o.length → ∀ d ∈ o.data[k]?,
        o.lines (.beat k) = ⟨BitVec.ofNat 24 (o.start + k), true, false, LaneData.lanes d, true, d⟩) := by
  refine ⟨rfl, rfl, fun read => ?_, fun write within d beat => ?_⟩
  · simp [MemOp.lines, MemOp.beatWord, MemOp.beatLanes, MemOp.beatData, MemOp.stores, read]
  · have data : o.beatData k = d := by
      unfold MemOp.beatData MemOp.stores
      rw [if_pos write, List.getElem?_take_of_lt within, beat]
      rfl
    simp [MemOp.lines, MemOp.beatWord, MemOp.beatLanes, data, write]

/-- A byte of data is strobed in its lane (R154). -/
theorem lanes_bits (d : LaneData) : ((LaneData.lanes d).getLsbD 0, (LaneData.lanes d).getLsbD 1, (LaneData.lanes d).getLsbD 2,
    (LaneData.lanes d).getLsbD 3) = (d.b0.isSome, d.b1.isSome, d.b2.isSome, d.b3.isSome) := by
  unfold LaneData.lanes
  generalize d.b0.isSome = b0, d.b1.isSome = b1, d.b2.isSome = b2, d.b3.isSome = b3
  revert b0 b1 b2 b3
  decide

/-- SDO by position (R163). -/
theorem sdoByte_sent {b : Byte} (sending : l.phase = .responding ∨ l.phase = .spent) : (k ≤ l.command.length → l.sdoByte k = 0)
    ∧ (l.response[k]? = some b → l.sdoByte (l.command.length + 1 + k) = b) ∧ (l.frameLength ≤ k → l.sdoByte k = 0) := by
  have shown : ∀ position, l.sdoByte position
      = ((List.replicate (l.command.length + 1) 0x00#8 ++ l.response)[position]?).getD 0x00#8 := by
    intro position
    rcases sending with phase | phase <;> simp [ManagementLink.sdoByte, phase]
  refine ⟨fun early => ?_, fun data => ?_, fun late => ?_⟩
  · rw [shown, List.getElem?_append_left (by simp; omega), List.getElem?_replicate, if_pos (by omega)]
    rfl
  · rw [shown, List.getElem?_append_right (by simp), List.length_replicate, Nat.add_sub_cancel_left, data]
    rfl
  · rw [shown, List.getElem?_eq_none (by simpa [ManagementLink.frameLength] using late)]
    rfl

theorem clocked_phase (responding : l.phase = .responding) (bits : l.bitCount = 0) (bytes : l.byteCount = l.command.length) :
    (l.clocked k).phase = (if 8 * (1 + l.response.length) ≤ k then .spent else .responding) := by
  unfold ManagementLink.clocked ManagementLink.position ManagementLink.frameLength
  rw [responding, bits, bytes]
  dsimp only
  by_cases last : 8 * (1 + l.response.length) ≤ k
  · rw [if_pos last, if_pos (by omega)]
  · rw [if_neg last, if_neg (by omega)]

end Lines

end Sys2Proof.Machine
end

section
/-! No event ends with a grant made over a request of higher rank (R158 to R160): the beat held on a full queue, which the grant of
a drain write offers again, starts no capture and breaks no epoch. -/

namespace Sys2Proof.Machine

section Calm

variable {s t u v x : State} {o : MemOp} {r q : Requester} {c : Cycle} {p : Portion} {b : Beat}

/-! ### A held beat that asks for nothing -/

/-- A GUARDED first beat that waits for the queue is not taken there with a capture to start or the epoch to break (R45, R47). -/
def State.calm (u : State) : Prop :=
  u.ctl.state = .opened → ∀ c p b, u.host.cycle = some c → u.host.portion = some p → u.host.beat = some b → c.write = true →
    b.reason = .queueFull → p.cls = .guarded → b.first = true →
      ∀ gate effect, u.admission p.granule = .take gate effect → effect ≠ .nothing → ¬u.takesBeat c b gate

theorem calm_elsewhere (elsewhere : u.ctl.state ≠ .opened) : u.calm := fun opened => absurd opened elsewhere

theorem calm_of_noWait (h : ¬u.writeWaits) : u.calm := fun _ c _ b cycle _ beat write =>
  absurd ⟨c, cycle, write, by rw [beat]; rfl⟩ h

/-- A beat that an offer left waiting asks for nothing until something changes (R39, R62). -/
theorem calm_offered (hc : u.host.cycle = some c) (hp : u.host.portion = some p) : (u.offerWrite c p b).calm := by
  rcases offerWrite_cases (p := p) (b := b) hc with answered | ⟨reason, away⟩
  · exact calm_of_noWait (not_writeWaits_of_noBeat answered)
  · rw [offerWrite_turnedAway away]
    intro _ c' p' b' cycle portion beat _ full guarded first gate effect admission _
    obtain rfl : c = c' := Option.some.inj (hc.symm.trans cycle)
    obtain rfl : p = p' := Option.some.inj (hp.symm.trans portion)
    obtain rfl : { b with reason := reason } = b' := Option.some.inj beat
    have same : u.admission p.granule = .take gate effect := admission
    rcases away with ⟨-, unadmitted, -⟩ | ⟨-, ⟨-, gate', effect', takes, away⟩ | ⟨ninth, -⟩⟩
    · exact absurd ⟨guarded, first⟩ unadmitted
    · rw [takes] at same
      cases same
      exact away
    · rw [show reason = _ from full] at ninth; cases ninth

/-- What the offer of a held beat looks at (R43, R59). -/
structure State.sameOffer (s u : State) : Prop where
  opened : u.ctl.state = .opened → s.ctl.state = .opened
  cycle : u.host.cycle = s.host.cycle
  portion : u.host.portion = s.host.portion
  beat : u.host.beat = s.host.beat
  table : u.table = s.table
  active : u.header.active = s.header.active
  tail : u.capture.tail = s.capture.tail
  entries : u.queue.entries = s.queue.entries

theorem calm_congr (same : s.sameOffer u) (h : s.calm) : u.calm := by
  intro opened c p b cycle portion beat write full guarded first gate effect admission asks takes
  rw [same.cycle] at cycle
  rw [same.portion] at portion
  rw [same.beat] at beat
  rw [admission_congr p.granule same.table same.active same.tail] at admission
  refine h (same.opened opened) c p b cycle portion beat write full guarded first gate effect admission asks ?_
  unfold State.takesBeat PostingQueue.accepts PostingQueue.merges at takes ⊢
  rwa [same.entries] at takes

/-- A granule that the table does not have gets its own TIED gate, or under BREAK WAIT_MARK (R45, R47). -/
theorem admission_asks {g : Nat} {gate : Gate} {effect : AdmissionEffect} (admission : s.admission g = .take gate effect)
    (asks : effect ≠ .nothing) : s.table.lookup g = none ∧ s.table.status ≠ some .breaking ∧ (gate = .tied g ∨ gate = .waitMark) := by
  have intact : ∀ same : s.admissionIntact g = .take gate effect, s.table.lookup g = none ∧ (gate = .tied g ∨ gate = .waitMark) := by
    intro same
    unfold State.admissionIntact at same
    split at same
    · split at same <;> (cases same; exact absurd rfl asks)
    · next absent =>
      refine ⟨absent, ?_⟩
      split at same
      · split at same
        · cases same
        · cases same; exact .inl rfl
      · split at same
        · cases same; exact .inr rfl
        · cases same
  unfold State.admission at admission
  cases status : s.table.status with
  | none =>
    rw [status] at admission
    obtain ⟨absent, gates⟩ := intact admission
    exact ⟨absent, by simp, gates⟩
  | some e =>
    cases e with
    | breaking => rw [status] at admission; cases admission; exact absurd rfl asks
    | broken => rw [status] at admission; cases admission; exact absurd rfl asks
    | intact =>
      rw [status] at admission
      obtain ⟨absent, gates⟩ := intact admission
      exact ⟨absent, by simp, gates⟩

/-- With 8 entries a beat is taken by merging alone (R59), which a gate that is the newest entry's own allows. -/
theorem calm_of_gates (full : u.writeWaits → ∀ b ∈ u.host.beat, b.reason = .queueFull → b.lanes ≠ 0 ∧ u.queue.entries.length = 8)
    (gates : ∀ e ∈ u.queue.entries, (∀ g ∈ e.gate.granule, ∃ k, (⟨g, k⟩ : TableEntry) ∈ u.table.entries)
      ∧ (e.gate = .waitMark → u.table.status = some .breaking)) : u.calm := by
  intro _ c p b cycle portion beat write reason guarded first gate effect admission asks takes
  obtain ⟨lanes, eight⟩ := full ⟨c, cycle, write, by rw [beat]; rfl⟩ b beat reason
  obtain ⟨absent, sound, own⟩ := admission_asks admission asks
  rcases takes with none | room
  · exact lanes none
  unfold PostingQueue.accepts PostingQueue.merges at room
  rw [eight] at room
  cases newest : u.queue.entries.getLast? with
  | none => rw [newest] at room; simp [Config.queueDepth] at room
  | some e =>
    rw [newest] at room
    simp only [Config.queueDepth, Nat.lt_irrefl, decide_false, Bool.or_false, Bool.and_eq_true, beq_iff_eq] at room
    obtain ⟨-, same⟩ := room
    obtain ⟨tied, waits⟩ := gates e (List.mem_of_getLast? newest)
    rcases own with rfl | rfl
    · obtain ⟨k, present⟩ := tied p.granule (by rw [same]; rfl)
      have none := List.find?_eq_none.1 absent _ present
      simp at none
    · exact sound (waits same)

theorem calm_of_lawful (h : s.Lawful) : s.calm := by
  obtain ⟨-, -, -, -, -, holds⟩ := h.host
  obtain ⟨entries, -⟩ := h.gates
  refine calm_of_gates ?_ fun e he => ?_
  · rintro ⟨c, cycle, write, -⟩ b beat full
    obtain ⟨-, -, -, -, -, beats⟩ := holds c cycle
    rcases (beats b beat).1 write with ⟨-, lanes, eight⟩ | ⟨ninth, -⟩
    · exact ⟨lanes, eight⟩
    · rw [full] at ninth; cases ninth
  · obtain ⟨tied, waits⟩ := entries e he
    exact ⟨fun g hg => ⟨.capturing, (tied g hg).2.2⟩, waits⟩

/-- An offer made on an event's effect, or a beat that the effect left waiting as it was (R62). -/
theorem calm_reoffer (h : u.queue.entries = s.queue.entries → u.calm) : (State.reoffer s u).calm := by
  unfold State.reoffer
  split
  · next c p b cycle portion beat =>
    split
    · exact calm_offered cycle portion
    · next undue =>
      intro opened c' p' b' cycle' portion' beat' write full
      obtain rfl : c = c' := Option.some.inj (cycle.symm.trans cycle')
      obtain rfl : p = p' := Option.some.inj (portion.symm.trans portion')
      obtain rfl : b = b' := Option.some.inj (beat.symm.trans beat')
      have same : u.queue.entries = s.queue.entries := by
        by_contra other
        refine undue ⟨opened, write, ?_⟩
        unfold State.offerDue
        rw [full]
        simpa using other
      exact h same opened c p b cycle portion beat write full
  · next none =>
    intro _ c p b cycle portion beat
    exact absurd beat (none c p b cycle portion)

/-! ### To the end of the event -/

theorem calm_releaseRead (h : u.calm) : u.releaseRead.calm := by
  unfold State.releaseRead
  split
  · next c b cycle beat =>
    split
    · next due =>
      obtain ⟨read, -⟩ := due
      refine calm_of_noWait (not_writeWaits_of_read ?_)
      have kept : (u.requestRead c b).host.cycle = u.host.cycle := by
        unfold State.requestRead
        split <;> rfl
      rw [kept, cycle]
      rintro d ⟨⟩
      exact read
    · exact h
  · exact h

theorem calm_tested (h : u.calm) : u.tested.calm := by
  obtain ⟨-, -, -, table, -, -, -, -, queue, -, -, state, header, host, tail, -⟩ := endsIn_tested u
  refine calm_congr (s := u) ⟨?_, by rw [host], by rw [host], by rw [host], table, by rw [header], tail, by simp⟩ h
  intro opened
  rcases state with same | ⟨-, sealing⟩
  · rw [← same]; exact opened
  · rw [sealing] at opened; cases opened

/-- No requester but the drain asks for more, and no capture is due that was not. -/
structure State.asksNoMore (u v : State) : Prop where
  header : v.header = u.header
  engine : v.engine = u.engine
  capture : v.capture = u.capture
  ctl : v.ctl = u.ctl
  entries : v.table.entries = u.table.entries
  status : v.table.status = u.table.status
  read : v.host.read = u.host.read ∨ v.host.read = u.host.leftRead

theorem unasked_asksNoMore (h : u.asksNoMore v) (other : q ≠ .drain) (unasked : u.unasked q) : v.unasked q := by
  cases q with
  | header => unfold State.unasked at *; dsimp only at *; rwa [h.header]
  | engine => unfold State.unasked at *; dsimp only at *; rwa [h.engine]
  | capture => unfold State.unasked at *; dsimp only at *; rwa [h.capture, h.ctl]
  | drain => exact absurd rfl other
  | hostRead =>
    unfold State.unasked at *
    dsimp only at *
    rcases h.read with same | left
    · rwa [same]
    · rw [left]
      unfold HostPort.leftRead
      split
      · next r read =>
        rw [if_pos (unasked r (by rw [read]; rfl))]
        rintro _ ⟨⟩
        exact unasked r (by rw [read]; rfl)
      · intro r none; cases none

theorem asksNoMore_captureDue (h : u.asksNoMore v) : v.captureDue ↔ u.captureDue := by
  unfold State.captureDue
  rw [h.capture, h.ctl, h.entries, h.status]

/-- A beat answered (R138). -/
theorem asksNoMore_finishBeat (d : LaneData) (header : v.header = u.header) (engine : v.engine = u.engine) (capture : v.capture = u.capture)
    (ctl : v.ctl = u.ctl) (table : v.table = u.table) (read : v.host.read = u.host.read) : u.asksNoMore (v.finishBeat d) := by
  have left : v.host.leftRead = u.host.leftRead := by unfold HostPort.leftRead; rw [read]
  have entries : v.table.entries = u.table.entries := by rw [table]
  have status : v.table.status = u.table.status := by rw [table]
  unfold State.finishBeat
  split
  · exact ⟨header, engine, capture, ctl, entries, status, .inl read⟩
  · split
    · exact ⟨header, engine, capture, ctl, entries, status, .inr left⟩
    · split
      · exact ⟨header, engine, capture, ctl, entries, status, .inr left⟩
      · exact ⟨header, engine, capture, ctl, entries, status, .inl read⟩

/-- The offer that a drain write's grant makes due (R62). -/
theorem asksNoMore_reoffer (calm : x.calm) : x.arbitrate.asksNoMore (State.reoffer x x.arbitrate) := by
  obtain ⟨n, queue⟩ := arbitrate_queue x
  obtain ⟨-, -, -, table, -, -, -, -, -, -, -, -, header, host, tail, -⟩ := endsIn_arbitrate x
  have ctl : x.arbitrate.ctl = x.ctl := (arbitrate_keeps x).2.2.2.2.1
  generalize x.arbitrate = v at *
  have refl : v.asksNoMore v := ⟨rfl, rfl, rfl, rfl, rfl, rfl, .inl rfl⟩
  unfold State.reoffer
  split
  · next c p b cycle portion beat =>
    split
    · next due =>
      obtain ⟨opened, write, due⟩ := due
      have full : b.reason = .queueFull := by
        unfold State.offerDue at due
        split at due
        · assumption
        · rw [table] at due
          simp only [Bool.and_eq_true, decide_eq_true_eq] at due
          omega
        · cases due
      have held : ∀ b', v.asksNoMore (v.held b') := fun b' => ⟨rfl, rfl, rfl, rfl, rfl, rfl, .inl rfl⟩
      have posts : ∀ gate, (v.post c.word b p.cls gate).header = v.header ∧ (v.post c.word b p.cls gate).engine = v.engine
          ∧ (v.post c.word b p.cls gate).capture = v.capture ∧ (v.post c.word b p.cls gate).ctl = v.ctl
          ∧ (v.post c.word b p.cls gate).table = v.table ∧ (v.post c.word b p.cls gate).host = v.host := by
        intro gate
        unfold State.post
        split <;> exact ⟨rfl, rfl, rfl, rfl, rfl, rfl⟩
      by_cases admitted : p.cls = .guarded ∧ b.first = true
      · obtain ⟨guarded, first⟩ := admitted
        rw [offerWrite_admits guarded first]
        cases admission : v.admission p.granule with
        | busy =>
          obtain ⟨capture, noted, hosted, -, headed, ctl', -⟩ := exhaustedBy_keeps v p.granule
          rw [admitBeat_busy admission, noteExhausted_eq]
          refine ⟨headed, ?_, capture, ctl', ?_, ?_, .inr ?_⟩
          · show (v.exhaustedBy p.granule).engine = _
            rw [← noteExhausted_eq]
            unfold State.noteExhausted
            dsimp only
            split <;> simp
          · show (v.exhaustedBy p.granule).table.entries = _
            rw [noted]
          · show (v.exhaustedBy p.granule).table.status = _
            rw [noted]
          · show (v.exhaustedBy p.granule).host.leftRead = _
            rw [hosted]
        | ninth => rw [admitBeat_ninth admission]; exact held _
        | take gate effect =>
          by_cases takes : v.takesBeat c b gate
          · have quiet : effect = .nothing := by
              by_contra asks
              rw [ctl] at opened
              rw [host] at cycle portion beat
              refine calm opened c p b cycle portion beat write full guarded first gate effect ?_ asks ?_
              · rw [← admission_congr p.granule table (congrArg HeaderUnit.active header :) tail]
                exact admission
              · rcases takes with none | room
                · exact .inl none
                · rw [queue] at room
                  exact .inr (accepts_markDraining n room)
            rw [quiet] at admission
            obtain ⟨pheader, pengine, pcapture, pctl, ptable, phost⟩ := posts gate
            simp only [State.admitBeat, admission]
            rw [if_pos takes]
            exact asksNoMore_finishBeat _ pheader pengine pcapture pctl ptable (congrArg HostPort.read phost :)
          · rw [admitBeat_queueFull admission takes]; exact held _
      · obtain ⟨pheader, pengine, pcapture, pctl, ptable, phost⟩ := posts (v.beatGate p)
        unfold State.offerWrite
        rw [if_neg admitted]
        split
        · exact asksNoMore_finishBeat _ pheader pengine pcapture pctl ptable (congrArg HostPort.read phost)
        · exact held _
    · exact refl
  · exact refl

/-! ### Grants by rank -/

/-- A grant that an event of `s` made, in `t`, is not over a request of higher rank that stands there (R158, R160). -/
def State.grantsByRank (s t : State) : Prop :=
  ∀ o q, t.port.op = some o → o.beat = 0 → s.port.op ≠ some o → q ∈ o.kind.requester.above →
    t.standing q = none ∨ q = .hostRead ∧ s.port.aging = 4

theorem grantsByRank_of_op (h : t.port.op = s.port.op ∨ t.port.op = none) : s.grantsByRank t := by
  intro o q op _ new
  rcases h with same | none
  · exact absurd (same.symm.trans op) new
  · rw [none] at op; cases op

/-- The end of an event whose effect left the held beat calm (R159). -/
theorem grantsByRank_settle (bounded : s.port.aging ≤ 4) (calm : u.port.op = none → u.queue.entries = s.queue.entries → u.calm)
    (op : u.port.op = none ∨ u.port.op = s.port.op ∨ ∀ o ∈ u.port.op, o.beat ≠ 0) (aging : u.port.aging = s.port.aging ∨ u.port.aging = 0) :
    s.grantsByRank (State.settle s u) := by
  obtain ⟨w, ends, -, released⟩ := settle_tested s u
  have setup : u.leavesSetup w.tested := by
    rw [released]
    exact leavesSetup_testedFrom s u
  have kept := (leavesSetup_reoffer w.tested w.tested.arbitrate).trans (leavesSetup_takeCapture _)
  intro o q granted beat new above
  rw [ends] at granted ⊢
  rw [kept.op] at granted
  by_cases busy : w.tested.port.op.isSome
  · rw [arbitrate_busy busy, setup.op] at granted
    rcases op with none | same | later
    · rw [none] at granted; cases granted
    · exact absurd (same.symm.trans granted) new
    · exact absurd beat (later o granted)
  · have idle : w.tested.port.op = none := by simpa using busy
    have calmly : w.tested.calm := by
      rw [released]
      refine calm_tested (calm_releaseRead (calm_reoffer (calm ?_)))
      rw [← setup.op, idle]
    have going : ¬(w.tested.ctl.state = .parking ∨ w.tested.ctl.state = .parked) := by
      intro stopped
      rw [State.arbitrate, if_pos (.inr stopped), idle] at granted
      cases granted
    obtain ⟨parking, parked⟩ := not_or.1 going
    have asks := asksNoMore_reoffer calmly
    have undue : ¬State.captureDue (State.reoffer w.tested w.tested.arbitrate) := by
      rw [asksNoMore_captureDue asks, captureDue_congr (u := w.tested) (arbitrate_tests w.tested).2.2.2.2
        (by rw [(arbitrate_keeps _).2.2.2.2.1]) (arbitrate_keeps _).2.2.2.1]
      exact captureDue_tested w
    rw [takeCapture_undue undue]
    rcases arbitrate_grants idle parking parked with ⟨same, -⟩ | ⟨r, o', choice, standing, made⟩
    · rw [same, idle] at granted; cases granted
    · obtain rfl : o' = o := by rw [made] at granted; exact Option.some.inj granted
      rw [standing_requester standing] at above
      rcases above_of_choice choice above with none | ⟨read, -, aged⟩
      · have other : q ≠ .drain := by rintro rfl; revert above; cases r <;> decide
        refine .inl ((standing_none_iff _ _).2 (unasked_asksNoMore asks other ?_))
        rw [made]
        exact unasked_grant other ((standing_none_iff _ _).1 none)
      · refine .inr ⟨read, ?_⟩
        rcases setup.aging with same | zero
        · rcases aging with same' | zero
          · omega
          · omega
        · omega

end Calm

end Sys2Proof.Machine
end

section
/-! Every command, by the rank of the grants it ends with (R158 to R160). -/

namespace Sys2Proof.Machine

section Effects

variable {s t u v x : State} {o : MemOp} {c : Instr}

/-! ### Effects on the epoch control port -/

theorem calm_takeRequest (op : Operation) (h : x.calm) : (x.takeRequest op).calm := by
  have answered : ∀ (y : State) op r, y.calm → (y.driveAnswer op r).calm := fun y op r calm =>
    calm_congr (s := y) ⟨id, rfl, rfl, rfl, rfl, rfl, rfl, rfl⟩ calm
  have answers : ∀ op r, (x.driveAnswer op r).calm := fun op r => answered x op r h
  have refuses : ∀ op, (x.refuseAtLimit op).calm := fun op => answered _ op _
    (calm_congr (s := x) ⟨by simp, by simp, by simp, by simp, by simp, by simp, by simp, by simp⟩ h)
  cases op with
  | illegal => exact answers _ _
  | commit =>
    dsimp only [State.takeRequest]
    split
    · exact refuses .commit
    · refine calm_elsewhere ?_
      unfold State.takeCommit
      rw [leaveOpen_eq, (writeOvertaken_keeps _).2.2.2.2.2.2.1]
      exact fun opened => by cases opened
  | rollback =>
    dsimp only [State.takeRequest]
    split
    · exact refuses .rollback
    · split
      · refine calm_elsewhere ?_
        rw [takeRollback_ctl]
        exact fun opened => by cases opened
      · exact answers _ _
  | flush =>
    dsimp only [State.takeRequest, State.takeFlush]
    split
    · exact calm_congr (s := x) ⟨id, rfl, rfl, rfl, rfl, rfl, rfl, rfl⟩ h
    · exact answers _ _

theorem calm_takeRemembered (h : x.calm) : x.takeRemembered.calm := by
  unfold State.takeRemembered
  split
  · split
    · exact calm_takeRequest _ (calm_congr (s := x) ⟨id, rfl, rfl, rfl, rfl, rfl, rfl, rfl⟩ h)
    · exact h
  · exact h

theorem calm_flushTest (h : x.calm) : x.flushTest.calm := by
  unfold State.flushTest
  split
  · unfold State.reachResult
    split
    · split
      · exact calm_takeRemembered (calm_congr (s := x) ⟨by simp [State.recordResult], by simp [State.recordResult],
          by simp [State.recordResult], by simp [State.recordResult], by simp [State.recordResult], by simp [State.recordResult],
          by simp [State.recordResult], by simp [State.recordResult]⟩ h)
      · exact calm_congr (s := x) ⟨id, rfl, rfl, rfl, rfl, rfl, rfl, rfl⟩ h
    · exact calm_congr (s := x) ⟨id, rfl, rfl, rfl, rfl, rfl, rfl, rfl⟩ h
  · exact h

theorem calm_risingEdge (op : Operation) (h : x.calm) : (x.risingEdge op).calm := by
  unfold State.risingEdge
  cases hs : x.ctl.state with
  | opened =>
    dsimp only
    split
    · exact calm_takeRequest op h
    · exact calm_congr (s := x) ⟨id, rfl, rfl, rfl, rfl, rfl, rfl, rfl⟩ h
  | unformatted | fault => exact calm_congr (s := x) ⟨id, rfl, rfl, rfl, rfl, rfl, rfl, rfl⟩ h
  | starting | recovering | formatting | draining | rollingBack | sealing =>
    exact calm_congr (s := x) ⟨id, rfl, rfl, rfl, rfl, rfl, rfl, rfl⟩ h
  | parking | parked => exact h

/-! ### Effects outside OPEN -/

/-- The memory port stays. -/
abbrev State.keepsPort (s t : State) : Prop := t.port = s.port

theorem keepsPort_fault (s : State) (r : FaultReason) : s.keepsPort (s.enterFault r).endStartUp := by
  unfold State.keepsPort
  rw [endStartUp_closed (by exact fun h => by cases h)]
  rfl

theorem keepsPort_endRecovery (s : State) : s.keepsPort s.endRecovery := by
  unfold State.endRecovery
  dsimp only
  split
  · exact (keepsPort_fault _ _).trans (by simp)
  · rfl

theorem keepsPort_finishWalk (s : State) : s.keepsPort s.finishWalk := by
  unfold State.finishWalk
  split
  · exact keepsPort_endRecovery s
  · rfl

theorem keepsPort_stepWalk (s : State) : s.keepsPort s.stepWalk := by
  unfold State.stepWalk
  split
  · exact keepsPort_finishWalk s
  · rfl

theorem keepsPort_endScan (s : State) (n : Nat) : s.keepsPort (s.endScan n) := by
  cases n with
  | zero => exact keepsPort_finishWalk (s.setEngine { s.engine with pass := .walk, scanEnd := some 0 })
  | succ k => rfl

theorem keepsPort_scanFrom (s : State) (slot : Nat) : s.keepsPort (s.scanFrom slot) := by
  unfold State.scanFrom
  split
  · exact keepsPort_endScan s _
  · rfl

theorem keepsPort_takeRecord (s : State) (merr : List BadBeat) (ws : List MWord) : s.keepsPort (s.takeRecord merr ws) := by
  unfold State.takeRecord State.stepScan
  dsimp only
  (repeat' split)
  · exact keepsPort_scanFrom s _
  · exact keepsPort_endScan s _
  · exact keepsPort_scanFrom s _
  · rfl
  · exact keepsPort_endScan s _
  · rfl
  · exact (keepsPort_stepWalk _).trans (by simp)

theorem keepsPort_select (s : State) (slot : Slot) (h : HeaderRecord) (other : Judgement) : s.keepsPort (s.select slot h other) := by
  obtain ⟨u, hu⟩ : ∃ u, (s.noteDamagedSlot slot.other other h.epoch).selectHeader slot h = u := ⟨_, rfl⟩
  have taken : u.port = s.port := by
    rw [← hu]
    unfold State.selectHeader State.noteDamagedSlot
    split <;> simp
  unfold State.select
  rw [hu]
  refine Eq.trans ?_ taken
  unfold State.beginRecovery
  dsimp only
  split
  · exact (keepsPort_endRecovery _).trans (by simp)
  · exact (keepsPort_scanFrom _ 0).trans (by simp)

theorem keepsPort_takeHeader (s : State) (slot : Slot) (merr : List BadBeat) (ws : List MWord) :
    s.keepsPort (s.takeHeader slot merr ws) := by
  obtain ⟨u, hu⟩ : ∃ u, s.setHeader { (s.header.setSurvey slot (surveyOf (judgeSlot s.size (!merr.isEmpty) (bytesOf ws))
      (HeaderRecord.ofBytes (bytesOf ws)))) with readRequest := none } = u := ⟨_, rfl⟩
  have judged : u.port = s.port := by rw [← hu]; rfl
  unfold State.takeHeader
  dsimp only
  rw [hu]
  refine Eq.trans ?_ judged
  split
  · rfl
  · cases slot with
    | a => rfl
    | b =>
      dsimp only [State.selectSlot]
      split
      · exact keepsPort_select _ _ _ _
      · exact keepsPort_select _ _ _ _
      · unfold State.selectNone
        split
        · rw [endStartUp_closed (by exact fun h => by cases h)]
          rfl
        · split
          · exact keepsPort_fault _ _
          · exact keepsPort_fault _ _

theorem keepsPort_applySeal (s : State) (w : WriteRequest) (h : HeaderRecord) : s.keepsPort (s.applySeal w h) := by
  unfold State.keepsPort State.applySeal
  dsimp only
  split <;> simp [State.clearEpoch, State.selectWritten]

/-! ### The ends of events -/

theorem grantsByRank_refl (s : State) : s.grantsByRank s := grantsByRank_of_op (.inl rfl)

/-- A grant on its own (R158). -/
theorem grantsByRank_arbitrate (bounded : s.port.aging ≤ 4) (op : u.port.op = none ∨ u.port.op = s.port.op)
    (aging : u.port.aging = s.port.aging ∨ u.port.aging = 0) : s.grantsByRank u.arbitrate := by
  intro o q granted beat new above
  by_cases closed : u.port.op.isSome ∨ u.ctl.state = .parking ∨ u.ctl.state = .parked
  · rw [State.arbitrate, if_pos closed] at granted
    rcases op with none | same
    · rw [none] at granted; cases granted
    · exact absurd (same.symm.trans granted) new
  · simp only [not_or, Option.not_isSome_iff_eq_none] at closed
    obtain ⟨idle, parking, parked⟩ := closed
    rcases arbitrate_grants idle parking parked with ⟨same, -⟩ | ⟨r, o', choice, standing, made⟩
    · rw [same, idle] at granted; cases granted
    · obtain rfl : o' = o := by rw [made] at granted; exact Option.some.inj granted
      rw [standing_requester standing] at above
      rcases above_of_choice choice above with none | ⟨read, -, aged⟩
      · have other : q ≠ .drain := by rintro rfl; revert above; cases r <;> decide
        refine .inl ((standing_none_iff _ _).2 ?_)
        rw [made]
        exact unasked_grant other ((standing_none_iff _ _).1 none)
      · exact .inr ⟨read, by rcases aging with same | zero <;> omega⟩

theorem noteParked_port (s : State) : s.noteParked.port = s.port := by
  rw [State.noteParked, (raise_keeps _ _ _ _).2.2.2.2.2.2.2.2.2.1]
  rfl

theorem sampleStrap_port (s : State) : s.sampleStrap.port = s.port := by
  unfold State.sampleStrap
  split
  · exact keepsPort_fault _ _
  · rfl

theorem enterParking_op (s : State) : s.enterParking.port.op = s.port.op := by
  unfold State.enterParking
  dsimp only
  rw [setQueue_port, (leavesSetup_keepEntries _ _).op, (leavesSetup_parkHost _).op]
  rfl

theorem parkAtStart_op (s : State) (order : StartOrder) : (s.parkAtStart order).port.op = s.port.op := by
  unfold State.parkAtStart
  rw [noteParked_port, enterParking_op]
  cases order with
  | strapFirst => dsimp only; rw [sampleStrap_port]
  | pfwFirst => rfl

theorem grantsByRank_beginRestart (bounded : s.port.aging ≤ 4) (again : Option StartOrder) : s.grantsByRank (u.beginRestart again) := by
  cases again with
  | none =>
    refine grantsByRank_arbitrate bounded (.inl ?_) (.inr ?_) <;> rw [sampleStrap_port] <;> rfl
  | some order => exact grantsByRank_of_op (.inr (parkAtStart_op _ _))

theorem grantsByRank_completion (bounded : s.port.aging ≤ 4) (idle : u.port.op = none)
    (aging : u.port.aging = s.port.aging ∨ u.port.aging = 0) (calm : u.queue.entries = s.queue.entries → u.calm) :
    s.grantsByRank (State.afterCompletion s u) := by
  by_cases parking : u.ctl.state = .parking
  · rw [afterCompletion_parking parking]
    unfold State.enterParked
    split
    · exact grantsByRank_of_op (.inr (by rw [noteParked_port]; exact idle))
    · exact grantsByRank_beginRestart bounded _
  · rw [afterCompletion_settle parking]
    exact grantsByRank_settle bounded (fun _ => calm) (.inl idle) aging

/-- A completion's effect, after the port's own part (R152). -/
theorem grantsByRank_leaves (bounded : s.port.aging ≤ 4) (o : MemOp) (kept : (s.finishOp o).leavesSetup u)
    (calm : u.queue.entries = s.queue.entries → u.calm) : s.grantsByRank (State.afterCompletion s u) :=
  grantsByRank_completion bounded kept.op kept.aging calm

theorem grantsByRank_port (bounded : s.port.aging ≤ 4) (o : MemOp) (kept : (s.finishOp o).keepsPort u)
    (calm : u.queue.entries = s.queue.entries → u.calm) : s.grantsByRank (State.afterCompletion s u) :=
  grantsByRank_completion bounded (by rw [kept]; rfl) (.inl (by rw [kept]; rfl)) calm

/-- Outside OPEN no write beat waits, and none comes to wait (R143, R146). -/
theorem calm_posts (held : s.heldWriteInOpen) (elsewhere : s.ctl.state ≠ .opened) (h : s.postsNothing u) : u.calm :=
  calm_of_noWait fun waits => elsewhere (heldWriteInOpen_iff.1 held (h.waited waits))

end Effects

/-! ### Every command -/

section Commands

variable {s t u : State} {c : Instr}

theorem grantsByRank_hostBus (lawful : s.Lawful) (h : exec c s = .next t)
    (named : (∃ word hlen lanes data, c = .hostWriteFirstBeat word hlen lanes data)
      ∨ (∃ lanes data, c = .hostWriteLaterBeat lanes data) ∨ (∃ word hlen lanes, c = .hostReadFirstBeat word hlen lanes)
      ∨ ∃ lanes, c = .hostReadLaterBeat lanes) : s.grantsByRank t := by
  have bounded := lawful.bounded.2.2
  have settles : ∀ {u}, s.leavesSetup u → u.calm → s.grantsByRank (State.settle s u) := fun kept calm =>
    grantsByRank_settle bounded (fun _ _ => calm) (.inr (.inl kept.op)) kept.aging
  have truncated := leavesSetup_truncate s
  rcases named with ⟨word, hlen, lanes, data, rfl⟩ | ⟨lanes, data, rfl⟩ | ⟨word, hlen, lanes, rfl⟩ | ⟨lanes, rfl⟩
  · cases h
    split
    · split
      · exact settles (truncated.trans (leavesSetup_closeBeat _ _ _)) (calm_of_noWait (not_writeWaits_of_noBeat rfl))
      · refine settles (truncated.trans (leavesSetup_decodeWrite _ _ _ _ _)) ?_
        unfold State.decodeWrite
        dsimp only
        split
        · exact calm_offered rfl rfl
        · exact calm_of_noWait (not_writeWaits_of_noBeat rfl)
    · exact grantsByRank_refl s
  · cases h
    split
    · next c p presented =>
      refine settles (leavesSetup_laterWrite s c p lanes data) ?_
      unfold State.laterWrite
      split
      · unfold State.laterBeat at presented
        split at presented
        · next cycle portion _ =>
          split at presented
          · cases presented
            exact calm_offered cycle portion
          · cases presented
        · cases presented
      · exact calm_of_noWait (not_writeWaits_of_noBeat rfl)
    · exact grantsByRank_refl s
  · cases h
    split
    · split
      · exact settles (truncated.trans (leavesSetup_closeBeat _ _ _)) (calm_of_noWait (not_writeWaits_of_noBeat rfl))
      · refine settles (truncated.trans (leavesSetup_decodeRead _ _ _ _)) (calm_of_noWait ?_)
        unfold State.decodeRead
        dsimp only
        split
        · exact not_writeWaits_of_noBeat rfl
        · split
          · exact not_writeWaits_of_noBeat rfl
          · refine fun waits => not_writeWaits_of_noBeat (s := State.beginCycle _ _ _) rfl
              ((postsNothing_serveRead ?_ _ _).waited waits)
            rintro d ⟨⟩
            rfl
    · exact grantsByRank_refl s
  · cases h
    split
    · next presented =>
      have read := laterBeat_cycle presented
      split
      · refine settles (leavesSetup_serveRead _ _ _) (calm_of_noWait fun waits => ?_)
        exact not_writeWaits_of_read read ((postsNothing_serveRead read _ _).waited waits)
      · exact settles (leavesSetup_closeBeat _ _ _) (calm_of_noWait (not_writeWaits_of_noBeat rfl))
    · exact grantsByRank_refl s

/-- A word handed over leaves its operation in progress (R153). -/
theorem grantsByRank_hostReadWordArrival {merr : Option MWord} (h : execHostReadWordArrival merr s = .next t) :
    s.grantsByRank t := by
  refine onOperation_elim (P := s.grantsByRank) h (grantsByRank_refl s) fun o _ => ?_
  split
  · have placed : ∀ (u : State) word data bad, (u.placeWord word data bad).port = u.port := by
      intro u word data bad
      unfold State.placeWord
      split
      · split <;> rfl
      · rfl
    have answered : ∀ (u : State) word data bad, (u.answerArrived word data bad).port.op = u.port.op := by
      intro u word data bad
      unfold State.answerArrived
      split
      · split
        · exact (leavesSetup_answerWord _ _ _ _ _).op
        · rfl
      · rfl
    have op : (s.takeWord o merr).port.op = some { o with beat := o.beat + 1 } := by
      unfold State.takeWord
      dsimp only
      rw [answered, placed]
      rfl
    intro o' q granted beat
    have kept : (State.settle s (s.takeWord o merr)).port.op = some { o with beat := o.beat + 1 } := by
      obtain ⟨w, ends, -, released⟩ := settle_tested s (s.takeWord o merr)
      have busy : w.tested.port.op = some { o with beat := o.beat + 1 } := by
        rw [released]
        exact (leavesSetup_testedFrom s _).op.trans op
      rw [ends, ((leavesSetup_reoffer _ _).trans (leavesSetup_takeCapture _)).op, arbitrate_busy (by rw [busy]; rfl), busy]
    rw [kept] at granted
    cases granted
    cases beat
  · exact grantsByRank_refl s

theorem grantsByRank_requestEdge (lawful : s.Lawful) (op : Operation) : s.grantsByRank (s.requestEdge op) := by
  unfold State.requestEdge
  dsimp only
  split
  · exact grantsByRank_of_op (.inl rfl)
  · obtain ⟨x, hx⟩ : ∃ x, (s.setPins { s.pins with ereq := true, eop := op.eop }).setCtl
        { (s.setPins { s.pins with ereq := true, eop := op.eop }).ctl with lowSeen := true } = x := ⟨_, rfl⟩
    have calm : x.calm := by
      rw [← hx]
      exact calm_congr (s := s) ⟨id, rfl, rfl, rfl, rfl, rfl, rfl, rfl⟩ (calm_of_lawful lawful)
    have port : x.port = s.port := by rw [← hx]; rfl
    have kept := leavesSetup_risingEdge x op
    rw [hx]
    refine grantsByRank_settle lawful.bounded.2.2 (fun _ _ => calm_risingEdge op calm) (.inr (.inl ?_)) ?_
    · rw [kept.op, port]
    · rw [← port]; exact kept.aging

/-- PFW asserted, or seen deasserted, grants nothing but on a restart (R115, R128, R133). -/
theorem grantsByRank_power (lawful : s.Lawful) (h : exec c s = .next t)
    (named : (∃ tear, c = .resetnAssert tear ∨ c = .supplyCollapse tear) ∨ (∃ sample, c = .resetnRelease sample)
      ∨ c = .pfwTaken ∨ ∃ sample, c = .restart sample) : s.grantsByRank t := by
  have bounded := lawful.bounded.2.2
  have cuts : ∀ {tear}, s.cutOff tear = .next t → s.grantsByRank t := by
    intro tear done
    unfold State.cutOff at done
    split at done
    · cases done
      exact grantsByRank_of_op (.inr rfl)
    · cases done
  rcases named with ⟨tear, rfl | rfl⟩ | ⟨sample, rfl⟩ | rfl | ⟨sample, rfl⟩
  · exact cuts h
  · exact cuts h
  · cases h
    dsimp only
    split
    · split
      · exact grantsByRank_of_op (.inl (parkAtStart_op _ _))
      · exact grantsByRank_arbitrate bounded (.inr (by rw [sampleStrap_port]; rfl)) (.inl (by rw [sampleStrap_port]; rfl))
    · exact grantsByRank_refl s
  · cases h
    dsimp only
    split
    · exact grantsByRank_of_op (.inl rfl)
    · split
      · exact grantsByRank_of_op (.inl rfl)
      · split
        · exact grantsByRank_of_op (.inl (enterParking_op _))
        · exact grantsByRank_of_op (.inl (by rw [noteParked_port, enterParking_op]; rfl))
  · cases h
    dsimp only
    split
    · exact grantsByRank_of_op (.inl rfl)
    · split
      · exact grantsByRank_beginRestart bounded _
      · split <;> exact grantsByRank_of_op (.inl rfl)

/-! ### The captures' completions -/

/-- Under BREAKING and BROKEN no capture starts and the epoch does not break (R48). -/
theorem calm_broken (h : u.table.status = some .breaking ∨ u.table.status = some .broken) : u.calm := by
  intro _ c p b _ _ _ _ _ _ _ gate effect admission asks
  rcases h with breaking | broken
  · rw [admission_breaking breaking] at admission; cases admission; exact absurd rfl asks
  · rw [admission_broken broken] at admission; cases admission; exact absurd rfl asks

/-- A read beat that waits asks for its own words alone (R148). -/
theorem calm_requestWaiting (h : u.calm) : u.requestWaiting.calm := by
  unfold State.requestWaiting
  split
  · next c b cycle beat =>
    split
    · next due =>
      obtain ⟨read, -⟩ := due
      refine calm_of_noWait (not_writeWaits_of_read ?_)
      have kept : (u.requestRead c b).host.cycle = u.host.cycle := by
        unfold State.requestRead
        split <;> rfl
      rw [kept, cycle]
      rintro d ⟨⟩
      exact read
    · exact h
  · exact h

theorem calm_takePreImage (lawful : s.Lawful) {o : MemOp} (underway : s.completing .preImageRead = .underway o) (merr : List BadBeat)
    (image : List MWord) : ((s.finishOp o).takePreImage merr image).calm := by
  have calm : (s.finishOp o).calm := calm_congr (s := s) ⟨id, rfl, rfl, rfl, rfl, rfl, rfl, rfl⟩ (calm_of_lawful lawful)
  obtain ⟨-, -, waits, -⟩ := completing_underway.1 underway
  have reading : s.capture.phase = .reading := by
    simp only [State.ownerWaits, Bool.and_eq_true, beq_iff_eq] at waits
    exact waits.1
  obtain ⟨-, -, -, -, ⟨-, status, -⟩, ⟨-, stopped, -⟩, -⟩ := lawful.consistent
  have noted : ∀ u : State, (u.noteFailure merr).table = u.table ∧ (u.noteFailure merr).ctl = u.ctl := by
    intro u
    unfold State.noteFailure
    split
    · exact ⟨rfl, rfl⟩
    · simp
  unfold State.takePreImage
  split
  · next parking =>
    refine calm_elsewhere ?_
    rw [setCapture_ctl, (noted _).2, parking]
    decide
  · split
    · next stop =>
      obtain ⟨-, halted⟩ := stopped reading stop
      have ends := capturesEnd_endStopped ((s.finishOp o).noteFailure merr)
      rcases halted with breaking | elsewhere
      · refine calm_broken (.inl ?_)
        rw [ends.status, (noted _).1]
        exact breaking
      · refine calm_elsewhere ?_
        rw [ends.ctl, (noted _).2]
        intro opened
        rw [show s.ctl.state = _ from opened] at elsewhere
        rcases elsewhere with h | h <;> cases h
    · split
      · exact calm_congr (s := s.finishOp o) ⟨id, rfl, rfl, rfl, rfl, rfl, rfl, rfl⟩ calm
      · obtain ⟨x, hx⟩ : ∃ x, ((s.finishOp o).noteFailure merr).releaseInFlight = x := ⟨_, rfl⟩
        have table : x.table.status = s.table.status := by
          rw [← hx, State.releaseInFlight, (capturesEnd_dropEntries _ _).status, setCapture_table, (noted _).1]
          rfl
        have ctl : x.ctl = s.ctl := by
          rw [← hx, State.releaseInFlight, (capturesEnd_dropEntries _ _).ctl, setCapture_ctl, (noted _).2]
          rfl
        have ends := capturesEnd_waitForMark x.enterBreaking ((s.finishOp o).noteFailure merr).capture.granule.toList
        unfold State.failCapture
        rw [hx]
        by_cases opened : s.ctl.state = .opened
        · refine calm_broken ?_
          rw [ends.status]
          have stands := status ⟨by rw [opened]; rfl, by rw [opened]; rfl⟩
          rw [← table] at stands
          unfold State.enterBreaking
          split
          · refine .inl ?_
            dsimp only
            exact ((capturesEnd_stopCapture _).trans (capturesEnd_cancelWaiting _)).status
          · next sound =>
            cases is : x.table.status with
            | none => exact absurd is stands
            | some e =>
              cases e with
              | intact => exact absurd is sound
              | breaking => exact .inl rfl
              | broken => exact .inr rfl
        · refine calm_elsewhere ?_
          rw [ends.ctl, (enterBreaking_leaves x).1, ctl]
          exact opened

/-- The entries that stand are those that stood, and an entry LOGGED stands on (R29). -/
theorem calm_completeCapture (lawful : s.Lawful) (o : MemOp) (same : (s.finishOp o).completeCapture.queue.entries = s.queue.entries) :
    (s.finishOp o).completeCapture.calm := by
  obtain ⟨x, hx⟩ : ∃ x, (s.finishOp o).completeCapture = x := ⟨_, rfl⟩
  have status : x.table.status = s.table.status := by
    rw [← hx]
    unfold State.completeCapture
    dsimp only
    split <;> (simp only [State.mapGates, watermarkTest_keeps, setTable_table, setHost_table, setQueue_table, GranuleTable.complete]; split <;> rfl)
  have host : x.host.cycle = s.host.cycle ∧ x.host.beat = s.host.beat := by
    rw [← hx]
    exact ⟨(sameWrites_completeCapture _).cycle, (sameWrites_completeCapture _).beat⟩
  rw [hx] at same ⊢
  by_cases broken : s.table.status = some .broken
  · exact calm_broken (.inr (status.trans broken))
  obtain ⟨-, -, -, -, -, holds⟩ := lawful.host
  obtain ⟨entries, -⟩ := lawful.gates
  refine calm_of_gates ?_ fun e he => ?_
  · rintro ⟨c, cycle, write, -⟩ b beat full
    rw [host.1] at cycle
    rw [host.2] at beat
    obtain ⟨-, -, -, -, -, beats⟩ := holds c cycle
    rcases (beats b beat).1 write with ⟨-, lanes, eight⟩ | ⟨ninth, -⟩
    · exact ⟨lanes, by rw [same]; exact eight⟩
    · rw [full] at ninth; cases ninth
  · rw [same] at he
    obtain ⟨tied, waits⟩ := entries e he
    refine ⟨fun g hg => ?_, fun wait => status.trans (waits wait)⟩
    have present := (tied g hg).2.2
    have table : x.table.entries = s.table.entries.map
        (fun e => if e.granule = s.capture.granule.getD 0 then { e with state := .logged } else e) := by
      rw [← hx]
      unfold State.completeCapture
      dsimp only
      split <;> (simp only [State.mapGates, watermarkTest_keeps, setTable_table, setHost_table, setQueue_table, GranuleTable.complete]
                 rw [if_neg (by exact broken)]; rfl)
    rw [table]
    by_cases own : g = s.capture.granule.getD 0
    · exact ⟨.logged, List.mem_map.2 ⟨_, present, by rw [if_pos own]⟩⟩
    · exact ⟨.capturing, List.mem_map.2 ⟨_, present, by rw [if_neg own]⟩⟩

/-! ### The header writes -/

/-- Every header write but the mark completes outside OPEN (R112). -/
theorem write_elsewhere (lawful : s.Lawful) {w : WriteRequest} (request : s.header.writeRequest = some w) (other : .opened ∉ w.kind.state) :
    s.ctl.state ≠ .opened := by
  obtain ⟨-, -, writes, -⟩ := lawful.consistent
  obtain ⟨state, -⟩ := writes w (by rw [request]; rfl)
  intro opened
  rw [opened] at state
  exact state.elim other (fun stopped => by cases stopped)

theorem grantsByRank_headerWrite (lawful : s.Lawful) (h : exec c s = .next t)
    (named : c = .sealComplete ∨ c = .recoverySealComplete ∨ c = .clearingWriteComplete ∨ c = .formatWriteComplete) : s.grantsByRank t := by
  have bounded := lawful.bounded.2.2
  have writes : ∀ {mine effect}, (∀ k, mine k = true → .opened ∉ k.state) → (∀ (u : State) w, u.postsNothing (effect u w)) →
      (∀ (u : State) w, (effect u w).port.op = u.port.op ∧ ((effect u w).port.aging = u.port.aging ∨ (effect u w).port.aging = 0)) →
      s.onHeaderWrite mine effect = .next t → s.grantsByRank t := by
    intro mine effect other posts port done
    refine onHeaderWrite_elim (P := s.grantsByRank) done (grantsByRank_refl s) fun o w _ request kind => ?_
    obtain ⟨op, aging⟩ := port (s.finishOp o) w
    exact grantsByRank_completion bounded op aging fun _ => calm_posts lawful.heldWrite (write_elsewhere lawful request (other _ kind))
      ((sameWrites_finishOp s o).postsNothing.trans (posts _ _))
  rcases named with rfl | rfl | rfl | rfl
  · refine writes (fun k mine => ?_) postsNothing_takeSeal (fun u w => ?_) (show execSealComplete s = .next t from h)
    · obtain rfl : k = .commitSeal := by simpa using mine
      decide
    · have applied := keepsPort_applySeal u w w.header
      unfold State.takeSeal
      dsimp only
      split
      · exact ⟨by rw [applied], .inl (by rw [applied])⟩
      · have kept := ((leavesSetup_enters (u.applySeal w w.header) (d := .opened) (by decide)).trans
          (leavesSetup_reachResult _ u.sealResult)).trans (leavesSetup_takeRemembered _)
        exact ⟨kept.op.trans (by rw [applied]), kept.aging.imp (fun same => same.trans (by rw [applied])) id⟩
  · refine writes (fun k mine => ?_) postsNothing_takeRecoverySeal (fun u w => ?_) (show execRecoverySealComplete s = .next t from h)
    · obtain rfl : k = .recoverySeal := by simpa using mine
      decide
    · exact ⟨(leavesSetup_takeRecoverySeal u w).op, (leavesSetup_takeRecoverySeal u w).aging⟩
  · refine writes (fun k mine => ?_) (fun u w => (sameWrites_takeClearing u w).postsNothing) (fun u w => ?_)
      (show execClearingWriteComplete s = .next t from h)
    · cases k with
      | clearing n => simp [WriteKind.state]
      | formatWrite | commitSeal | recoverySeal | mark => cases mine
    · exact ⟨(leavesSetup_takeClearing u w).op, (leavesSetup_takeClearing u w).aging⟩
  · refine writes (fun k mine => ?_) postsNothing_takeFormat (fun u w => ?_) (show execFormatWriteComplete s = .next t from h)
    · cases k with
      | formatWrite n => simp [WriteKind.state]
      | clearing | commitSeal | recoverySeal | mark => cases mine
    · unfold State.takeFormat
      have kept := fun y => (leavesSetup_openUnlessParking y).trans (leavesSetup_takeRemembered _)
      exact ⟨(kept _).op, (kept _).aging⟩

theorem exec_grantsByRank (lawful : s.Lawful) (h : exec c s = .next t) : s.grantsByRank t := by
  have bounded := lawful.bounded.2.2
  have calm := calm_of_lawful lawful
  have finished : ∀ o, (s.finishOp o).calm := fun o => calm_congr (s := s) ⟨id, rfl, rfl, rfl, rfl, rfl, rfl, rfl⟩ calm
  have links : ∀ {i : Instr} {effect : List Byte → State}, s.onLink i effect = .next t → (∀ sent, (effect sent).port = s.port) →
      s.grantsByRank t := by
    intro i effect done he
    cases done
    split
    · split
      · exact grantsByRank_of_op (.inl (by rw [he]))
      · exact grantsByRank_refl s
    · exact grantsByRank_refl s
  cases c with
  | resetnAssert tear => exact grantsByRank_power lawful h (.inl ⟨tear, .inl rfl⟩)
  | supplyCollapse tear => exact grantsByRank_power lawful h (.inl ⟨tear, .inr rfl⟩)
  | resetnRelease sample => exact grantsByRank_power lawful h (.inr (.inl ⟨sample, rfl⟩))
  | pfwTaken => exact grantsByRank_power lawful h (.inr (.inr (.inl rfl)))
  | restart sample => exact grantsByRank_power lawful h (.inr (.inr (.inr ⟨sample, rfl⟩)))
  | hostWriteFirstBeat word hlen lanes data => exact grantsByRank_hostBus lawful h (.inl ⟨word, hlen, lanes, data, rfl⟩)
  | hostWriteLaterBeat lanes data => exact grantsByRank_hostBus lawful h (.inr (.inl ⟨lanes, data, rfl⟩))
  | hostReadFirstBeat word hlen lanes => exact grantsByRank_hostBus lawful h (.inr (.inr (.inl ⟨word, hlen, lanes, rfl⟩)))
  | hostReadLaterBeat lanes => exact grantsByRank_hostBus lawful h (.inr (.inr (.inr ⟨lanes, rfl⟩)))
  | hostReadWordArrival merr => exact grantsByRank_hostReadWordArrival h
  | hostReadComplete =>
    refine onOperation_elim (P := s.grantsByRank) h (grantsByRank_refl s) fun o _ => ?_
    split
    · have ended : ((s.finishOp o).setHost { (s.finishOp o).host with read := none }).calm :=
        calm_congr (s := s) ⟨id, rfl, rfl, rfl, rfl, rfl, rfl, rfl⟩ calm
      dsimp only
      split
      · exact grantsByRank_leaves bounded o (leavesSetup_setHost _ _) fun _ => ended
      · exact grantsByRank_leaves bounded o ((leavesSetup_setHost _ _).trans (leavesSetup_requestWaiting _)) fun _ => calm_requestWaiting ended
    · exact grantsByRank_refl s
  | commit => cases h; exact grantsByRank_requestEdge lawful .commit
  | rollback => cases h; exact grantsByRank_requestEdge lawful .rollback
  | flush => cases h; exact grantsByRank_requestEdge lawful .flush
  | illegalOperation => cases h; exact grantsByRank_requestEdge lawful .illegal
  | answerAck ereq =>
    cases h
    split
    · split
      · exact grantsByRank_of_op (.inl rfl)
      · exact grantsByRank_of_op (.inl (by rw [(ereqLow_leaves s).2.1]))
    · exact grantsByRank_refl s
  | ereqFall =>
    cases h
    split
    · exact grantsByRank_of_op (.inl rfl)
    · exact grantsByRank_of_op (.inl (by rw [(ereqLow_leaves s).2.1]))
  | drainWriteComplete =>
    refine onOperation_elim (P := s.grantsByRank) h (grantsByRank_refl s) fun o _ => grantsByRank_leaves bounded o
      (((leavesSetup_keepEntries _ _).trans (leavesSetup_reoffer s _)).trans (leavesSetup_flushTest _)) fun _ => ?_
    refine calm_flushTest (calm_reoffer fun same => ?_)
    exact calm_congr (s := s) ⟨id, rfl, rfl, rfl, rfl, rfl, rfl, same⟩ calm
  | preImageReadComplete merr =>
    exact onOperation_elim (P := s.grantsByRank) h (grantsByRank_refl s) fun o underway =>
      grantsByRank_leaves bounded o (leavesSetup_takePreImage _ _ _) fun _ => calm_takePreImage lawful underway _ _
  | recordWriteComplete =>
    exact onOperation_elim (P := s.grantsByRank) h (grantsByRank_refl s) fun o _ =>
      grantsByRank_leaves bounded o (leavesSetup_completeCapture _) fun same => calm_completeCapture lawful o same
  | recordReadComplete merr =>
    refine onOperation_elim (P := s.grantsByRank) h (grantsByRank_refl s) fun o underway => ?_
    obtain ⟨-, -, waits, -⟩ := completing_underway.1 underway
    have elsewhere := recordRead_elsewhere lawful waits
    refine grantsByRank_port bounded o ?_ fun _ => calm_posts lawful.heldWrite elsewhere
      ((sameWrites_finishOp s o).postsNothing.trans ?_)
    · split
      · rfl
      · exact keepsPort_takeRecord _ _ _
    · split
      · exact (sameWrites_setEngine ..).postsNothing
      · exact postsNothing_takeRecord (s := s.finishOp o) elsewhere _ _
  | restoreWriteComplete =>
    refine onOperation_elim (P := s.grantsByRank) h (grantsByRank_refl s) fun o underway => ?_
    obtain ⟨-, -, waits, -⟩ := completing_underway.1 underway
    have elsewhere := restoreWrite_elsewhere lawful waits
    refine grantsByRank_port bounded o ?_ fun _ => calm_posts lawful.heldWrite elsewhere
      ((sameWrites_finishOp s o).postsNothing.trans ?_)
    · dsimp only
      split
      · rfl
      · exact keepsPort_stepWalk (State.setEngine _ _)
    · dsimp only
      split
      · exact ((sameWrites_setEngine ..).trans (sameWrites_setEngine ..)).postsNothing
      · exact (sameWrites_setEngine ..).postsNothing.trans (postsNothing_stepWalk (s := (s.finishOp o).setEngine _) elsewhere)
  | headerReadComplete merr =>
    refine onOperation_elim (P := s.grantsByRank) h (grantsByRank_refl s) fun o underway => ?_
    obtain ⟨-, -, waits, -⟩ := completing_underway.1 underway
    have elsewhere := headerRead_elsewhere lawful waits
    exact grantsByRank_port bounded o (keepsPort_takeHeader _ _ _ _) fun _ => calm_posts lawful.heldWrite elsewhere
      ((sameWrites_finishOp s o).postsNothing.trans (postsNothing_takeHeader (s := s.finishOp o) elsewhere _ _ _))
  | markWriteComplete =>
    refine onHeaderWrite_elim (P := s.grantsByRank) (show execMarkWriteComplete s = .next t from h) (grantsByRank_refl s)
      fun o w _ _ _ => grantsByRank_leaves bounded o (leavesSetup_takeMark _ w) fun _ => calm_broken (.inr ?_)
    unfold State.takeMark
    dsimp only
    rw [setAlarms_table, (raise_keeps _ _ _ _).2.2.2.2.1, (capturesEnd_dropEntries _ _).status]
    rfl
  | sealComplete => exact grantsByRank_headerWrite lawful h (.inl rfl)
  | recoverySealComplete => exact grantsByRank_headerWrite lawful h (.inr (.inl rfl))
  | clearingWriteComplete => exact grantsByRank_headerWrite lawful h (.inr (.inr (.inl rfl)))
  | formatWriteComplete => exact grantsByRank_headerWrite lawful h (.inr (.inr (.inr rfl)))
  | getStatus => exact links (show execGetStatus s = .next t from h) fun _ => rfl
  | getStaged => exact links (show execGetStaged s = .next t from h) fun _ => rfl
  | unknownCommand code => exact links (show execUnknownCommand code s = .next t from h) fun _ => rfl
  | popEvent => exact links (show execPopEvent s = .next t from h) fun _ => by dsimp only; split <;> rfl
  | popEventRemoval =>
    cases h
    split
    · dsimp only
      split <;> exact grantsByRank_of_op (.inl rfl)
    · exact grantsByRank_refl s
  | getActive => exact links (show execGetActive s = .next t from h) fun _ => by split <;> rfl
  | stageRegion index present cls base length =>
    refine links (show execStageRegion index present cls base length s = .next t from h) fun _ => ?_
    split
    · rfl
    · split <;> rfl
  | stageLog capacity policy watermark =>
    exact links (show execStageLog capacity policy watermark s = .next t from h) fun _ => by split <;> rfl
  | apply =>
    refine links (show execApply s = .next t from h) fun _ => ?_
    split
    · rfl
    · split <;> rfl
  | unstage => exact links (show execUnstage s = .next t from h) fun _ => by dsimp only; split <;> rfl
  | format number =>
    cases show execFormat number s = .next t from h
    split
    · split
      · split
        · exact grantsByRank_of_op (.inl rfl)
        · split
          · exact grantsByRank_of_op (.inl rfl)
          · split
            · exact grantsByRank_of_op (.inl rfl)
            · exact grantsByRank_arbitrate bounded (.inr rfl) (.inl rfl)
      · exact grantsByRank_refl s
    · exact grantsByRank_refl s
  | frameStart =>
    cases h
    split
    · exact grantsByRank_refl s
    · dsimp only
      split <;> exact grantsByRank_of_op (.inl rfl)
  | frameEnd =>
    cases h
    split <;> exact grantsByRank_of_op (.inl rfl)

theorem step_grantsByRank (lawful : s.Lawful) (h : step s = .next t) : s.grantsByRank t := by
  unfold step at h
  split at h
  · cases h
    exact grantsByRank_refl s
  · next c rest _ => exact exec_grantsByRank (s := s.setPending rest) (setPending_lawful lawful rest) h

end Commands

section Statement

/-- Settles O24: the choice is the winner by rank; what an event does after its grant asks for nothing of higher rank, for the beat
it offers again is taken, if at all, into the newest entry of a full queue. -/
theorem grantsByRankAndDrivesLines : Obligations.GrantsByRankAndDrivesLines := by
  intro s t o r q l k edges b
  refine ⟨arbitrate_makesNone, arbitrate_wins, fun lawful taken granted beat new above => step_grantsByRank lawful taken o q granted beat new above,
    fun low p _ => by rw [State.memoryLines, if_pos low]; rfl, fun high idle p _ => ?_, fun high op => ?_, fun low => ?_, fun high waits => ?_,
    fun high answered late => ?_, fun high answered => ⟨fun p hp response => ?_, ?_⟩, sdoByte_sent, ?_, clocked_phase⟩
  · rw [State.memoryLines, if_neg (by simp [high]), idle]
    rfl
  · have lines : ∀ p, s.memoryLines p = o.lines p := fun p => by rw [State.memoryLines, if_neg (by simp [high]), op]
    simp only [lines]
    obtain ⟨address, turnaround, reads, writes⟩ := memOp_lines (k := k) o
    exact ⟨address, turnaround, reads, fun write within d data => ⟨writes write within d data, lanes_bits d⟩⟩
  · exact ⟨by rw [State.hrsp, if_pos low]; rfl, by rw [State.hd, if_pos (.inl low)]⟩
  · exact ⟨by rw [State.hrsp, if_neg (by simp [high]), if_pos waits]; rfl, by rw [State.hd, if_pos (.inr (.inl waits))]⟩
  · exact ⟨by rw [State.hrsp, if_neg (by simp [high]), if_neg (by simp [answered]), if_neg late]; rfl,
      by rw [State.hd, if_pos (.inr (.inr late))]⟩
  · rw [State.hrsp, if_neg (by simp [high]), if_neg (by simp [answered]), if_pos rfl, response]
    simp only [List.mem_cons, List.not_mem_nil, or_false] at hp
    rcases hp with rfl | rfl | rfl | rfl | rfl <;> rfl
  · rw [State.hd, if_neg (by simp [high, answered])]
  · rintro (phase | phase) <;> rw [ManagementLink.sdoByte, phase] <;> rfl

end Statement

end Sys2Proof.Machine
end


section
/-! What the requesters address and the configurations they use lie within the memory that exists (R2, R5, R7, R10, R42): the law that
every block's changes keep. -/

namespace Sys2Proof.Machine

/-! ### The law -/

/-- What a cycle addresses, to the end of its granule, lies below `words` (R2). -/
structure HostPort.within (words : Nat) (h : HostPort) : Prop where
  cycle : ∀ c ∈ h.cycle, 16 * (c.word / 16) + 16 ≤ words
  portion : ∀ p ∈ h.portion, 16 * p.granule + 16 ≤ words
  read : ∀ r ∈ h.read, r.start + r.length ≤ words

/-- The capture unit has a granule below `words` and a slot below `capacity` (R2, R5). -/
structure CaptureUnit.within (words capacity : Nat) (c : CaptureUnit) : Prop where
  granule : ∀ g ∈ c.granule, 16 * g + 16 ≤ words
  reading : c.phase = .reading → c.granule.isSome
  slot : c.phase = .writing → ∃ i ∈ c.slot, i < capacity

/-- The rollback engine reads a slot below `capacity` and restores a granule below `words` (R2, R5). -/
structure RollbackEngine.within (words capacity : Nat) (e : RollbackEngine) : Prop where
  slot : e.phase ≠ .idle → e.slotRead < capacity
  restoring : e.phase = .restoring → 16 * recordGranule e.buffer + 16 ≤ words

/-- A device state in which a configuration is active (R114). -/
abbrev DeviceState.runs (d : DeviceState) : Prop := d.headless = false ∧ d.stopped = false

/-- The configurations and the geometry that stand are those of the memory's size, and nothing that a requester may ask for lies beyond
it. -/
structure State.provided (s : State) : Prop where
  strap : ∀ m ∈ s.dec.memorySize, m ∈ strapSizes
  active : ∀ c ∈ s.header.active, c.valid s.size = true
  pending : ∀ c ∈ s.header.pendingConfig, c.valid s.size = true
  geometry : s.dec.geometry = s.header.active.map fun c => geometryOf s.size c.capacity.toNat
  regions : s.dec.table = s.header.active.map Configuration.regions
  granted : ∀ w ∈ s.header.writeRequest, w.granted = true → w.kind.isClearing = false → ∃ h ∈ w.content, h.config.valid s.size = true
  asked : ∀ w ∈ s.header.writeRequest, w.granted = false → s.ctl.state.stopped = true ∨ s.dec.memorySize.isSome
    ∧ (w.kind.isClearing = true ∨ w.kind.isFormatWrite = true ∧ s.ctl.state = .formatting
        ∨ w.kind.isFormatWrite = false ∧ s.header.active.isSome)
  reads : ∀ r ∈ s.header.readRequest, r.granted = false → s.ctl.state.stopped = true ∨ s.dec.memorySize.isSome
  formatting : s.ctl.state = .formatting → s.link.staged.valid s.size = true
  starting : s.ctl.state = .starting → judgementOf s.header.surveyA = .valid → ∃ h ∈ s.header.readA, h.config.valid s.size = true
  headed : s.ctl.state.runs → s.header.active.isSome ∧ s.dec.memorySize.isSome
  host : s.host.within s.words
  queue : ∀ e ∈ s.queue.entries, e.word < s.words
  table : ∀ e ∈ s.table.entries, 16 * e.granule + 16 ≤ s.words
  capture : s.capture.within s.words s.logCapacity
  engine : s.engine.within s.words s.logCapacity
  fits : s.logFits
  op : ∀ o ∈ s.port.op, o.inside s.size = true

section Provided

variable {s t u : State} {o : MemOp}

/-! ### The memory's size and the log's -/

/-- The strap's sizes are whole granules (R1). -/
theorem strap_granules {m : Nat} (h : m ∈ strapSizes) : m % 64 = 0 ∧ 1048576 ≤ m := by
  simp only [strapSizes, List.mem_cons, List.not_mem_nil, or_false] at h
  omega

theorem size_granules (h : ∀ m ∈ s.dec.memorySize, m ∈ strapSizes) : s.size % 64 = 0 ∧ (s.dec.memorySize.isSome → 1048576 ≤ s.size) := by
  unfold State.size
  cases size : s.dec.memorySize with
  | none => simp
  | some m =>
    obtain ⟨granules, large⟩ := strap_granules (h m size)
    exact ⟨granules, fun _ => large⟩

/-- A word of the memory lies in a granule of it (R3). -/
theorem granule_within (h : ∀ m ∈ s.dec.memorySize, m ∈ strapSizes) {word : Nat} (below : word < s.words) :
    16 * (word / 16) + 16 ≤ s.words := by
  obtain ⟨granules, -⟩ := size_granules h
  unfold State.words at *
  omega

/-- The log's capacity is the active configuration's (R7). -/
theorem logCapacity_eq (geometry : s.dec.geometry = s.header.active.map fun c => geometryOf s.size c.capacity.toNat) :
    s.logCapacity = s.capacity := by
  unfold State.logCapacity State.capacity
  rw [geometry]
  cases s.header.active <;> rfl

theorem logCapacity_active (geometry : s.dec.geometry = s.header.active.map fun c => geometryOf s.size c.capacity.toNat)
    {c : Configuration} (active : s.header.active = some c) : s.logCapacity = c.capacity.toNat := by
  rw [logCapacity_eq geometry, State.capacity, active]

/-- A valid configuration's log lies below the header slots (R5, R10). -/
theorem valid_room {c : Configuration} {size : Nat} (valid : c.valid size = true) :
    512 + 80 * c.capacity.toNat + 65536 ≤ size ∧ 16 ≤ c.capacity.toNat := by
  unfold Configuration.valid at valid
  simp only [Bool.and_eq_true, decide_eq_true_eq] at valid
  obtain ⟨⟨⟨⟨⟨capacity, room⟩, -⟩, -⟩, -⟩, -⟩ := valid
  exact ⟨room, capacity⟩

/-- A log slot's words lie below the memory's end (R5). -/
theorem logWord_within (h : s.provided) {i : Nat} (below : i < s.logCapacity) : s.logWord i + 20 ≤ s.words := by
  cases active : s.header.active with
  | none =>
    rw [logCapacity_eq h.geometry, State.capacity, active] at below
    cases below
  | some c =>
    rw [logCapacity_active h.geometry active] at below
    obtain ⟨room, -⟩ := valid_room (h.active c active)
    obtain ⟨granules, -⟩ := size_granules h.strap
    have word : s.logWord i = (s.size - 512 - 80 * c.capacity.toNat + 80 * i) / 4 := by
      unfold State.logWord
      rw [h.geometry, active]
      rfl
    rw [word]
    unfold State.words
    omega

/-- A granule below the granule floor lies below the memory's end (R7). -/
theorem floor_within (h : s.provided) {g : Nat} (below : g < s.granuleFloor / 64) : 16 * g + 16 ≤ s.words := by
  unfold State.granuleFloor at below
  rw [h.geometry] at below
  cases active : s.header.active with
  | none => rw [active] at below; simp at below
  | some c =>
    rw [active] at below
    simp only [Option.map_some, geometryOf, usableLimit] at below
    unfold State.words
    omega

/-- An address that decodes to a class of the host's lies below the memory's end (R12). -/
theorem decode_within (h : s.provided) {word : Nat} (inside : (s.dec.decode (4 * word)).1 ≠ .outside) : word < s.words := by
  unfold RegionDecoder.decode at inside
  cases active : s.header.active with
  | none =>
    rw [h.geometry, h.regions, active] at inside
    exact absurd rfl inside
  | some c =>
    rw [h.geometry, h.regions, active] at inside
    dsimp only [Option.map_some] at inside
    split at inside
    · exact absurd rfl inside
    · next below =>
      have size : (geometryOf s.size c.capacity.toNat).memorySize = s.size := rfl
      obtain ⟨granules, -⟩ := size_granules h.strap
      unfold State.words
      omega

/-! ### Changes of one block -/

theorem State.provided.congr (h : s.provided) (dec : t.dec = s.dec) (header : t.header = s.header) (state : t.ctl.state = s.ctl.state)
    (staged : t.link.staged = s.link.staged) (host : t.host = s.host) (queue : t.queue.entries = s.queue.entries)
    (table : t.table.entries = s.table.entries) (reservations : t.table.reservations = s.table.reservations)
    (capture : t.capture = s.capture) (engine : t.engine = s.engine) (op : t.port.op = s.port.op) : t.provided := by
  have size : t.size = s.size := by unfold State.size; rw [dec]
  have words : t.words = s.words := by unfold State.words; rw [size]
  have capacity : t.logCapacity = s.logCapacity := by unfold State.logCapacity; rw [dec]
  constructor
  · rw [dec]; exact h.strap
  · rw [header, size]; exact h.active
  · rw [header, size]; exact h.pending
  · rw [dec, header, size]; exact h.geometry
  · rw [dec, header]; exact h.regions
  · rw [header, size]; exact h.granted
  · rw [header, state, dec]; exact h.asked
  · rw [header, state, dec]; exact h.reads
  · rw [state, staged, size]; exact h.formatting
  · rw [state, header, size]; exact h.starting
  · rw [state, header, dec]; exact h.headed
  · rw [host, words]; exact h.host
  · rw [queue, words]; exact h.queue
  · rw [table, words]; exact h.table
  · rw [capture, words, capacity]; exact h.capture
  · rw [engine, words, capacity]; exact h.engine
  · unfold State.logFits; rw [header, capture, reservations]; exact h.fits
  · rw [op, size]; exact h.op

theorem provided_frame (h : s.provided) (dec : t.dec = s.dec) (header : t.header = s.header) (ctl : t.ctl = s.ctl) (link : t.link = s.link)
    (host : t.host = s.host) (queue : t.queue = s.queue) (table : t.table = s.table) (capture : t.capture = s.capture)
    (engine : t.engine = s.engine) (port : t.port = s.port) : t.provided :=
  h.congr dec header (by rw [ctl]) (by rw [link]) host (by rw [queue]) (by rw [table]) (by rw [table]) capture engine (by rw [port])

theorem provided_raise (h : s.provided) (k : EventKind) (e : BitVec 48) (d : BitVec 32) : (s.raise k e d).provided :=
  provided_frame h (by simp) (by simp) (by simp) (by simp) (by simp) (by simp) (by simp) (by simp) (by simp) (by simp)

theorem provided_watermarkTest (h : s.provided) : s.watermarkTest.provided :=
  provided_frame h (by simp) (by simp) (by simp) (by simp) (by simp) (by simp) (by simp) (by simp) (by simp) (by simp)

theorem provided_setPins (h : s.provided) (x : Pins) : (s.setPins x).provided := h.congr rfl rfl rfl rfl rfl rfl rfl rfl rfl rfl rfl

theorem provided_setAlarms (h : s.provided) (x : Alarms) : (s.setAlarms x).provided := h.congr rfl rfl rfl rfl rfl rfl rfl rfl rfl rfl rfl

theorem provided_setEvents (h : s.provided) (x : EventQueue) : (s.setEvents x).provided := h.congr rfl rfl rfl rfl rfl rfl rfl rfl rfl rfl rfl

theorem provided_setLink (h : s.provided) {x : ManagementLink} (staged : x.staged = s.link.staged) : (s.setLink x).provided :=
  h.congr rfl rfl rfl staged rfl rfl rfl rfl rfl rfl rfl

theorem provided_setCtl (h : s.provided) {x : EpochController} (state : x.state = s.ctl.state) : (s.setCtl x).provided :=
  h.congr rfl rfl state rfl rfl rfl rfl rfl rfl rfl rfl

theorem provided_setPort (h : s.provided) {x : MemoryPort} (op : ∀ o ∈ x.op, o.inside s.size = true) : (s.setPort x).provided :=
  { h with op := op }

theorem provided_setHost (h : s.provided) {x : HostPort} (host : x.within s.words) : (s.setHost x).provided := { h with host := host }

theorem provided_setQueue (h : s.provided) {x : PostingQueue} (queue : ∀ e ∈ x.entries, e.word < s.words) : (s.setQueue x).provided :=
  { h with queue := queue }

theorem provided_setEngine (h : s.provided) {x : RollbackEngine} (engine : x.within s.words s.logCapacity) : (s.setEngine x).provided :=
  { h with engine := engine }

theorem provided_setCapture (h : s.provided) {x : CaptureUnit} (capture : x.within s.words s.logCapacity) (tail : x.tail ≤ s.capture.tail) :
    (s.setCapture x).provided :=
  { h with
    capture := capture
    fits := fun c active => Nat.le_trans (Nat.add_le_add_right tail s.table.reservations) (h.fits c active) }

theorem provided_setTable (h : s.provided) {x : GranuleTable} (table : ∀ e ∈ x.entries, 16 * e.granule + 16 ≤ s.words)
    (fits : ∀ c ∈ s.header.active, s.capture.tail + x.reservations ≤ c.capacity.toNat) : (s.setTable x).provided :=
  { h with table := table, fits := fits }

/-- From one state with a configuration active to another (R114). -/
theorem provided_moves (h : s.provided) {x : EpochController} (leaves : s.ctl.state.runs) (enters : x.state.runs) : (s.setCtl x).provided := by
  obtain ⟨head, going⟩ := enters
  refine { h with asked := ?_, reads := ?_, formatting := ?_, starting := ?_, headed := fun _ => h.headed leaves }
  · intro w hw ungranted
    rcases h.asked w hw ungranted with stopped | ⟨size, clearing | ⟨-, formatting⟩ | active⟩
    · rw [leaves.2] at stopped; cases stopped
    · exact .inr ⟨size, .inl clearing⟩
    · have headed := leaves.1
      rw [formatting] at headed
      cases headed
    · exact .inr ⟨size, .inr (.inr active)⟩
  · intro r hr ungranted
    rcases h.reads r hr ungranted with stopped | size
    · rw [leaves.2] at stopped; cases stopped
    · exact .inr size
  · intro formatting
    rw [show x.state = _ from formatting] at head
    cases head
  · intro starting
    rw [show x.state = _ from starting] at head
    cases head

/-- A header write requested (R111, R112). -/
theorem provided_requestWrite (h : s.provided) {kind : WriteKind} (target : Slot) (size : s.dec.memorySize.isSome)
    (config : kind.isClearing = true ∨ kind.isFormatWrite = true ∧ s.ctl.state = .formatting
      ∨ kind.isFormatWrite = false ∧ s.header.active.isSome) :
    (s.requestWrite kind target).provided := by
  refine { h with granted := ?_, asked := ?_ }
  · rintro w ⟨⟩ granted
    cases granted
  · rintro w ⟨⟩ _
    exact .inr ⟨size, config⟩

/-! ### The grant -/

/-- The words of a burst follow one another (R66). -/
theorem burstTail_words (head : QueueEntry) (last room : Nat) (es : List QueueEntry) : ∀ burst, burstTail head last room es = burst →
    burst = [] ∨ ∃ e ∈ es, e.word = last + burst.length := by
  induction room generalizing last es with
  | zero =>
    rintro _ rfl
    cases es <;> exact .inl rfl
  | succ room ih =>
    rintro _ rfl
    cases es with
    | nil => exact .inl rfl
    | cons e rest =>
      unfold burstTail
      split
      · next follows =>
        obtain ⟨next, -⟩ := follows
        refine .inr ?_
        rcases ih e.word rest _ rfl with none | ⟨f, hf, word⟩
        · rw [none]
          exact ⟨e, List.mem_cons_self, next⟩
        · refine ⟨f, List.mem_cons_of_mem _ hf, ?_⟩
          rw [List.length_cons, word, next]
          omega
      · exact .inl rfl

/-- What a requester has standing lies within the memory (R2). -/
theorem standing_inside (h : s.provided) (going : s.ctl.state.stopped = false) {r : Requester} (standing : s.standing r = some o) :
    o.inside s.size = true := by
  have room : o.start + o.length ≤ s.words → o.inside s.size = true := fun below => decide_eq_true below
  obtain ⟨granules, large⟩ := size_granules h.strap
  have slots : s.dec.memorySize.isSome → ∀ slot, slotWord s.size slot + 64 ≤ s.words := by
    intro size slot
    have := large size
    unfold State.words
    cases slot <;> unfold slotWord <;> dsimp only <;> omega
  unfold State.standing at standing
  cases r with
  | header =>
    dsimp only at standing
    split at standing
    · next w request =>
      split at standing
      · cases standing
      · next ungranted =>
        cases standing
        rcases h.asked w request (by simpa using ungranted) with stopped | ⟨size, -⟩
        · rw [going] at stopped; cases stopped
        · exact room (slots size w.target)
    · split at standing
      · next r request =>
        split at standing
        · cases standing
        · next ungranted =>
          cases standing
          rcases h.reads r request (by simpa using ungranted) with stopped | size
          · rw [going] at stopped; cases stopped
          · exact room (slots size r.slot)
      · cases standing
  | engine =>
    dsimp only at standing
    split at standing
    · cases standing
    · split at standing
      · cases standing
      · next phase => cases standing; exact room (logWord_within h (h.engine.slot (by rw [phase]; decide)))
      · next phase => cases standing; exact room (h.engine.restoring phase)
  | capture =>
    dsimp only at standing
    split at standing
    · cases standing
    · split at standing
      · cases standing
      · next phase =>
        cases standing
        obtain ⟨g, granule⟩ := Option.isSome_iff_exists.1 (h.capture.reading phase)
        refine room ?_
        rw [granule]
        exact h.capture.granule g granule
      · next phase =>
        cases standing
        obtain ⟨i, slot, below⟩ := h.capture.slot phase
        have slot : s.capture.slot = some i := slot
        refine room (logWord_within h ?_)
        rw [slot]
        exact below
  | hostRead =>
    dsimp only at standing
    split at standing
    · next r read =>
      split at standing
      · cases standing
      · cases standing
        exact room (h.host.read r read)
    · cases standing
  | drain =>
    dsimp only at standing
    split at standing
    · next stands =>
      cases standing
      refine room ?_
      cases entries : s.queue.entries with
      | nil =>
        unfold State.drainStands at stands
        rw [entries] at stands
        simp at stands
      | cons e rest =>
        have first := h.queue e (by rw [entries]; exact List.mem_cons_self)
        simp only [drainBurst, List.head?_cons, Option.map_some, Option.getD_some, List.length_cons]
        rcases burstTail_words e e.word (Config.burstLimit - 1) rest _ rfl with none | ⟨f, hf, word⟩
        · rw [none]
          exact first
        · have last := h.queue f (by rw [entries]; exact List.mem_cons_of_mem _ hf)
          omega
    · cases standing

/-- The configuration that a header write takes is valid (R10, R112). -/
theorem headerContent_valid (h : s.provided) (going : s.ctl.state.stopped = false) {w : WriteRequest} (request : s.header.writeRequest = some w)
    (ungranted : w.granted = false) (content : w.kind.isClearing = false) : ∃ h ∈ s.headerContent w.kind, h.config.valid s.size = true := by
  have asked : w.kind.isFormatWrite = true ∧ s.ctl.state = .formatting
      ∨ w.kind.isFormatWrite = false ∧ ∃ c, s.header.active = some c := by
    rcases h.asked w request ungranted with stopped | ⟨-, clearing | format | active⟩
    · rw [going] at stopped; cases stopped
    · rw [content] at clearing; cases clearing
    · exact .inl format
    · exact .inr (active.imp id Option.isSome_iff_exists.1)
  cases kind : w.kind with
  | clearing n => rw [kind] at content; cases content
  | formatWrite n =>
    rw [kind] at asked
    rcases asked with ⟨-, formatting⟩ | ⟨other, -⟩
    · exact ⟨_, rfl, h.formatting formatting⟩
    · cases other
  | commitSeal =>
    rw [kind] at asked
    rcases asked with ⟨format, -⟩ | ⟨-, c, active⟩
    · cases format
    · refine ⟨_, rfl, ?_⟩
      dsimp only
      cases pending : s.header.pendingConfig with
      | none => rw [active]; exact h.active c active
      | some p => exact h.pending p pending
  | recoverySeal | mark =>
    rw [kind] at asked
    rcases asked with ⟨format, -⟩ | ⟨-, c, active⟩
    · cases format
    · refine ⟨_, rfl, ?_⟩
      dsimp only
      rw [active]
      exact h.active c active

/-- A grant (R159). -/
theorem provided_arbitrate (h : s.provided) : s.arbitrate.provided := by
  by_cases closed : s.port.op.isSome ∨ s.ctl.state = .parking ∨ s.ctl.state = .parked
  · rw [State.arbitrate, if_pos closed]
    exact h
  simp only [not_or, Option.not_isSome_iff_eq_none] at closed
  obtain ⟨idle, parking, parked⟩ := closed
  have going : s.ctl.state.stopped = false := by
    revert parking parked
    cases s.ctl.state <;> decide
  rcases arbitrate_grants idle parking parked with ⟨same, -⟩ | ⟨r, o, -, standing, granted⟩
  · rw [same]
    exact h
  rw [granted]
  have inside := standing_inside h going standing
  have op : ∀ o' ∈ (some o : Option MemOp), o'.inside s.size = true := by
    rintro _ ⟨⟩
    exact inside
  cases r with
  | header =>
    unfold State.grant State.tellGranted
    dsimp only
    split
    · next w request =>
      unfold State.standing at standing
      dsimp only at standing
      rw [request] at standing
      dsimp only at standing
      split at standing
      · cases standing
      · next ungranted =>
        refine { h with op := op, granted := ?_, asked := ?_ }
        · rintro _ ⟨⟩ _ content
          exact headerContent_valid h going request (by simpa using ungranted) content
        · rintro _ ⟨⟩ ungranted
          cases ungranted
    · split
      · refine { h with op := op, reads := ?_ }
        rintro _ ⟨⟩ ungranted
        cases ungranted
      · exact { h with op := op }
  | engine => exact { h with op := op, engine := ⟨h.engine.slot, h.engine.restoring⟩ }
  | capture => exact { h with op := op, capture := ⟨h.capture.granule, h.capture.reading, h.capture.slot⟩ }
  | hostRead =>
    unfold State.grant State.tellGranted
    dsimp only
    split
    · next r read =>
      refine { h with op := op, host := ⟨h.host.cycle, h.host.portion, ?_⟩ }
      rintro _ ⟨⟩
      exact h.host.read r read
    · exact { h with op := op }
  | drain =>
    refine { h with op := op, queue := fun e he => ?_ }
    rcases List.mem_append.1 he with taken | left
    · obtain ⟨f, hf, rfl⟩ := List.mem_map.1 taken
      exact h.queue f (List.mem_of_mem_take hf)
    · exact h.queue e (List.mem_of_mem_drop left)

end Provided

end Sys2Proof.Machine
end

section
/-! Every block's changes keep what is addressed within the memory (R2, R5, R7, R42). -/

namespace Sys2Proof.Machine

section Blocks

variable {s t u : State} {o : MemOp} {c : Cycle} {p : Portion} {b : Beat}

/-! ### The host port -/

theorem leftRead_within {h : HostPort} {words : Nat} (within : h.within words) : ∀ r ∈ h.leftRead, r.start + r.length ≤ words := by
  unfold HostPort.leftRead
  split
  · next r read =>
    split
    · rintro _ ⟨⟩
      exact within.read r read
    · rintro _ ⟨⟩
  · rintro _ ⟨⟩

theorem provided_endCycle (h : s.provided) : s.endCycle.provided :=
  provided_setHost h ⟨fun _ none => (by cases none), fun _ none => (by cases none), leftRead_within h.host⟩

theorem provided_closeBeat (h : s.provided) (r : HostResponse) (d : LaneData) : (s.closeBeat r d).provided :=
  have ended := provided_endCycle h
  provided_setHost ended ⟨ended.host.cycle, ended.host.portion, ended.host.read⟩

theorem provided_truncate (h : s.provided) : s.truncate.provided := by
  unfold State.truncate
  split
  · exact provided_endCycle h
  · exact h

theorem provided_finishBeat (h : s.provided) (d : LaneData) : (s.finishBeat d).provided := by
  unfold State.finishBeat
  split
  · exact h
  · next c cycle =>
    split
    · exact provided_closeBeat h _ _
    · split
      · exact provided_closeBeat h _ _
      · next inner =>
        refine provided_setHost h ⟨?_, h.host.portion, h.host.read⟩
        rintro _ ⟨⟩
        have below := h.host.cycle c cycle
        dsimp only
        omega

theorem provided_holdBeat (h : s.provided) (b : Beat) (r : WaitReason) : (s.holdBeat b r).provided :=
  provided_setHost h ⟨h.host.cycle, h.host.portion, h.host.read⟩

theorem provided_beginCycle (h : s.provided) (cycle : 16 * (c.word / 16) + 16 ≤ s.words) (portion : 16 * p.granule + 16 ≤ s.words) :
    (s.beginCycle c p).provided := by
  refine provided_setHost h ⟨?_, ?_, h.host.read⟩
  · rintro _ ⟨⟩; exact cycle
  · rintro _ ⟨⟩; exact portion

theorem provided_leaveOpen (h : s.provided) : s.leaveOpen.provided := by
  unfold State.leaveOpen
  split
  · next c cycle =>
    split
    · split
      · exact provided_closeBeat h _ _
      · refine provided_setHost h ⟨?_, h.host.portion, h.host.read⟩
        rintro _ ⟨⟩
        exact h.host.cycle c cycle
    · exact h
  · exact h

theorem freeRun_le (q : PostingQueue) (word room : Nat) : q.freeRun word room ≤ room := by
  induction room generalizing word with
  | zero => exact Nat.le_refl _
  | succ room ih =>
    unfold PostingQueue.freeRun
    split
    · have := ih (word + 1)
      omega
    · omega

/-- A host read goes to the end of its granule at most (R141, R148). -/
theorem provided_requestRead (h : s.provided) (cycle : 16 * (c.word / 16) + 16 ≤ s.words) (b : Beat) : (s.requestRead c b).provided := by
  unfold State.requestRead
  split
  · exact provided_holdBeat h _ _
  · refine provided_setHost (provided_holdBeat h _ _) ⟨h.host.cycle, h.host.portion, ?_⟩
    rintro _ ⟨⟩
    have run := freeRun_le s.queue (c.word + 1) (c.wordsLeft - 1)
    have left : c.wordsLeft ≤ 16 - c.word % 16 := Nat.min_le_right _ _
    show c.word + (1 + s.queue.freeRun (c.word + 1) (c.wordsLeft - 1)) ≤ s.words
    omega

theorem provided_answerWord (h : s.provided) (word : Nat) (lanes : Lanes) (data : MWord) (merr : Bool) :
    (s.answerWord word lanes data merr).provided := by
  unfold State.answerWord
  split
  · exact provided_closeBeat (provided_raise h _ _ _) _ _
  · exact provided_finishBeat h _

theorem provided_serveRead (h : s.provided) (cycle : 16 * (c.word / 16) + 16 ≤ s.words) (b : Beat) : (s.serveRead c b).provided := by
  unfold State.serveRead
  split
  · exact provided_finishBeat h _
  · split
    · exact provided_holdBeat h _ _
    · exact provided_answerWord h _ _ _ _
    · split
      · exact provided_requestRead h cycle b
      · split
        · exact provided_finishBeat h _
        · exact provided_holdBeat h _ _

theorem provided_releaseRead (h : s.provided) : s.releaseRead.provided := by
  unfold State.releaseRead
  split
  · next c b cycle _ =>
    split
    · exact provided_requestRead h (h.host.cycle c cycle) b
    · exact h
  · exact h

theorem provided_requestWaiting (h : s.provided) : s.requestWaiting.provided := by
  unfold State.requestWaiting
  split
  · next c b cycle _ =>
    split
    · exact provided_requestRead h (h.host.cycle c cycle) b
    · exact h
  · exact h

theorem provided_takeWord (h : s.provided) (underway : s.port.op = some o) (merr : Option MWord) : (s.takeWord o merr).provided := by
  have moved : (s.setPort { s.port with op := some { o with beat := o.beat + 1 }, address := BitVec.ofNat 24 (o.start + o.beat) }).provided := by
    refine provided_setPort h ?_
    rintro _ ⟨⟩
    exact h.op o underway
  unfold State.takeWord
  dsimp only
  generalize s.setPort { s.port with op := some { o with beat := o.beat + 1 }, address := BitVec.ofNat 24 (o.start + o.beat) } = x at moved ⊢
  have placed : ∀ word data bad, (x.placeWord word data bad).provided := by
    intro word data bad
    unfold State.placeWord
    split
    · split
      · exact moved
      · exact provided_setHost moved ⟨moved.host.cycle, moved.host.portion, moved.host.read⟩
    · exact moved
  unfold State.answerArrived
  split
  · split
    · exact provided_answerWord (placed _ _ _) _ _ _ _
    · exact placed _ _ _
  · exact placed _ _ _

/-! ### The table and the captures -/

theorem provided_mapGates (h : s.provided) (f : Gate → Gate) : (s.mapGates f).provided := by
  have turned : (s.setQueue { s.queue with entries := s.queue.entries.map (fun e => { e with gate := f e.gate }) }).provided := by
    refine provided_setQueue h fun e he => ?_
    obtain ⟨g, hg, rfl⟩ := List.mem_map.1 he
    exact h.queue g hg
  exact provided_setHost turned ⟨h.host.cycle, h.host.portion, h.host.read⟩

theorem provided_waitForMark (h : s.provided) (gs : List Nat) : (s.waitForMark gs).provided := by
  unfold State.waitForMark
  split
  · exact provided_mapGates h _
  · exact h

theorem provided_drop (h : s.provided) (gone : TableEntry → Bool) : (s.setTable (s.table.drop gone)).provided :=
  provided_setTable h (fun e he => h.table e (List.mem_of_mem_filter he)) fun c active =>
    Nat.le_trans (Nat.add_le_add_left (Nat.sub_le _ _) _) (h.fits c active)

theorem provided_dropEntries (h : s.provided) (gone : TableEntry → Bool) : (s.dropEntries gone).provided :=
  provided_watermarkTest (provided_drop h gone)

theorem within_idle {c : CaptureUnit} {words capacity : Nat} (phase : c.phase = .idle) (granule : c.granule = none) :
    c.within words capacity := by
  refine ⟨?_, ?_, ?_⟩
  · rw [granule]; exact fun _ none => by cases none
  · rw [phase]; exact fun reading => by cases reading
  · rw [phase]; exact fun writing => by cases writing

theorem provided_releaseInFlight (h : s.provided) : s.releaseInFlight.provided :=
  provided_dropEntries (provided_setCapture (x := s.capture.toIdle) h (within_idle rfl rfl) (Nat.le_refl _)) _

theorem provided_endStopped (h : s.provided) : s.endStopped.provided := provided_waitForMark (provided_releaseInFlight h) _

theorem provided_stopCapture (h : s.provided) : s.stopCapture.provided := by
  unfold State.stopCapture
  split
  · split
    · exact provided_setCapture h ⟨h.capture.granule, h.capture.reading, h.capture.slot⟩ (Nat.le_refl _)
    · exact provided_endStopped h
  · exact h
  · exact h

theorem provided_cancelWaiting (h : s.provided) : s.cancelWaiting.provided := provided_waitForMark (provided_dropEntries h _) _

/-- The mark is requested with a configuration active (R51, R52). -/
theorem provided_enterBreaking (h : s.provided) (runs : s.ctl.state.runs) : s.enterBreaking.provided := by
  unfold State.enterBreaking
  split
  · obtain ⟨x, hx⟩ : ∃ x, s.setTable { s.table with status := some .breaking } = x := ⟨_, rfl⟩
    have broken : x.provided := by rw [← hx]; exact provided_setTable h h.table h.fits
    have ends := (capturesEnd_stopCapture x).trans (capturesEnd_cancelWaiting _)
    obtain ⟨active, size⟩ := h.headed runs
    rw [hx]
    refine provided_requestWrite (provided_cancelWaiting (provided_stopCapture broken)) _ ?_ (.inr (.inr ⟨rfl, ?_⟩))
    · rw [ends.dec, ← hx]; exact size
    · rw [ends.header, ← hx]; exact active
  · exact h

theorem provided_takeCapture (h : s.provided) : s.takeCapture.provided := by
  unfold State.takeCapture
  split
  · split
    · next e oldest =>
      refine provided_setCapture h ⟨?_, fun _ => rfl, fun writing => (by cases writing)⟩ (Nat.le_refl _)
      rintro _ ⟨⟩
      exact h.table e (List.mem_of_find?_eq_some oldest)
    · exact h
  · exact h

/-! ### Offers -/

theorem provided_post (h : s.provided) {word : Nat} (below : word < s.words) (b : Beat) (cls : DecodeClass) (gate : Gate) :
    (s.post word b cls gate).provided := by
  unfold State.post
  split
  · exact h
  · refine provided_setQueue h ?_
    unfold PostingQueue.enqueue
    split
    · intro e he
      have merged : ∀ es : List QueueEntry, (mergeNewest b.data es).map QueueEntry.word = es.map QueueEntry.word := by
        intro es
        rcases List.eq_nil_or_concat es with rfl | ⟨front, last, rfl⟩
        · rfl
        · rw [List.concat_eq_append, mergeNewest_append]
          simp
      have word := List.mem_map_of_mem (f := QueueEntry.word) he
      rw [merged] at word
      obtain ⟨f, hf, same⟩ := List.mem_map.1 word
      rw [← same]
      exact h.queue f hf
    · intro e he
      rcases List.mem_append.1 he with old | new
      · exact h.queue e old
      · rw [List.mem_singleton.1 new]
        exact below

theorem provided_noteExhausted (h : s.provided) (g : Nat) : (s.noteExhausted g).provided := by
  have alarmed := provided_setAlarms h { s.alarms with exhausted := true }
  unfold State.noteExhausted
  dsimp only
  split
  · exact alarmed
  · have raised := provided_raise alarmed .logExhausted
      (s.setAlarms { s.alarms with exhausted := true }).epochNumber (BitVec.ofNat 32 g)
    exact raised.congr rfl rfl rfl rfl rfl rfl (by simp) (by simp) rfl rfl rfl

/-- A capture starts only with a slot free (R42, R45). -/
theorem free_of_newCapture {g : Nat} {gate : Gate} (admission : s.admission g = .take gate .newCapture) : 1 ≤ s.freeSlots := by
  have intact : ∀ same : s.admissionIntact g = .take gate .newCapture, 1 ≤ s.freeSlots := by
    intro same
    unfold State.admissionIntact at same
    split at same
    · split at same <;> cases same
    · split at same
      · assumption
      · split at same <;> cases same
  unfold State.admission at admission
  split at admission
  · cases admission
  · cases admission
  · exact intact admission
  · exact intact admission

/-- A granule enrolled (R41, R42, R45). -/
theorem provided_enrol (h : s.provided) {g : Nat} (granule : 16 * g + 16 ≤ s.words) (free : 1 ≤ s.freeSlots) :
    (s.setTable (s.table.enrol g)).provided := by
  refine provided_setTable h (fun e he => ?_) fun c active => ?_
  · rcases List.mem_append.1 he with old | new
    · split at old
      · exact h.table e ((evictOldest_sublist _).mem old)
      · exact h.table e old
    · rw [List.mem_singleton.1 new]
      exact granule
  · have capacity : s.capacity = c.capacity.toNat := by unfold State.capacity; rw [show s.header.active = some c from active]
    unfold State.freeSlots at free
    show s.capture.tail + (s.table.reservations + 1) ≤ c.capacity.toNat
    omega

theorem provided_admitBeat (h : s.provided) (runs : s.ctl.state.runs) (cycle : c.word < s.words) (portion : 16 * p.granule + 16 ≤ s.words)
    (b : Beat) : (s.admitBeat c p b).provided := by
  unfold State.admitBeat
  split
  · exact provided_closeBeat (provided_noteExhausted h _) _ _
  · exact provided_holdBeat h _ _
  · next gate effect admission =>
    split
    · have posted := provided_post h cycle b p.cls gate
      obtain ⟨x, hx⟩ : ∃ x, (s.post c.word b p.cls gate).setHost { (s.post c.word b p.cls gate).host with gate := some gate } = x :=
        ⟨_, rfl⟩
      have gated : x.provided := by
        rw [← hx]
        exact provided_setHost posted ⟨posted.host.cycle, posted.host.portion, posted.host.read⟩
      have same : x.words = s.words ∧ x.freeSlots = s.freeSlots ∧ x.ctl = s.ctl := by
        rw [← hx]
        unfold State.post
        split <;> exact ⟨rfl, rfl, rfl⟩
      obtain ⟨words, free, ctl⟩ := same
      dsimp only
      rw [hx]
      refine provided_finishBeat ?_ _
      cases effect with
      | nothing => exact gated
      | newCapture =>
        exact provided_watermarkTest (provided_enrol gated (by rw [words]; exact portion) (by rw [free]; exact free_of_newCapture admission))
      | breakEpoch =>
        refine provided_enterBreaking (provided_noteExhausted gated _) ?_
        rw [noteExhausted_eq, (exhaustedBy_keeps x p.granule).2.2.2.2.2.1, ctl]
        exact runs
    · exact provided_holdBeat h _ _

theorem provided_offerWrite (h : s.provided) (runs : s.ctl.state.runs) (cycle : 16 * (c.word / 16) + 16 ≤ s.words)
    (portion : 16 * p.granule + 16 ≤ s.words) (b : Beat) : (s.offerWrite c p b).provided := by
  have below : c.word < s.words := by omega
  unfold State.offerWrite
  split
  · exact provided_admitBeat h runs below portion b
  · split
    · exact provided_finishBeat (provided_post h below b _ _) _
    · exact provided_holdBeat h _ _

theorem provided_reoffer (before : State) (h : u.provided) : (State.reoffer before u).provided := by
  unfold State.reoffer
  split
  · next c p b cycle portion _ =>
    split
    · next due =>
      obtain ⟨opened, -⟩ := due
      exact provided_offerWrite h (by rw [opened]; exact ⟨rfl, rfl⟩) (h.host.cycle c cycle) (h.host.portion p portion) b
    · exact h
  · exact h

/-- A cycle that decodes below the memory's end (R12, R141). -/
theorem provided_begins (h : s.provided) {word : Nat} (inside : (s.dec.decode (4 * word)).1 ≠ .outside) :
    16 * (word / 16) + 16 ≤ s.words :=
  granule_within h.strap (decode_within h inside)

theorem provided_decodeWrite (h : s.provided) (runs : s.ctl.state.runs) (word length : Nat) (lanes : Lanes) (data : MWord) :
    (s.decodeWrite word length lanes data).provided := by
  unfold State.decodeWrite
  dsimp only
  split
  · next taken =>
    have granule := provided_begins h (word := word) (by rcases taken with is | is <;> rw [is] <;> decide)
    exact provided_offerWrite (provided_beginCycle h granule granule) runs granule granule _
  · exact provided_closeBeat (provided_raise h _ _ _) _ _

theorem provided_decodeRead (h : s.provided) (word length : Nat) (lanes : Lanes) : (s.decodeRead word length lanes).provided := by
  unfold State.decodeRead
  dsimp only
  split
  · exact provided_closeBeat h _ _
  · next taken =>
    split
    · exact provided_closeBeat h _ _
    · have granule := provided_begins h (word := word) fun outside => taken (.inr outside)
      exact provided_serveRead (provided_beginCycle h granule granule) granule _

/-! ### The epoch control port -/

theorem provided_driveAnswer (h : s.provided) (op : Operation) (r : EpochResult) : (s.driveAnswer op r).provided := provided_setCtl h rfl

theorem provided_recordResult (h : s.provided) (a : Answer) : (s.recordResult a).provided := provided_setCtl (provided_raise h _ _ _) rfl

theorem provided_keepEntries (h : s.provided) (keep : QueueEntry → Bool) : (s.keepEntries keep).provided :=
  provided_setPort (provided_setQueue h fun e he => h.queue e (List.mem_of_mem_filter he)) h.op

theorem provided_takeRequest (h : s.provided) (runs : s.ctl.state.runs) (op : Operation) : (s.takeRequest op).provided := by
  have refuses : ∀ op, (s.refuseAtLimit op).provided := fun op => provided_driveAnswer (provided_raise h _ _ _) _ _
  cases op with
  | illegal => exact provided_driveAnswer h _ _
  | commit =>
    dsimp only [State.takeRequest]
    split
    · exact refuses .commit
    · exact provided_leaveOpen (provided_moves (s := s.workOn .commit) (provided_setCtl h rfl) runs ⟨rfl, rfl⟩)
  | rollback =>
    dsimp only [State.takeRequest]
    split
    · exact refuses .rollback
    · split
      · have entered : ((s.workOn .rollback).setCtl { (s.workOn .rollback).ctl with state := .rollingBack }).provided :=
          provided_moves (provided_setCtl h rfl) runs ⟨rfl, rfl⟩
        have cleared := provided_leaveOpen (provided_cancelWaiting (provided_stopCapture (provided_keepEntries entered staysInRollback)))
        exact provided_setEngine cleared ⟨cleared.engine.slot, cleared.engine.restoring⟩
      · exact provided_driveAnswer h _ _
  | flush =>
    dsimp only [State.takeRequest, State.takeFlush]
    split
    · exact provided_setQueue (s := s.workOn .flush) (provided_setCtl h rfl) h.queue
    · exact provided_driveAnswer h _ _

theorem provided_takeRemembered (h : s.provided) : s.takeRemembered.provided := by
  unfold State.takeRemembered
  split
  · split
    · next due =>
      refine provided_takeRequest (s := s.setCtl { s.ctl with remembered := none }) (provided_setCtl h rfl) ?_ _
      show s.ctl.state.runs
      rw [due.1]
      exact ⟨rfl, rfl⟩
    · exact h
  · exact h

theorem provided_reachResult (h : s.provided) (r : EpochResult) : (s.reachResult r).provided := by
  unfold State.reachResult
  split
  · split
    · exact provided_takeRemembered (provided_recordResult h _)
    · exact provided_driveAnswer h _ _
  · exact h

theorem provided_risingEdge (h : s.provided) (op : Operation) : (s.risingEdge op).provided := by
  unfold State.risingEdge
  cases hs : s.ctl.state with
  | opened =>
    dsimp only
    split
    · exact provided_takeRequest h (by rw [hs]; exact ⟨rfl, rfl⟩) op
    · exact provided_setCtl h rfl
  | unformatted | fault => exact provided_driveAnswer h _ _
  | starting | recovering | formatting | draining | rollingBack | sealing => exact provided_setCtl h rfl
  | parking | parked => exact h

theorem provided_ereqLow (h : s.provided) : s.ereqLow.provided := by
  unfold State.ereqLow
  extract_lets _ _ _ low _ forgot _
  have toLow : low.provided := provided_setCtl (provided_setPins h _) rfl
  have toForgot : forgot.provided := by
    unfold forgot
    split
    · exact provided_setCtl (provided_raise toLow _ _ _) (by rw [(raise_keeps _ _ _ _).2.2.2.2.2.2.1])
    · exact toLow
  split
  · exact provided_setCtl (provided_recordResult toForgot _) rfl
  · split
    · exact provided_setCtl toForgot rfl
    · exact provided_setCtl toForgot rfl
    · exact toForgot

theorem provided_endStartUp (h : s.provided) : s.endStartUp.provided := by
  unfold State.endStartUp
  split
  · dsimp only
    split
    · exact provided_driveAnswer (provided_raise h _ _ _) _ _
    · exact provided_driveAnswer h _ _
  · split
    · exact provided_takeRemembered h
    · split
      · exact provided_driveAnswer (s := s.setCtl { s.ctl with remembered := none }) (provided_setCtl h rfl) _ _
      · exact h

theorem provided_flushTest (h : s.provided) : s.flushTest.provided := by
  unfold State.flushTest
  split
  · exact provided_reachResult (s := s.setQueue { s.queue with mark := none }) (provided_setQueue h h.queue) _
  · exact h

/-! ### The tests and the grant -/

theorem provided_requestSeal (h : s.provided) (runs : s.ctl.state.runs) : s.requestSeal.provided := by
  obtain ⟨active, size⟩ := h.headed runs
  exact provided_requestWrite (provided_moves h runs ⟨rfl, rfl⟩) _ size (.inr (.inr ⟨rfl, active⟩))

theorem provided_commitTest (h : s.provided) : s.commitTest.provided := by
  rcases commitTest_cases s with same | ⟨draining, -⟩
  · rw [same]; exact h
  · unfold State.commitTest
    split
    · exact provided_requestSeal h (by rw [draining]; exact ⟨rfl, rfl⟩)
    · exact h

theorem toIdle_within (e : RollbackEngine) (words capacity : Nat) : e.toIdle.within words capacity :=
  ⟨fun working => absurd rfl working, fun restoring => (by cases restoring)⟩

/-- A slot to read below the log's capacity (R5). -/
theorem provided_readSlot (h : s.provided) {i : Nat} (probing : Bool) (below : i + (if probing then 1 else 0) < s.logCapacity) :
    (s.readSlot i probing).provided :=
  provided_setEngine h ⟨fun _ => below, fun restoring => (by cases restoring)⟩

theorem provided_beginWalk (h : s.provided) (runs : s.ctl.state.runs) : s.beginWalk.provided := by
  have purposed : (s.setEngine { s.engine with purpose := some .rollback, restored := 0, damaged := 0 }).provided :=
    provided_setEngine h ⟨h.engine.slot, h.engine.restoring⟩
  obtain ⟨active, -⟩ := h.headed runs
  obtain ⟨c, active⟩ := Option.isSome_iff_exists.1 active
  have capacity := logCapacity_active h.geometry active
  have fits := h.fits c active
  unfold State.beginWalk
  dsimp only
  split
  · rw [finishWalk_rollback rfl]
    refine provided_setEngine purposed ⟨fun working => absurd rfl working, fun restoring => (by cases restoring)⟩
  · next n tail =>
    refine provided_readSlot purposed false ?_
    have tail : s.capture.tail = n + 1 := tail
    show n + 0 < s.logCapacity
    omega

theorem provided_rollbackTest (h : s.provided) : s.rollbackTest.provided := by
  obtain ⟨x, hx⟩ : ∃ x, (if s.settled then s.beginWalk else s) = x := ⟨_, rfl⟩
  have walked : x.provided := by
    rw [← hx]
    split
    · next due =>
      refine provided_beginWalk h ?_
      unfold State.settled at due
      simp only [Bool.and_eq_true, beq_iff_eq] at due
      obtain ⟨⟨⟨⟨⟨rolling, -⟩, -⟩, -⟩, -⟩, -⟩ := due
      rw [rolling]
      exact ⟨rfl, rfl⟩
    · exact h
  unfold State.rollbackTest
  rw [hx]
  dsimp only
  split
  · next due =>
    obtain ⟨rolling, -⟩ := due
    exact provided_requestSeal walked (by rw [rolling]; exact ⟨rfl, rfl⟩)
  · exact walked

theorem provided_settle (before : State) (h : u.provided) : (State.settle before u).provided :=
  provided_takeCapture (provided_reoffer _ (provided_arbitrate (provided_rollbackTest (provided_commitTest (provided_takeCapture
    (provided_releaseRead (provided_reoffer before h)))))))

end Blocks

end Sys2Proof.Machine
end

section
/-! The completions, parking and starting up keep what is addressed within the memory (R2, R5, R7, R10, R42). -/

namespace Sys2Proof.Machine

section Effects

variable {s t u x : State} {o : MemOp}

theorem provided_finishOp (h : s.provided) (o : MemOp) : (s.finishOp o).provided := { h with op := fun _ none => (by cases none) }

/-! ### The captures' completions -/

theorem provided_noteFailure (h : s.provided) (merr : List BadBeat) : (s.noteFailure merr).provided := by
  unfold State.noteFailure
  split
  · exact h
  · exact provided_raise h _ _ _

/-- A clean read's record goes to slot tail, which the capture's reservation keeps free (R28, R42). -/
theorem provided_takePreImage (h : s.provided) (merr : List BadBeat) (image : List MWord)
    (going : s.ctl.state ≠ .parking → s.capture.stop = false → s.ctl.state.runs) (reserved : 0 < s.table.reservations) :
    (s.takePreImage merr image).provided := by
  have noted := provided_noteFailure h merr
  have capture : (s.noteFailure merr).capture = s.capture := by unfold State.noteFailure; split <;> simp
  have ctl : (s.noteFailure merr).ctl = s.ctl := by unfold State.noteFailure; split <;> simp
  unfold State.takePreImage
  split
  · refine provided_setCapture noted ⟨?_, ?_, ?_⟩ (by rw [capture])
    · rw [← capture]; exact noted.capture.granule
    · rw [← capture]; exact noted.capture.reading
    · rw [← capture]; exact noted.capture.slot
  · next parking =>
    split
    · exact provided_endStopped noted
    · next stop =>
      have runs := going parking (by simpa using stop)
      split
      · obtain ⟨active, -⟩ := h.headed runs
        obtain ⟨c, active⟩ := Option.isSome_iff_exists.1 active
        have fits := h.fits c active
        refine provided_setCapture h ⟨h.capture.granule, fun reading => (by cases reading), fun _ => ⟨_, rfl, ?_⟩⟩ (Nat.le_refl _)
        rw [logCapacity_active h.geometry active]
        omega
      · refine provided_waitForMark (provided_enterBreaking (provided_releaseInFlight noted) ?_) _
        rw [State.releaseInFlight, (capturesEnd_dropEntries _ _).ctl, setCapture_ctl, ctl]
        exact runs

/-- The tail rises as the reservation goes (R29, R42). -/
theorem provided_completeCapture (h : s.provided) (present : ∃ e ∈ s.table.entries, e.state = .capturing ∧ s.capture.granule = some e.granule)
    (lawful : s.table.reservations = capturingCount s.table.entries) : s.completeCapture.provided := by
  obtain ⟨e, he, capturing, granule⟩ := present
  have mine : 0 < capturingCount (s.table.entries.filter fun f => f.granule == s.capture.granule.getD 0) :=
    List.countP_pos_iff.2 ⟨e, List.mem_filter.2 ⟨he, by simp [granule]⟩, by simp [capturing]⟩
  have some' : 0 < s.table.reservations := by
    rw [lawful]
    exact List.countP_pos_iff.2 ⟨e, he, by simp [capturing]⟩
  obtain ⟨x, hx⟩ : ∃ x, (s.setCapture { s.capture.toIdle with tail := s.capture.tail + 1 }).setTable
      (s.table.complete (s.capture.granule.getD 0)) = x := ⟨_, rfl⟩
  have logged : x.provided := by
    have entries : ∀ f ∈ (s.table.complete (s.capture.granule.getD 0)).entries, 16 * f.granule + 16 ≤ s.words := by
      unfold GranuleTable.complete
      split
      · exact fun f hf => h.table f (List.mem_of_mem_filter hf)
      · intro f hf
        obtain ⟨e, he, rfl⟩ := List.mem_map.1 hf
        split <;> exact h.table e he
    have fewer : (s.table.complete (s.capture.granule.getD 0)).reservations + 1 ≤ s.table.reservations := by
      unfold GranuleTable.complete
      split
      · show s.table.reservations - capturingCount _ + 1 ≤ _
        omega
      · show s.table.reservations - capturingCount _ + 1 ≤ _
        omega
    rw [← hx]
    refine { h with capture := within_idle rfl rfl, table := entries, fits := fun c active => ?_ }
    have fits := h.fits c active
    show s.capture.tail + 1 + (s.table.complete (s.capture.granule.getD 0)).reservations ≤ c.capacity.toNat
    omega
  have made : s.completeCapture = if s.ctl.state = .parking then x.watermarkTest
      else x.watermarkTest.mapGates (Gate.retied [s.capture.granule.getD 0] .opened) := by
    rw [← hx]
    rfl
  rw [made]
  split
  · exact provided_watermarkTest logged
  · exact provided_mapGates (provided_watermarkTest logged) _

/-! ### The header writes -/

/-- A header selected (R112). -/
theorem provided_selectWritten (h : s.provided) (elsewhere : s.ctl.state ≠ .starting) (target : Slot) (r : HeaderRecord) :
    (s.selectWritten target r).provided := by
  cases target <;> exact { h with
    granted := fun _ none => (by cases none)
    asked := fun _ none => (by cases none)
    starting := fun starting => absurd starting elsewhere }

theorem provided_clearEpoch (h : s.provided) : s.clearEpoch.provided := by
  refine provided_setAlarms (provided_setTable (provided_setCapture (x := { s.capture with tail := 0 }) h
    ⟨h.capture.granule, h.capture.reading, h.capture.slot⟩ (Nat.zero_le _)) ?_ fun c _ => Nat.zero_le _) _
  exact fun _ none => absurd none List.not_mem_nil

/-- A configuration made active with nothing in the log and no unit at work on it (R89, R114, R118, R170). -/
theorem provided_adopts (h : s.provided) {c : Configuration} {pending : Option Configuration} (valid : c.valid s.size = true)
    (next : ∀ p ∈ pending, p.valid s.size = true) (writes : s.header.writeRequest = none) (capture : s.capture.phase = .idle)
    (engine : s.engine.phase = .idle) (tail : s.capture.tail = 0) (reservations : s.table.reservations = 0)
    (size : s.dec.memorySize.isSome) :
    ((s.setHeader { s.header with active := some c, pendingConfig := pending }).setDec (s.dec.load c)).provided := by
  refine { h with
    active := ?_, pending := next, geometry := rfl, regions := rfl, headed := fun _ => ⟨rfl, size⟩, capture := ?_, engine := ?_,
    asked := ?_, fits := ?_ }
  · rintro _ ⟨⟩
    exact valid
  · intro w hw
    rw [show s.header.writeRequest = some w from hw] at writes
    cases writes
  · exact ⟨h.capture.granule, h.capture.reading, fun writing => (by
      rw [show s.capture.phase = _ from writing] at capture; cases capture)⟩
  · exact ⟨fun working => absurd engine working, fun restoring => (by
      rw [show s.engine.phase = _ from restoring] at engine; cases engine)⟩
  · intro c' _
    show s.capture.tail + s.table.reservations ≤ _
    omega

/-- OPEN entered with a configuration active (R89, R124, R170). -/
theorem provided_opens (h : s.provided) (writes : s.header.writeRequest = none) (active : s.header.active.isSome)
    (size : s.dec.memorySize.isSome) : (s.setCtl { s.ctl with state := .opened }).provided := by
  refine { h with
    asked := ?_, reads := fun _ _ _ => .inr size, formatting := fun no => (by cases no), starting := fun no => (by cases no),
    headed := fun _ => ⟨active, size⟩ }
  intro w hw
  rw [show s.header.writeRequest = some w from hw] at writes
  cases writes

/-- A seal's first three effects (R89). -/
theorem provided_applySeal (h : s.provided) (elsewhere : s.ctl.state ≠ .starting) (w : WriteRequest) {r : HeaderRecord}
    (valid : r.config.valid s.size = true) (capture : s.capture.phase = .idle) (engine : s.engine.phase = .idle)
    (size : s.dec.memorySize.isSome) : (s.applySeal w r).provided := by
  have selected := provided_selectWritten h elsewhere w.target r
  obtain ⟨x, hx⟩ : ∃ x, s.selectWritten w.target r = x := ⟨_, rfl⟩
  have frame : x.dec = s.dec ∧ x.capture = s.capture ∧ x.engine = s.engine ∧ x.header.writeRequest = none := by
    rw [← hx]
    exact ⟨rfl, rfl, rfl, rfl⟩
  obtain ⟨dec, ecapture, eengine, writes⟩ := frame
  have words : x.size = s.size := by unfold State.size; rw [dec]
  unfold State.applySeal
  dsimp only
  rw [hx] at selected ⊢
  split
  · have cleared := provided_clearEpoch selected
    have adopted := provided_adopts (s := x.clearEpoch) (c := r.config) (pending := if w.newer then x.header.pendingConfig else none)
      cleared (by rw [← words] at valid; exact valid) (by split; exacts [selected.pending, fun _ none => (by cases none)]) writes
      (by show x.capture.phase = _; rw [ecapture, capture]) (by show x.engine.phase = _; rw [eengine, engine]) rfl rfl
      (by show x.dec.memorySize.isSome = true; rw [dec]; exact size)
    refine provided_frame adopted ?_ ?_ ?_ ?_ ?_ ?_ ?_ ?_ ?_ ?_ <;> simp [State.clearEpoch]
  · exact provided_clearEpoch selected

/-! ### The rollback engine -/

/-- No selection stands in FAULT (R111). -/
theorem provided_enterFault (h : s.provided) (reason : FaultReason) (writes : s.header.writeRequest = none)
    (reads : s.header.readRequest = none) (capture : s.capture.phase = .idle) (engine : s.engine.phase = .idle) :
    (s.enterFault reason).endStartUp.provided := by
  refine provided_endStartUp { h with
    active := fun _ none => (by cases none)
    pending := fun _ none => (by cases none)
    geometry := rfl
    regions := rfl
    asked := fun w hw => (by rw [show s.header.writeRequest = some w from hw] at writes; cases writes)
    reads := fun r hr => (by rw [show s.header.readRequest = some r from hr] at reads; cases reads)
    formatting := fun no => (by cases no)
    starting := fun no => (by cases no)
    headed := ?_
    capture := ⟨h.capture.granule, h.capture.reading, fun writing => (by
      rw [show s.capture.phase = _ from writing] at capture; cases capture)⟩
    engine := ⟨fun working => absurd engine working, fun restoring => (by
      rw [show s.engine.phase = _ from restoring] at engine; cases engine)⟩
    fits := fun _ none => (by cases none) }
  rintro ⟨head, -⟩
  cases head

/-- A recovery works in RECOVERING, with no header write or read requested and no capture (R97, R98, R115). -/
def State.recovers (s : State) : Prop :=
  s.engine.purpose = some .recovery → s.ctl.state = .recovering ∧ s.header.writeRequest = none ∧ s.header.readRequest = none
    ∧ s.capture.phase = .idle

theorem provided_endRecovery (h : s.provided) (recovering : s.ctl.state = .recovering) (writes : s.header.writeRequest = none)
    (reads : s.header.readRequest = none) (capture : s.capture.phase = .idle) : s.endRecovery.provided := by
  have idle : (s.setEngine s.engine.toIdle).provided := provided_setEngine h (toIdle_within _ _ _)
  unfold State.endRecovery
  dsimp only
  split
  · exact provided_enterFault (provided_raise idle _ _ _) _ (by simpa using writes) (by simpa using reads) (by simpa using capture)
      (by simp [RollbackEngine.toIdle])
  · obtain ⟨active, size⟩ := h.headed (by rw [recovering]; exact ⟨rfl, rfl⟩)
    exact provided_requestWrite idle _ size (.inr (.inr ⟨rfl, active⟩))

theorem provided_finishWalk (h : s.provided) (recovers : s.recovers) : s.finishWalk.provided := by
  unfold State.finishWalk
  split
  · next recovery =>
    obtain ⟨recovering, writes, reads, capture⟩ := recovers recovery
    exact provided_endRecovery h recovering writes reads capture
  · exact provided_setEngine h ⟨fun working => absurd rfl working, fun restoring => (by cases restoring)⟩

theorem provided_stepWalk (h : s.provided) (recovers : s.recovers) (working : s.engine.phase ≠ .idle) : s.stepWalk.provided := by
  have below := h.engine.slot working
  unfold RollbackEngine.slotRead at below
  unfold State.stepWalk
  split
  · exact provided_finishWalk h recovers
  · next n cursor =>
    rw [cursor] at below
    refine provided_readSlot h false ?_
    show n + 0 < s.logCapacity
    omega

theorem provided_endScan (h : s.provided) (recovers : s.recovers) {n : Nat} (below : n ≤ s.logCapacity) : (s.endScan n).provided := by
  have ended : (s.setEngine { s.engine with pass := .walk, scanEnd := some n }).provided :=
    provided_setEngine h ⟨h.engine.slot, h.engine.restoring⟩
  cases n with
  | zero => exact provided_finishWalk ended recovers
  | succ k => exact provided_readSlot ended false (show k + 0 < s.logCapacity by omega)

theorem provided_scanFrom (h : s.provided) (recovers : s.recovers) (slot : Nat) : (s.scanFrom slot).provided := by
  unfold State.scanFrom
  split
  · exact provided_endScan h recovers (Nat.le_refl _)
  · next below => exact provided_readSlot h false (show slot + 0 < s.logCapacity by omega)

theorem provided_stepScan (h : s.provided) (recovers : s.recovers) (working : s.engine.phase ≠ .idle) (valid : Bool) :
    (s.stepScan valid).provided := by
  have below := h.engine.slot working
  unfold RollbackEngine.slotRead at below
  unfold State.stepScan
  dsimp only
  split
  · split
    · exact provided_scanFrom h recovers _
    · exact provided_endScan h recovers (by omega)
  · split
    · exact provided_scanFrom h recovers _
    · split
      · next more => exact provided_readSlot h true more
      · exact provided_endScan h recovers (by omega)

/-- A good record's granule is a host granule (R100). -/
theorem recordGood_granule {number : BitVec 32} {epoch : BitVec 48} {floor slot : Nat} {ws : List MWord}
    (good : recordGood number epoch floor slot ws = true) : recordGranule ws < floor / 64 := by
  unfold recordGood at good
  simp only [Bool.and_eq_true, decide_eq_true_eq] at good
  exact good.2

theorem provided_takeRecord (h : s.provided) (recovers : s.recovers) (working : s.engine.phase ≠ .idle) (merr : List BadBeat)
    (ws : List MWord) : (s.takeRecord merr ws).provided := by
  unfold State.takeRecord
  dsimp only
  split
  · exact provided_stepScan h recovers working _
  · split
    · next good =>
      unfold State.judgeRecord at good
      rw [Bool.and_eq_true] at good
      exact provided_setEngine h ⟨fun _ => h.engine.slot working, fun _ => floor_within h (recordGood_granule good.2)⟩
    · have raised := provided_raise h .recordDamaged s.epochNumber (BitVec.ofNat 32 (s.engine.cursor.getD 0))
      have same : ∀ k e d, (s.raise k e d).engine = s.engine ∧ (s.raise k e d).header = s.header ∧ (s.raise k e d).ctl = s.ctl
          ∧ (s.raise k e d).capture = s.capture := fun k e d => by simp
      obtain ⟨engine, header, ctl, capture⟩ := same .recordDamaged s.epochNumber (BitVec.ofNat 32 (s.engine.cursor.getD 0))
      unfold State.skipRecord
      dsimp only
      generalize s.raise .recordDamaged s.epochNumber (BitVec.ofNat 32 (s.engine.cursor.getD 0)) = x at *
      refine provided_stepWalk (s := x.setEngine { x.engine with damaged := x.engine.damaged + 1 })
        (provided_setEngine raised ⟨raised.engine.slot, raised.engine.restoring⟩) ?_ (by show x.engine.phase ≠ _; rw [engine]; exact working)
      unfold State.recovers at recovers ⊢
      simp only [setEngine_engine, setEngine_ctl, setEngine_header, setEngine_capture]
      rw [engine, header, ctl, capture]
      exact recovers

/-! ### The start-up reads -/

/-- A header selected at start-up, and its recovery begun (R118, R119, R121). -/
theorem provided_select (h : s.provided) (slot : Slot) {r : HeaderRecord} (other : Judgement) (valid : r.config.valid s.size = true)
    (writes : s.header.writeRequest = none) (reads : s.header.readRequest = none) (capture : s.capture.phase = .idle)
    (engine : s.engine.phase = .idle) (tail : s.capture.tail = 0) (reservations : s.table.reservations = 0)
    (size : s.dec.memorySize.isSome) : (s.select slot r other).provided := by
  obtain ⟨x, hx⟩ : ∃ x, s.noteDamagedSlot slot.other other r.epoch = x := ⟨_, rfl⟩
  have noted : x.provided := by
    rw [← hx]
    unfold State.noteDamagedSlot
    split
    · exact provided_raise h _ _ _
    · exact h
  have frame : x.dec = s.dec ∧ x.header = s.header ∧ x.capture = s.capture ∧ x.engine = s.engine ∧ x.table = s.table := by
    rw [← hx]
    unfold State.noteDamagedSlot
    split <;> simp
  obtain ⟨dec, header, ecapture, eengine, table⟩ := frame
  have adopted := provided_adopts (c := r.config) (pending := none) noted (by unfold State.size at valid ⊢; rw [dec]; exact valid)
    (fun _ none => (by cases none)) (by rw [header, writes]) (by rw [ecapture, capture]) (by rw [eengine, engine]) (by rw [ecapture, tail])
    (by rw [table, reservations]) (by rw [dec]; exact size)
  obtain ⟨y, hy⟩ : ∃ y, x.selectHeader slot r = y := ⟨_, rfl⟩
  have selected : y.provided := by
    rw [← hy]
    refine { adopted with
      asked := fun w hw => ?_, reads := fun q hq => ?_, formatting := fun no => (by cases no), starting := fun no => (by cases no),
      headed := fun _ => ⟨rfl, ?_⟩ }
    · have gone : x.header.writeRequest = none := by rw [header, writes]
      rw [show x.header.writeRequest = some w from hw] at gone
      cases gone
    · have gone : x.header.readRequest = none := by rw [header, reads]
      rw [show x.header.readRequest = some q from hq] at gone
      cases gone
    · show x.dec.memorySize.isSome = true
      rw [dec]
      exact size
  have state : y.ctl.state = .recovering := by rw [← hy]; rfl
  have ywrites : y.header.writeRequest = none := by rw [← hy]; show x.header.writeRequest = _; rw [header, writes]
  have yreads : y.header.readRequest = none := by rw [← hy]; show x.header.readRequest = _; rw [header, reads]
  have ycapture : y.capture.phase = .idle := by rw [← hy]; show x.capture.phase = _; rw [ecapture, capture]
  unfold State.select
  rw [hx, hy]
  have counted : (y.setEngine { y.engine with restored := 0, damaged := 0 }).provided :=
    provided_setEngine selected ⟨selected.engine.slot, selected.engine.restoring⟩
  unfold State.beginRecovery
  dsimp only
  split
  · exact provided_endRecovery (provided_raise counted _ _ _) (by simpa using state) (by simpa using ywrites) (by simpa using yreads)
      (by simpa using ycapture)
  · exact provided_scanFrom (s := (y.setEngine { y.engine with restored := 0, damaged := 0 }).setEngine
      { y.engine with restored := 0, damaged := 0, purpose := some .recovery, pass := .scan, scanEnd := none })
      (provided_setEngine counted ⟨counted.engine.slot, counted.engine.restoring⟩)
      (fun _ => ⟨state, ywrites, yreads, ycapture⟩) 0

/-- A start-up read judged, the next one requested or the selection made (R115 to R119). -/
theorem provided_takeHeader (h : s.provided) (slot : Slot) (merr : List BadBeat) (ws : List MWord)
    (starting : s.ctl.state ≠ .parking → s.ctl.state = .starting ∧ s.header.writeRequest = none ∧ s.capture.phase = .idle
      ∧ s.engine.phase = .idle ∧ s.capture.tail = 0 ∧ s.table.reservations = 0 ∧ s.dec.memorySize.isSome) :
    (s.takeHeader slot merr ws).provided := by
  by_cases parking : s.ctl.state = .parking
  · unfold State.takeHeader
    dsimp only
    rw [setHeader_ctl, if_pos parking]
    have stopped : s.ctl.state.stopped = true := by rw [parking]; rfl
    have closed : ∀ {P : Prop}, s.ctl.state = .starting → P := fun no => by rw [parking] at no; cases no
    cases slot <;> exact { h with reads := fun _ none => (by cases none), starting := fun no => closed no }
  · obtain ⟨state, writes, capture, engine, tail, reservations, size⟩ := starting parking
    have judged : judgeSlot s.size (!merr.isEmpty) (bytesOf ws) = .valid →
        (HeaderRecord.ofBytes (bytesOf ws)).config.valid s.size = true := judgeSlot_valid
    unfold State.takeHeader
    dsimp only
    rw [setHeader_ctl, if_neg parking]
    cases slot with
    | a =>
      exact { h with reads := fun _ _ _ => .inr size, starting := fun _ valid => ⟨_, rfl, judged valid⟩ }
    | b =>
      obtain ⟨x, hx⟩ : ∃ x, s.setHeader { (s.header.setSurvey .b (surveyOf (judgeSlot s.size (!merr.isEmpty) (bytesOf ws))
        (HeaderRecord.ofBytes (bytesOf ws)))) with readRequest := none } = x := ⟨_, rfl⟩
      have surveyed : x.provided := by rw [← hx]; exact { h with reads := fun _ none => (by cases none) }
      have xstate : x.ctl.state = .starting := by rw [← hx]; exact state
      have xwrites : x.header.writeRequest = none := by rw [← hx]; exact writes
      have xreads : x.header.readRequest = none := by rw [← hx]; rfl
      have xcapture : x.capture = s.capture := by rw [← hx]; rfl
      have xengine : x.engine.phase = .idle := by rw [← hx]; exact engine
      have xtable : x.table.reservations = 0 := by rw [← hx]; exact reservations
      have xsize : x.dec.memorySize.isSome := by rw [← hx]; exact size
      have survey : judgementOf x.header.surveyB = judgeSlot x.size (!merr.isEmpty) (bytesOf ws) := by rw [← hx]; rfl
      rw [← xcapture] at capture tail
      rw [hx]
      dsimp only [State.selectSlot]
      have chosen : ∀ slot, selection (judgementOf x.header.surveyA) (judgementOf x.header.surveyB)
          (x.header.readA.getD (HeaderRecord.ofBytes (bytesOf ws))) (HeaderRecord.ofBytes (bytesOf ws)) = some slot →
          (slot = .a → judgementOf x.header.surveyA = .valid) ∧ (slot = .b → judgementOf x.header.surveyB = .valid) := by
        intro slot chosen
        unfold selection at chosen
        split at chosen
        · next both => exact ⟨fun _ => both.1, fun _ => both.2⟩
        · split at chosen
          · next a => cases chosen; exact ⟨fun _ => a, fun no => (by cases no)⟩
          · split at chosen
            · next b => cases chosen; exact ⟨fun no => (by cases no), fun _ => b⟩
            · cases chosen
      split
      · next selected =>
        obtain ⟨r, read, valid⟩ := surveyed.starting xstate ((chosen _ selected).1 rfl)
        refine provided_select surveyed .a _ ?_ xwrites xreads capture xengine tail xtable xsize
        rw [show x.header.readA = some r from read]
        exact valid
      · next selected =>
        exact provided_select surveyed .b _ (judgeSlot_valid (survey ▸ (chosen _ selected).2 rfl)) xwrites xreads capture xengine tail xtable xsize
      · unfold State.selectNone
        split
        · refine provided_endStartUp { surveyed with
            asked := fun w hw => (by rw [show x.header.writeRequest = some w from hw] at xwrites; cases xwrites)
            reads := fun _ _ _ => .inr xsize
            formatting := fun no => (by cases no)
            starting := fun no => (by cases no)
            headed := ?_ }
          rintro ⟨head, -⟩
          cases head
        · split
          · exact provided_enterFault surveyed _ xwrites xreads capture xengine
          · exact provided_enterFault surveyed _ xwrites xreads capture xengine

/-! ### Parking and starting up -/

theorem provided_parkHost (h : s.provided) : s.parkHost.provided := by
  unfold State.parkHost
  split
  · exact provided_closeBeat h _ _
  · exact provided_setHost h ⟨h.host.cycle, h.host.portion, leftRead_within h.host⟩

/-- PFW withdraws what is not granted (R128). -/
theorem provided_enterParking (h : s.provided) : s.enterParking.provided := by
  have parked : ((s.setCtl s.ctl.park).setHeader s.header.park).provided := by
    refine { h with
      granted := fun w hw => ?_, asked := fun _ _ _ => .inl rfl, reads := fun _ _ _ => .inl rfl, formatting := fun no => (by cases no),
      starting := fun no => (by cases no), headed := ?_ }
    · obtain ⟨stood, -⟩ := Option.mem_filter_iff.1 hw
      exact h.granted w stood
    · rintro ⟨-, going⟩
      cases going
  have engine : (((s.setCtl s.ctl.park).setHeader s.header.park).setEngine s.engine.park).provided := by
    refine provided_setEngine parked ?_
    unfold RollbackEngine.park
    split
    · exact h.engine
    · exact toIdle_within _ _ _
  have kept := provided_keepEntries (provided_parkHost engine) QueueEntry.draining
  exact provided_setQueue kept kept.queue

theorem provided_noteParked (h : s.provided) : s.noteParked.provided := by
  refine provided_raise (s := s.setCtl { s.ctl with state := .parked }) { h with
    asked := fun _ _ _ => .inl rfl
    reads := fun _ _ _ => .inl rfl
    formatting := fun no => (by cases no)
    starting := fun no => (by cases no)
    headed := ?_ } _ _ _
  rintro ⟨-, going⟩
  cases going

/-- Every volatile item at its reset value (R134). -/
structure State.blank (x : State) : Prop where
  dec : x.dec = .reset
  capture : x.capture = .reset
  table : x.table = .reset
  queue : x.queue = .reset
  state : x.ctl.state = .starting
  engine : x.engine = .reset
  header : x.header = .reset
  host : x.host = .reset
  op : x.port.op = none

theorem blank_volatileReset (s : State) : s.volatileReset.blank := ⟨rfl, rfl, rfl, rfl, rfl, rfl, rfl, rfl, rfl⟩

/-- With nothing but the memory's size known and a start-up read requested, nothing is addressed (R1, R115). -/
theorem provided_bare (x : State) (blank : x.blank) (size : Option Nat) (strap : ∀ m ∈ size, m ∈ strapSizes) (read : Option ReadRequest)
    (reads : read.isSome → size.isSome) :
    ((x.setDec { x.dec with memorySize := size }).setHeader { x.header with readRequest := read }).provided := by
  obtain ⟨dec, capture, table, queue, state, engine, header, host, op⟩ := blank
  have none : ∀ {α : Type} {a : α} {P : Prop}, a ∈ (none : Option α) → P := fun no => by cases no
  constructor
  · exact strap
  · simp only [setHeader_header, header]; exact fun _ no => none no
  · simp only [setHeader_header, header]; exact fun _ no => none no
  · simp only [setHeader_dec, setDec_dec, setHeader_header, header, dec]; rfl
  · simp only [setHeader_dec, setDec_dec, setHeader_header, header, dec]; rfl
  · simp only [setHeader_header, header]; exact fun _ no => none no
  · simp only [setHeader_header, header]; exact fun _ no => none no
  · exact fun r hr _ => .inr (reads (by rw [show read = some r from hr]; rfl))
  · simp only [setHeader_ctl, setDec_ctl, state]; exact fun no => by cases no
  · simp only [setHeader_header, header]; exact fun _ no => by cases no
  · simp only [setHeader_ctl, setDec_ctl, state]; exact fun no => by cases no.1
  · simp only [setHeader_host, setDec_host, host]; exact ⟨fun _ no => none no, fun _ no => none no, fun _ no => none no⟩
  · simp only [setHeader_queue, setDec_queue, queue]; exact fun _ no => absurd no List.not_mem_nil
  · simp only [setHeader_table, setDec_table, table]; exact fun _ no => absurd no List.not_mem_nil
  · simp only [setHeader_capture, setDec_capture, capture]
    exact within_idle rfl rfl
  · simp only [setHeader_engine, setDec_engine, engine]
    exact ⟨fun no => absurd rfl no, fun no => (by cases no)⟩
  · simp only [State.logFits, setHeader_header, header]; exact fun _ no => none no
  · simp only [setHeader_port, setDec_port, op]; exact fun _ no => none no

theorem provided_blank (blank : x.blank) : x.provided := by
  have bare := provided_bare x blank none (fun _ none => (by cases none)) none (fun no => by cases no)
  refine bare.congr ?_ ?_ rfl rfl rfl rfl rfl rfl rfl rfl rfl
  · rw [setHeader_dec, setDec_dec, blank.dec]; rfl
  · rw [setHeader_header, blank.header]; rfl

/-- The strap's codes give the strap's sizes (R1). -/
theorem strap_sizes : ∀ (msz : BitVec 3), ∀ m ∈ memorySizeOf msz, m ∈ strapSizes := by decide

theorem provided_sampleStrap (blank : x.blank) : x.sampleStrap.provided := by
  unfold State.sampleStrap
  split
  · refine provided_enterFault (provided_blank blank) _ ?_ ?_ ?_ ?_
    · rw [blank.header]; rfl
    · rw [blank.header]; rfl
    · rw [blank.capture]; rfl
    · rw [blank.engine]; rfl
  · next size sampled => exact provided_bare x blank (some size) (fun m hm => strap_sizes x.pins.msz m (sampled.trans hm)) _ fun _ => rfl

theorem provided_startUp (blank : x.blank) : x.startUp.provided := provided_arbitrate (provided_sampleStrap blank)

theorem provided_parkAtStart (blank : x.blank) (order : StartOrder) : (x.parkAtStart order).provided := by
  cases order with
  | strapFirst => exact provided_noteParked (provided_enterParking (provided_sampleStrap blank))
  | pfwFirst => exact provided_noteParked (provided_enterParking (provided_blank blank))

theorem provided_beginRestart (s : State) (again : Option StartOrder) : (s.beginRestart again).provided := by
  cases again with
  | none => exact provided_startUp (blank_volatileReset s)
  | some order => exact provided_parkAtStart (x := s.volatileReset.setPins _) ⟨rfl, rfl, rfl, rfl, rfl, rfl, rfl, rfl, rfl⟩ order

theorem provided_afterCompletion (before : State) (h : u.provided) : (State.afterCompletion before u).provided := by
  unfold State.afterCompletion State.enterParked
  split
  · split
    · exact provided_noteParked h
    · exact provided_beginRestart _ _
  · exact provided_settle before h

end Effects

end Sys2Proof.Machine
end

section
/-! Every command keeps what is addressed within the memory (R2, R5, R7, R10, R42). -/

namespace Sys2Proof.Machine

section Commands

variable {s t u : State} {c : Instr} {o : MemOp}

/-! ### Lawful states -/

/-- A header write that is not granted yet is one of its state's, which has what it needs (R111, R112, R115). -/
theorem asked_of_lawful (h : s.Lawful) : ∀ w ∈ s.header.writeRequest, w.granted = false → s.ctl.state.stopped = true
    ∨ s.dec.memorySize.isSome ∧ (w.kind.isClearing = true ∨ w.kind.isFormatWrite = true ∧ s.ctl.state = .formatting
      ∨ w.kind.isFormatWrite = false ∧ s.header.active.isSome) := by
  obtain ⟨held, -, writes, -, -, -, -, -, ⟨-, headed⟩, -, -, ⟨sized, -⟩⟩ := h.consistent
  intro w request _
  obtain ⟨mine | stopped, -⟩ := writes w request
  · have released : s.pins.resetLow = false := by
      by_contra low
      rw [held (by simpa using low)] at request
      cases request
    have size : s.ctl.state ∉ [DeviceState.fault, .parking, .parked] → s.dec.memorySize.isSome := sized released
    have active : s.ctl.state.runs → s.header.active.isSome := by
      rintro ⟨head, going⟩
      obtain ⟨-, -, -, active, -⟩ := headed (by rw [head, going]; exact ⟨rfl, rfl⟩)
      exact active
    refine .inr ?_
    cases kind : w.kind with
    | commitSeal =>
      rw [kind, WriteKind.state, List.mem_singleton] at mine
      rw [mine] at size active
      exact ⟨size (by decide), .inr (.inr ⟨rfl, active ⟨rfl, rfl⟩⟩)⟩
    | recoverySeal =>
      rw [kind, WriteKind.state, List.mem_singleton] at mine
      rw [mine] at size active
      exact ⟨size (by decide), .inr (.inr ⟨rfl, active ⟨rfl, rfl⟩⟩)⟩
    | mark =>
      rw [kind, WriteKind.state, List.mem_cons, List.mem_singleton] at mine
      rcases mine with mine | mine <;> rw [mine] at size active <;> exact ⟨size (by decide), .inr (.inr ⟨rfl, active ⟨rfl, rfl⟩⟩)⟩
    | clearing n =>
      rw [kind, WriteKind.state, List.mem_singleton] at mine
      rw [mine] at size
      exact ⟨size (by decide), .inl rfl⟩
    | formatWrite n =>
      rw [kind, WriteKind.state, List.mem_singleton] at mine
      rw [mine] at size
      exact ⟨size (by decide), .inr (.inl ⟨rfl, mine⟩)⟩
  · exact .inl stopped

theorem provided_of_lawful (h : s.Lawful) : s.provided := by
  obtain ⟨held, reading, -, -, -, -, -, -, ⟨-, headed⟩, ⟨-, inFlight⟩, -, ⟨sized, -⟩⟩ := h.consistent
  obtain ⟨strap, active, pending, granted, formatting, starting, geometry, regions⟩ := h.configured
  obtain ⟨op, cycle, portion, read, queue, table, granule, slot, engine, restoring⟩ := h.addressed
  refine ⟨strap, active, pending, geometry, regions, granted, asked_of_lawful h, fun r hr _ => ?_, formatting, starting, fun runs => ?_,
    ⟨fun c hc => granule_within strap (cycle c hc), portion, read⟩, queue, table, ⟨granule, fun phase => ?_, slot⟩, ⟨engine, restoring⟩,
    h.fits, op⟩
  · rcases reading (by rw [show s.header.readRequest = some r from hr]; rfl) with starts | stopped
    · refine .inr (sized ?_ (by rw [starts]; decide))
      by_contra low
      rw [held (by simpa using low)] at hr
      cases hr
    · exact .inl stopped
  · obtain ⟨head, going⟩ := runs
    obtain ⟨-, -, -, active, size, -⟩ := headed (by rw [head, going]; exact ⟨rfl, rfl⟩)
    exact ⟨active, size⟩
  · obtain ⟨e, -, -, granule⟩ := inFlight (by rw [phase]; decide)
    rw [granule]
    rfl

/-- What the statement says of a state that the law holds in. -/
theorem addressed_of_provided (h : t.provided) : t.logFits ∧ t.configured ∧ t.addressed := by
  refine ⟨h.fits, ⟨h.strap, h.active, h.pending, h.granted, h.formatting, h.starting, h.geometry, h.regions⟩, h.op, fun c hc => ?_,
    h.host.portion, h.host.read, h.queue, h.table, h.capture.granule, h.capture.slot, h.engine.slot, h.engine.restoring⟩
  have below := h.host.cycle c hc
  omega

/-! ### The completions -/

/-- A completion finds RESETN released and the device not PARKED (R132, R134). -/
theorem completing_going (h : s.Lawful) (op : s.port.op = some o) : s.pins.resetLow = false ∧ s.ctl.state ≠ .parked := by
  obtain ⟨held, -, -, -, -, -, -, -, -, -, ⟨-, parked, -⟩, -⟩ := h.consistent
  refine ⟨?_, fun state => ?_⟩
  · by_contra low
    rw [held (by simpa using low)] at op
    cases op
  · rw [(parked state).1] at op
    cases op

/-- Of PARKING and PARKED a completion finds PARKING alone. -/
theorem stopped_parking (elsewhere : s.ctl.state ≠ .parked) (stopped : s.ctl.state.stopped = true) : s.ctl.state = .parking := by
  revert elsewhere stopped
  cases s.ctl.state <;> decide

theorem provided_preImageRead {merr : List BadBeat} (h : s.Lawful) (done : execPreImageReadComplete merr s = .next t) : t.provided := by
  have provided := provided_of_lawful h
  refine onOperation_elim (P := State.provided) done provided fun o underway => provided_afterCompletion _ ?_
  obtain ⟨op, -, waits, -⟩ := completing_underway.1 underway
  obtain ⟨-, elsewhere⟩ := completing_going h op
  have reading : s.capture.phase = .reading := by
    simp only [State.ownerWaits, Bool.and_eq_true, beq_iff_eq] at waits
    exact waits.1
  obtain ⟨-, -, -, -, -, ⟨-, -, unstopped⟩, -, -, -, ⟨-, inFlight⟩, -⟩ := h.consistent
  obtain ⟨e, he, capturing, -⟩ := inFlight (by rw [reading]; decide)
  obtain ⟨-, -, -, reservations⟩ := h.table
  refine provided_takePreImage (provided_finishOp provided o) merr _ (fun going stop => ?_) ?_
  · show s.ctl.state.runs
    rcases unstopped reading stop with stopped | ⟨opened | draining, -⟩
    · exact absurd (stopped_parking elsewhere stopped) going
    · rw [opened]; exact ⟨rfl, rfl⟩
    · rw [draining]; exact ⟨rfl, rfl⟩
  · show 0 < s.table.reservations
    rw [reservations]
    exact List.countP_pos_iff.2 ⟨e, he, by simp [capturing]⟩

theorem provided_recordWrite (h : s.Lawful) (done : execRecordWriteComplete s = .next t) : t.provided := by
  have provided := provided_of_lawful h
  refine onOperation_elim (P := State.provided) done provided fun o underway => provided_afterCompletion _ ?_
  obtain ⟨-, -, waits, -⟩ := completing_underway.1 underway
  have writing : s.capture.phase = .writing := by
    simp only [State.ownerWaits, Bool.and_eq_true, beq_iff_eq] at waits
    exact waits.1
  obtain ⟨-, -, -, -, -, -, -, -, -, ⟨-, inFlight⟩, -⟩ := h.consistent
  obtain ⟨-, -, -, reservations⟩ := h.table
  exact provided_completeCapture (provided_finishOp provided o) (inFlight (by rw [writing]; decide)) reservations

/-- The engine works on a rollback, or on a recovery in RECOVERING (R97, R98). -/
theorem recovers_of_lawful (h : s.Lawful) (op : s.port.op = some o) (working : s.engine.phase ≠ .idle) (going : s.ctl.state ≠ .parking) :
    s.recovers := by
  obtain ⟨-, reads, writes, engine, ⟨-, -, -, status⟩, -, -, quiet, -⟩ := h.consistent
  obtain ⟨-, elsewhere⟩ := completing_going h op
  intro purpose
  have recovering : s.ctl.state = .recovering := by
    rcases engine working with ⟨rollback, -⟩ | ⟨-, recovering | stopped⟩
    · rw [purpose] at rollback; cases rollback
    · exact recovering
    · exact absurd (stopped_parking elsewhere stopped) going
  obtain ⟨-, -, -, capture, -⟩ := quiet (.inr recovering)
  refine ⟨recovering, ?_, ?_, capture⟩
  · cases request : s.header.writeRequest with
    | none => rfl
    | some w =>
      obtain ⟨-, mark, other⟩ := writes w request
      by_cases kind : w.kind = .mark
      · exact absurd (mark kind) (status (.inr recovering))
      · exact absurd (other kind).1 working
  · cases request : s.header.readRequest with
    | none => rfl
    | some r =>
      rcases reads (by rw [request]; rfl) with starting | stopped
      · rw [recovering] at starting; cases starting
      · rw [recovering] at stopped; cases stopped

theorem provided_recordRead {merr : List BadBeat} (h : s.Lawful) (done : execRecordReadComplete merr s = .next t) : t.provided := by
  have provided := provided_of_lawful h
  refine onOperation_elim (P := State.provided) done provided fun o underway => provided_afterCompletion _ ?_
  obtain ⟨op, -, waits, -⟩ := completing_underway.1 underway
  have working : s.engine.phase ≠ .idle := fun idle => by simp [State.ownerWaits, idle] at waits
  have finished := provided_finishOp provided o
  split
  · exact provided_setEngine finished (toIdle_within _ _ _)
  · next going => exact provided_takeRecord finished (recovers_of_lawful (s := s) h op working going) working _ _

theorem provided_restoreWrite (h : s.Lawful) (done : execRestoreWriteComplete s = .next t) : t.provided := by
  have provided := provided_of_lawful h
  refine onOperation_elim (P := State.provided) done provided fun o underway => provided_afterCompletion _ ?_
  obtain ⟨op, -, waits, -⟩ := completing_underway.1 underway
  have working : s.engine.phase ≠ .idle := fun idle => by simp [State.ownerWaits, idle] at waits
  have counted : ((s.finishOp o).setEngine { (s.finishOp o).engine with restored := (s.finishOp o).engine.restored + 1 }).provided :=
    provided_setEngine (provided_finishOp provided o) ⟨provided.engine.slot, provided.engine.restoring⟩
  dsimp only
  split
  · exact provided_setEngine counted (toIdle_within _ _ _)
  · next going => exact provided_stepWalk counted (recovers_of_lawful (s := s) h op working going) working

theorem provided_headerRead {merr : List BadBeat} (h : s.Lawful) (done : execHeaderReadComplete merr s = .next t) : t.provided := by
  have provided := provided_of_lawful h
  refine onOperation_elim (P := State.provided) done provided fun o underway => provided_afterCompletion _ ?_
  obtain ⟨op, -, waits, -⟩ := completing_underway.1 underway
  obtain ⟨released, elsewhere⟩ := completing_going h op
  obtain ⟨-, reads, writes, engine, -, -, -, quiet, -, -, -, ⟨sized, -⟩⟩ := h.consistent
  refine provided_takeHeader (provided_finishOp provided o) _ merr _ fun going => ?_
  have starting : s.ctl.state = .starting := by
    have request : s.header.readRequest.isSome := by
      cases hr : s.header.readRequest with
      | none => simp [State.ownerWaits, hr] at waits
      | some r => rfl
    exact (reads request).resolve_right fun stopped => going (stopped_parking elsewhere stopped)
  obtain ⟨-, reservations, tail, capture, -⟩ := quiet (.inl (by rw [starting]; rfl))
  refine ⟨starting, ?_, capture, ?_, tail, reservations, sized released (by rw [starting]; decide)⟩
  · cases request : s.header.writeRequest with
    | none => exact request
    | some w =>
      obtain ⟨mine | stopped, -⟩ := writes w request
      · rw [starting] at mine
        cases kind : w.kind <;> simp [kind, WriteKind.state] at mine
      · rw [starting] at stopped; cases stopped
  · by_contra working
    rcases engine working with ⟨-, -, rolling | stopped⟩ | ⟨-, recovering | stopped⟩
    · rw [starting] at rolling; cases rolling
    · rw [starting] at stopped; cases stopped
    · rw [starting] at recovering; cases recovering
    · rw [starting] at stopped; cases stopped

/-- What a header write's completion finds (R86, R97, R98, R112). -/
structure State.writeCompletes (s : State) (w : WriteRequest) : Prop where
  elsewhere : s.ctl.state ≠ .starting
  granted : w.granted = true
  mine : s.ctl.state ≠ .parking → s.ctl.state ∈ w.kind.state
  units : w.kind ≠ .mark → s.capture.phase = .idle ∧ s.engine.phase = .idle
  content : w.kind.isClearing = false → w.header.config.valid s.size = true

theorem writeCompletes_of_lawful (h : s.Lawful) (underway : s.completing .headerWrite = .underway o) {w : WriteRequest}
    (request : s.header.writeRequest = some w) : s.writeCompletes w := by
  obtain ⟨op, -, waits, -⟩ := completing_underway.1 underway
  obtain ⟨-, parked⟩ := completing_going h op
  obtain ⟨-, -, writes, -⟩ := h.consistent
  obtain ⟨state, -, units⟩ := writes w request
  have granted : w.granted = true := by simpa [State.ownerWaits, request] using waits
  refine ⟨fun starting => ?_, granted, fun going => ?_, fun other => ⟨(units other).2.1, (units other).1⟩, fun content => ?_⟩
  · rw [starting] at state
    rcases state with mine | stopped
    · cases kind : w.kind <;> simp [kind, WriteKind.state] at mine
    · cases stopped
  · exact state.resolve_right fun stopped => going (stopped_parking parked stopped)
  · obtain ⟨r, hr, valid⟩ := (provided_of_lawful h).granted w request granted content
    rw [WriteRequest.header, show w.content = some r from hr]
    exact valid

/-- Outside PARKING and FAULT the memory's size is known to a completion (R1). -/
theorem sized_of_lawful (h : s.Lawful) (op : s.port.op = some o) (going : s.ctl.state ≠ .parking) (sound : s.ctl.state ≠ .fault) :
    s.dec.memorySize.isSome := by
  obtain ⟨released, parked⟩ := completing_going h op
  obtain ⟨-, -, -, -, -, -, -, -, -, -, -, ⟨sized, -⟩⟩ := h.consistent
  exact sized released (by simp [going, parked, sound])

/-- In PARKING too, where a configuration is active or a write has its content (R7, R10). -/
theorem sized_of_valid {c : Configuration} (valid : c.valid s.size = true) : s.dec.memorySize.isSome := by
  obtain ⟨room, -⟩ := valid_room valid
  cases size : s.dec.memorySize with
  | some m => rfl
  | none =>
    have zero : s.size = 0 := by unfold State.size; rw [size]; rfl
    omega

theorem provided_headerWrite {mine : WriteKind → Bool} {effect : State → WriteRequest → State} (h : s.Lawful)
    (done : s.onHeaderWrite mine effect = .next t)
    (he : ∀ o w, s.port.op = some o → mine w.kind = true → s.writeCompletes w → (s.finishOp o).provided → (effect (s.finishOp o) w).provided) :
    t.provided := by
  have provided := provided_of_lawful h
  refine onHeaderWrite_elim (P := State.provided) done provided fun o w underway request kind => provided_afterCompletion _ ?_
  obtain ⟨op, -⟩ := completing_underway.1 underway
  exact he o w op kind (writeCompletes_of_lawful h underway request) (provided_finishOp provided o)

theorem provided_markWrite (h : s.Lawful) (done : execMarkWriteComplete s = .next t) : t.provided := by
  refine provided_headerWrite h done fun o w _ _ completes finished => ?_
  have selected := provided_selectWritten finished completes.elsewhere w.target w.header
  obtain ⟨x, hx⟩ : ∃ x, (s.finishOp o).selectWritten w.target w.header = x := ⟨_, rfl⟩
  unfold State.takeMark
  dsimp only
  rw [hx] at selected ⊢
  have broken : (x.setTable { x.table with status := some .broken }).provided := provided_setTable selected selected.table selected.fits
  exact provided_setAlarms (provided_raise (provided_dropEntries (provided_mapGates broken _) _) _ _ _) _

theorem provided_seal (h : s.Lawful) (done : execSealComplete s = .next t) : t.provided := by
  refine provided_headerWrite h done fun o w _ kind completes finished => ?_
  have seals : w.kind = .commitSeal := by simpa using kind
  obtain ⟨capture, engine⟩ := completes.units (by rw [seals]; decide)
  have valid := completes.content (by rw [seals]; rfl)
  have applied := provided_applySeal finished completes.elsewhere w valid capture engine (sized_of_valid valid)
  obtain ⟨x, hx⟩ : ∃ x, (s.finishOp o).applySeal w w.header = x := ⟨_, rfl⟩
  have frame : x.ctl.state = s.ctl.state ∧ x.header.writeRequest = none
      ∧ (x.header.active.isSome ∨ x.header.active = s.header.active) ∧ x.dec.memorySize = s.dec.memorySize := by
    rw [← hx]
    obtain ⟨active, -⟩ := leavesSetup_setSurvey s.header w.target ⟨.valid, some w.header.formatNumber⟩
    unfold State.applySeal
    dsimp only
    split
    · simp [State.clearEpoch, State.selectWritten, RegionDecoder.load]
      rfl
    · exact ⟨rfl, rfl, .inr active, rfl⟩
  obtain ⟨state, writes, active, dec⟩ := frame
  unfold State.takeSeal
  dsimp only
  rw [hx] at applied ⊢
  split
  · exact applied
  · next going =>
    rw [state] at going
    have sealing := completes.mine going
    rw [seals, WriteKind.state, List.mem_singleton] at sealing
    obtain ⟨stood, size⟩ := finished.headed (by show s.ctl.state.runs; rw [sealing]; exact ⟨rfl, rfl⟩)
    refine provided_takeRemembered (provided_reachResult (provided_opens applied writes ?_ (by rw [dec]; exact size)) _)
    rcases active with some' | same
    · exact some'
    · rw [same]; exact stood

theorem provided_recoverySeal (h : s.Lawful) (done : execRecoverySealComplete s = .next t) : t.provided := by
  refine provided_headerWrite h done fun o w _ kind completes finished => ?_
  have seals : w.kind = .recoverySeal := by simpa using kind
  have cleared := provided_clearEpoch (provided_selectWritten finished completes.elsewhere w.target w.header)
  obtain ⟨active, -⟩ := leavesSetup_setSurvey s.header w.target ⟨.valid, some w.header.formatNumber⟩
  obtain ⟨x, hx⟩ : ∃ x, ((s.finishOp o).selectWritten w.target w.header).clearEpoch = x := ⟨_, rfl⟩
  have frame : x.ctl.state = s.ctl.state ∧ x.header.writeRequest = none ∧ x.header.active = s.header.active ∧ x.dec = s.dec := by
    rw [← hx]
    exact ⟨rfl, rfl, active, rfl⟩
  obtain ⟨state, writes, active, dec⟩ := frame
  unfold State.takeRecoverySeal
  dsimp only
  rw [hx] at cleared ⊢
  have raised := provided_raise cleared .recoveryDone x.epochNumber (BitVec.ofNat 32 x.engine.restored)
  split
  · exact raised
  · next going =>
    rw [(raise_keeps _ _ _ _).2.2.2.2.2.2.1, state] at going
    have recovering := completes.mine going
    rw [seals, WriteKind.state, List.mem_singleton] at recovering
    obtain ⟨stood, size⟩ : s.header.active.isSome ∧ s.dec.memorySize.isSome :=
      finished.headed (by show s.ctl.state.runs; rw [recovering]; exact ⟨rfl, rfl⟩)
    exact provided_endStartUp (provided_opens raised (by simpa using writes) (by simpa [active] using stood) (by simpa [dec] using size))

theorem provided_clearingWrite (h : s.Lawful) (done : execClearingWriteComplete s = .next t) : t.provided := by
  refine provided_headerWrite h done fun o w op kind completes finished => ?_
  have cleared : ((s.finishOp o).setHeader { (s.finishOp o).header with
      surveyB := some ⟨.absent, none⟩, selected := none, writeRequest := none }).provided :=
    { finished with granted := fun _ none => (by cases none), asked := fun _ none => (by cases none) }
  unfold State.takeClearing
  dsimp only
  split
  · exact cleared
  · next going =>
    have formatting : s.ctl.state = .formatting := by
      have mine := completes.mine going
      cases hk : w.kind with
      | clearing n => rw [hk, WriteKind.state, List.mem_singleton] at mine; exact mine
      | formatWrite | commitSeal | recoverySeal | mark => rw [hk] at kind; cases kind
    have size := sized_of_lawful h op going (by rw [formatting]; decide)
    exact provided_requestWrite cleared .a size (.inr (.inl ⟨rfl, formatting⟩))

theorem provided_formatWrite (h : s.Lawful) (done : execFormatWriteComplete s = .next t) : t.provided := by
  refine provided_headerWrite h done fun o w op kind completes finished => ?_
  have other : w.kind ≠ .mark ∧ w.kind.isClearing = false := by
    cases hk : w.kind with
    | formatWrite n => exact ⟨by simp, rfl⟩
    | clearing | commitSeal | recoverySeal | mark => rw [hk] at kind; cases kind
  obtain ⟨capture, engine⟩ := completes.units other.1
  have valid := completes.content other.2
  have size := sized_of_valid valid
  have selected := provided_selectWritten finished completes.elsewhere w.target w.header
  have adopted := provided_adopts (s := ((s.finishOp o).selectWritten w.target w.header).clearEpoch) (c := w.header.config) (pending := none)
    (provided_clearEpoch selected) valid (fun _ none => (by cases none)) rfl capture engine rfl rfl size
  refine provided_takeRemembered ?_
  unfold State.openUnlessParking
  split
  · exact adopted
  · exact provided_opens adopted rfl rfl size

/-! ### Every command -/

theorem provided_onLink {i : Instr} {effect : List Byte → State} (h : s.provided) (done : s.onLink i effect = .next t)
    (he : s.pins.resetLow = false → ∀ sent, (effect sent).provided) : t.provided := by
  cases done
  split
  · split
    · next taken =>
      refine he ?_ _
      have receiving := taken.1
      unfold State.linkReceiving at receiving
      simp only [Bool.and_eq_true, Bool.not_eq_true'] at receiving
      exact receiving.1
    · exact h
  · exact h

theorem provided_respond (h : s.provided) (sent : List Byte) (result : Byte) (data : List Byte) : (s.respond sent result data).provided :=
  provided_setLink h rfl

/-- A configuration staged, but not in FORMATTING (R165, R166). -/
theorem provided_stage (h : s.provided) (elsewhere : s.ctl.state ≠ .formatting) (c : Configuration) : (s.stage c).provided :=
  { h with formatting := fun formatting => absurd formatting elsewhere }

/-- FORMAT begun with a valid configuration (R169, R170). -/
theorem provided_format {number : BitVec 32} (lawful : s.Lawful) (done : execFormat number s = .next t) : t.provided := by
  have h := provided_of_lawful lawful
  refine provided_onLink h done fun released sent => ?_
  have answers : ∀ result data, (s.respond sent result data).provided := fun _ _ => provided_respond h _ _ _
  split
  · exact answers _ _
  · next allowed =>
    split
    · exact answers _ _
    · next valid =>
      split
      · exact answers _ _
      · have valid : s.link.staged.valid s.size = true := by simpa using valid
        have size : s.dec.memorySize.isSome := sized_of_valid valid
        refine provided_arbitrate (provided_requestWrite (s := (s.respond sent resultDone []).setCtl
          { (s.respond sent resultDone []).ctl with state := .formatting, faultReason := none }) { h with
            asked := fun w hw ungranted => ?_
            reads := fun _ _ _ => .inr size
            formatting := fun _ => valid
            starting := fun no => (by cases no)
            headed := ?_ } .b size (.inl rfl))
        · refine .inr ⟨size, ?_⟩
          rcases h.asked w hw ungranted with stopped | ⟨-, clearing | ⟨-, formatting⟩ | active⟩
          · have going : s.ctl.state = .unformatted ∨ s.ctl.state = .fault := by
              unfold State.formatAllowed at allowed
              simp only [Bool.not_eq_true', Bool.not_eq_false, Bool.or_eq_true, Bool.and_eq_true, beq_iff_eq] at allowed
              exact allowed.imp id And.left
            rcases going with state | state <;> rw [state] at stopped <;> cases stopped
          · exact .inl clearing
          · unfold State.formatAllowed at allowed
            simp [formatting] at allowed
          · exact .inr (.inr active)
        · rintro ⟨head, -⟩
          cases head

theorem provided_hostBus (h : s.provided) (done : exec c s = .next t)
    (named : (∃ word hlen lanes data, c = .hostWriteFirstBeat word hlen lanes data)
      ∨ (∃ lanes data, c = .hostWriteLaterBeat lanes data) ∨ (∃ word hlen lanes, c = .hostReadFirstBeat word hlen lanes)
      ∨ ∃ lanes, c = .hostReadLaterBeat lanes) : t.provided := by
  have truncated := provided_truncate h
  have presented : ∀ {write c p}, s.laterBeat write = some (c, p) → s.host.cycle = some c ∧ s.host.portion = some p := by
    intro write c p presented
    unfold State.laterBeat at presented
    split at presented
    · next cycle portion _ =>
      split at presented
      · cases presented; exact ⟨cycle, portion⟩
      · cases presented
    · cases presented
  rcases named with ⟨word, hlen, lanes, data, rfl⟩ | ⟨lanes, data, rfl⟩ | ⟨word, hlen, lanes, rfl⟩ | ⟨lanes, rfl⟩
  · cases done
    split
    · refine provided_settle _ ?_
      split
      · exact provided_closeBeat truncated _ _
      · next decoded => exact provided_decodeWrite truncated (by rw [opened_of_decodesWrite decoded]; exact ⟨rfl, rfl⟩) _ _ _ _
    · exact h
  · cases done
    split
    · next c p beat =>
      obtain ⟨cycle, portion⟩ := presented beat
      refine provided_settle _ ?_
      unfold State.laterWrite
      split
      · next goesOn =>
        exact provided_offerWrite h (by rw [goesOn.1]; exact ⟨rfl, rfl⟩) (h.host.cycle c cycle) (h.host.portion p portion) _
      · exact provided_closeBeat h _ _
    · exact h
  · cases done
    split
    · refine provided_settle _ ?_
      split
      · exact provided_closeBeat truncated _ _
      · exact provided_decodeRead truncated _ _ _
    · exact h
  · cases done
    split
    · next c p beat =>
      obtain ⟨cycle, -⟩ := presented beat
      refine provided_settle _ ?_
      split
      · exact provided_serveRead h (h.host.cycle c cycle) _
      · exact provided_closeBeat h _ _
    · exact h

theorem provided_power (lawful : s.Lawful) (done : exec c s = .next t)
    (named : (∃ tear, c = .resetnAssert tear ∨ c = .supplyCollapse tear) ∨ (∃ sample, c = .resetnRelease sample)
      ∨ c = .pfwTaken ∨ ∃ sample, c = .restart sample) : t.provided := by
  have h := provided_of_lawful lawful
  have cuts : ∀ {tear}, s.cutOff tear = .next t → t.provided := by
    intro tear cut
    unfold State.cutOff at cut
    split at cut
    · cases cut
      exact provided_blank ⟨rfl, rfl, rfl, rfl, rfl, rfl, rfl, rfl, rfl⟩
    · cases cut
  rcases named with ⟨tear, rfl | rfl⟩ | ⟨sample, rfl⟩ | rfl | ⟨sample, rfl⟩
  · exact cuts done
  · exact cuts done
  · cases done
    dsimp only
    split
    · next low =>
      obtain ⟨held, -⟩ := lawful.consistent
      have blank : (s.setPins { s.pins with resetLow := false, msz := sample.msz }).blank := by
        rw [held low]
        exact ⟨rfl, rfl, rfl, rfl, rfl, rfl, rfl, rfl, rfl⟩
      split
      · exact provided_parkAtStart blank _
      · exact provided_startUp blank
    · exact h
  · cases done
    have seen := provided_setPins h { s.pins with pfw := true }
    dsimp only
    split
    · exact seen
    · split
      · exact provided_setCtl seen rfl
      · split
        · exact provided_enterParking seen
        · exact provided_noteParked (provided_enterParking seen)
  · cases done
    have seen := provided_setPins h { s.pins with pfw := false, msz := sample.msz }
    dsimp only
    split
    · exact seen
    · split
      · exact provided_beginRestart _ _
      · split
        · exact provided_setCtl seen rfl
        · exact seen

theorem provided_requestEdge (h : s.provided) (op : Operation) : (s.requestEdge op).provided := by
  have seen := provided_setPins h { s.pins with ereq := true, eop := op.eop }
  unfold State.requestEdge
  dsimp only
  split
  · exact seen
  · exact provided_settle _ (provided_risingEdge (s := (s.setPins { s.pins with ereq := true, eop := op.eop }).setCtl
      { s.ctl with lowSeen := true }) (provided_setCtl seen rfl) op)

theorem exec_provided (lawful : s.Lawful) (done : exec c s = .next t) : t.provided := by
  have h := provided_of_lawful lawful
  have staging : s.ctl.state.staging = true → s.ctl.state ≠ .formatting := fun staging formatting => by
    rw [formatting] at staging; cases staging
  cases c with
  | resetnAssert tear => exact provided_power lawful done (.inl ⟨tear, .inl rfl⟩)
  | supplyCollapse tear => exact provided_power lawful done (.inl ⟨tear, .inr rfl⟩)
  | resetnRelease sample => exact provided_power lawful done (.inr (.inl ⟨sample, rfl⟩))
  | pfwTaken => exact provided_power lawful done (.inr (.inr (.inl rfl)))
  | restart sample => exact provided_power lawful done (.inr (.inr (.inr ⟨sample, rfl⟩)))
  | hostWriteFirstBeat word hlen lanes data => exact provided_hostBus h done (.inl ⟨word, hlen, lanes, data, rfl⟩)
  | hostWriteLaterBeat lanes data => exact provided_hostBus h done (.inr (.inl ⟨lanes, data, rfl⟩))
  | hostReadFirstBeat word hlen lanes => exact provided_hostBus h done (.inr (.inr (.inl ⟨word, hlen, lanes, rfl⟩)))
  | hostReadLaterBeat lanes => exact provided_hostBus h done (.inr (.inr (.inr ⟨lanes, rfl⟩)))
  | hostReadWordArrival merr =>
    refine onOperation_elim (P := State.provided) done h fun o underway => ?_
    obtain ⟨op, -⟩ := completing_underway.1 underway
    split
    · exact provided_settle _ (provided_takeWord h op merr)
    · exact h
  | hostReadComplete =>
    refine onOperation_elim (P := State.provided) done h fun o _ => ?_
    split
    · have finished := provided_finishOp h o
      have ended : ((s.finishOp o).setHost { (s.finishOp o).host with read := none }).provided :=
        provided_setHost finished ⟨finished.host.cycle, finished.host.portion, fun _ none => (by cases none)⟩
      refine provided_afterCompletion _ ?_
      dsimp only
      split
      · exact ended
      · exact provided_requestWaiting ended
    · exact h
  | commit => cases done; exact provided_requestEdge h .commit
  | rollback => cases done; exact provided_requestEdge h .rollback
  | flush => cases done; exact provided_requestEdge h .flush
  | illegalOperation => cases done; exact provided_requestEdge h .illegal
  | answerAck ereq =>
    cases done
    split
    · split
      · exact provided_setCtl h rfl
      · exact provided_ereqLow h
    · exact h
  | ereqFall =>
    cases done
    split
    · exact provided_setPins h _
    · exact provided_ereqLow h
  | drainWriteComplete =>
    exact onOperation_elim (P := State.provided) done h fun o _ => provided_afterCompletion _
      (provided_flushTest (provided_reoffer _ (provided_keepEntries (provided_finishOp h o) _)))
  | preImageReadComplete merr => exact provided_preImageRead lawful done
  | recordWriteComplete => exact provided_recordWrite lawful done
  | recordReadComplete merr => exact provided_recordRead lawful done
  | restoreWriteComplete => exact provided_restoreWrite lawful done
  | headerReadComplete merr => exact provided_headerRead lawful done
  | markWriteComplete => exact provided_markWrite lawful done
  | sealComplete => exact provided_seal lawful done
  | recoverySealComplete => exact provided_recoverySeal lawful done
  | clearingWriteComplete => exact provided_clearingWrite lawful done
  | formatWriteComplete => exact provided_formatWrite lawful done
  | getStatus => exact provided_onLink h (show execGetStatus s = .next t from done) fun _ _ => provided_respond h _ _ _
  | getStaged => exact provided_onLink h (show execGetStaged s = .next t from done) fun _ _ => provided_respond h _ _ _
  | unknownCommand code => exact provided_onLink h (show execUnknownCommand code s = .next t from done) fun _ _ => provided_respond h _ _ _
  | popEvent =>
    refine provided_onLink h (show execPopEvent s = .next t from done) fun _ sent => ?_
    split
    · exact provided_setLink (provided_respond h _ _ _) rfl
    · exact provided_setEvents (provided_respond h _ _ _) _
  | popEventRemoval =>
    cases done
    split
    · have spent : (s.setLink { s.link with phase := .spent, byteCount := 15, pendingRemoval := false }).provided := provided_setLink h rfl
      dsimp only
      split
      · exact provided_setEvents spent _
      · exact spent
    · exact h
  | getActive =>
    refine provided_onLink h (show execGetActive s = .next t from done) fun _ sent => ?_
    split <;> exact provided_respond h _ _ _
  | stageRegion index present cls base length =>
    refine provided_onLink h (show execStageRegion index present cls base length s = .next t from done) fun _ sent => ?_
    split
    · exact provided_respond h _ _ _
    · next stages =>
      split
      · exact provided_respond h _ _ _
      · exact provided_stage (provided_respond h _ _ _) (staging (by simpa using stages)) _
  | stageLog capacity policy watermark =>
    refine provided_onLink h (show execStageLog capacity policy watermark s = .next t from done) fun _ sent => ?_
    split
    · exact provided_respond h _ _ _
    · next stages => exact provided_stage (provided_respond h _ _ _) (staging (by simpa using stages)) _
  | apply =>
    refine provided_onLink h (show execApply s = .next t from done) fun _ sent => ?_
    split
    · exact provided_respond h _ _ _
    · split
      · exact provided_respond h _ _ _
      · next valid =>
        have valid : s.link.staged.valid s.size = true := by simpa using valid
        have same : ∀ w ∈ (s.header.applyStaged s.link.staged).writeRequest, ∃ v ∈ s.header.writeRequest, w.kind = v.kind
            ∧ w.granted = v.granted ∧ w.content = v.content := by
          intro w hw
          obtain ⟨v, stood, rfl⟩ := Option.map_eq_some_iff.1 hw
          refine ⟨v, stood, ?_⟩
          split <;> exact ⟨rfl, rfl, rfl⟩
        refine { provided_respond h sent resultDone [] with pending := ?_, granted := ?_, asked := ?_ }
        · rintro _ ⟨⟩
          exact valid
        · intro w hw granted content
          obtain ⟨v, stood, kind, was, held⟩ := same w hw
          rw [held]
          exact h.granted v stood (was ▸ granted) (kind ▸ content)
        · intro w hw ungranted
          obtain ⟨v, stood, kind, was, -⟩ := same w hw
          rw [kind]
          exact h.asked v stood (was ▸ ungranted)
  | unstage =>
    refine provided_onLink h (show execUnstage s = .next t from done) fun _ sent => ?_
    split
    · exact provided_respond h _ _ _
    · next applies =>
      have elsewhere : s.ctl.state ≠ .formatting := fun formatting => by rw [formatting] at applies; exact applies rfl
      exact { provided_stage (provided_respond h sent resultDone []) elsewhere (s.header.active.getD s.link.staged) with
        pending := fun _ none => (by cases none) }
  | format number => exact provided_format lawful done
  | frameStart =>
    cases done
    split
    · exact h
    · have low := provided_setPins h { s.pins with ssnLow := true }
      dsimp only
      split
      · exact low
      · exact provided_setLink low rfl
  | frameEnd =>
    cases done
    have high := provided_setPins h { s.pins with ssnLow := false }
    split
    · exact high
    · exact provided_setLink high rfl

end Commands

section Statement

/-- Settles O13: a command faults only with an operation past the memory's end, which no lawful state has in progress, and its event
keeps what is addressed within the memory, block by block. -/
theorem stepStaysInMemory : Obligations.StepStaysInMemory := by
  intro s lawful
  unfold step
  split
  · exact ⟨s, rfl, addressed_of_provided (provided_of_lawful lawful)⟩
  · next c rest _ =>
    have waiting := setPending_lawful lawful rest
    obtain ⟨unrefused, faults⟩ := execStopsOnlyBeyondMemory (s.setPending rest) c
    cases ends : exec c (s.setPending rest) with
    | next t => exact ⟨t, rfl, addressed_of_provided (exec_provided waiting ends)⟩
    | fault r =>
      obtain ⟨o, op, beyond⟩ := faults r ends
      have inside := (provided_of_lawful waiting).op o op
      exact absurd beyond (Nat.not_lt.2 (of_decide_eq_true inside))
    | refused r => exact absurd ends (unrefused r)

end Statement

end Sys2Proof.Machine
end
